-- ==== Sys2Proof/Word.lean ====
section
/-! DEFINITION. The word types of the block: bytes, register words, identifiers and flit widths
(02 R26, R4; 12 R279; 21 R458). -/

namespace Sys2Proof

/-- One byte, little-endian throughout (02, 03 R60). -/
abbrev Byte := BitVec 8
/-- One 32-bit register word (21 R458). -/
abbrev W32 := BitVec 32
/-- One 64-bit operand or value (02 R34, 03 R60). -/
abbrev W64 := BitVec 64
/-- Agent ID bits [29:0] (00 R4): package, die, region, cluster, unit. -/
abbrev AgentId := BitVec 30
/-- Die ID: package in [19:4], die in [3:0] (12, "The frame"). -/
abbrev DieId := BitVec 20
/-- A context (Deckle) number (11 R253). -/
abbrev CtxId := BitVec 12
/-- A status code of 02 R43. -/
abbrev Status := BitVec 6
/-- One of the four MESH ports (02, 19 R434). -/
abbrev Port := Fin 4

end Sys2Proof
end

