-- ==== Sys2Proof/Syntax.lean ====
section
/-! DEFINITION. The commands of the block: one constructor per row of spec/opcode_table.json, with the
row's operands. -/

namespace Sys2Proof

/-! ## Operand types -/

/-- A request or continuation flit as a MESH port carries it, less its OPCODE, which the command names
(02 R26, R28). `flagsRsvd` is header bits [23:21] and `rsvd` bits [127:122]; `a` and `b` are the operands
and `payload` bytes 32-63. -/
structure Flit where
  rsvd : BitVec 6 := 0
  seq : BitVec 16 := 0
  handle : W32 := 0
  ctx : CtxId := 0
  inc : Byte := 0
  agent : AgentId := 0
  flagsRsvd : BitVec 3 := 0
  wm : Bool := false
  fwd : Bool := false
  noresp : Bool := false
  more : Bool := false
  cont : Bool := false
  cls : BitVec 2 := 0
  status : Status := 0
  a : W64 := 0
  b : W64 := 0
  payload : BitVec 256 := 0
  deriving DecidableEq, Repr

/-- A flit that Gasuar sends (02 R40-R42): response (class 1), notification (2) or release (3). `data` is
the payload, and, when `two`, burst data bytes 0-63 of a two-flit burst (07 R185). -/
structure OutFlit where
  cls : BitVec 2
  opcode : Byte
  status : Status := 0
  agent : AgentId
  inc : Byte
  ctx : CtxId := 0
  handle : W32 := 0
  seq : BitVec 16 := 0
  wm : Bool := false
  fwd : Bool := false
  a : W64 := 0
  b : W64 := 0
  data : BitVec 512 := 0
  two : Bool := false
  deriving DecidableEq, Repr

/-- The requesters of 21 R465. -/
inductive Requester where
  | regp | sq0 | sq1 | regacc
  deriving DecidableEq, Repr

/-- Who makes a register access, and the REGP_CTX it carries (11 R273); SQ0, SQ1 and REGACC carry 0. -/
structure Acc where
  rq : Requester := .regp
  ctx : CtxId := 0
  deriving DecidableEq, Repr

/-- Lane description of a reduction: operation, format, lane count minus 1 (07 R164-R166). -/
structure LaneDesc where
  op : Byte
  fmt : BitVec 4
  cnt : BitVec 3
  deriving DecidableEq, Repr

/-- A partial lane record (07 R179): bytes 0-39, the non-finite count, the flags byte. -/
structure Partial where
  acc : BitVec 320 := 0
  nf : W32 := 0
  flags : Byte := 0
  deriving DecidableEq, Repr

/-- The key of a quire: origin die and quire ID (12 R281). -/
structure QKey where
  die : DieId
  qid : BitVec 9
  deriving DecidableEq, Repr

/-- A member record of a QPREP (12 R281). -/
structure QMember where
  pos : BitVec 4
  inner : Byte
  slot : BitVec 17
  a : W64
  b : W64
  deriving DecidableEq, Repr

/-- A member's answer in a QDONE (12 R281). -/
structure QAnswer where
  pos : BitVec 4
  status : Status
  a : W64
  b : W64
  deriving DecidableEq, Repr

/-- A 256-bit object image, as words GS_OBJ_W0-W7 hold it (03 R60, R73). -/
abbrev Image := BitVec 256

/-- Subtypes of SHADOW_UPD (13 R317). `seq` is the update sequence of bytes 40-41. -/
inductive ShadowSub where
  | create (counting : Bool) (image : Image)
  | destroy
  | set (value : W64)
  | watchAdd (idx : BitVec 16) (comparand : W64) (cond : Byte) (tinc : Byte) (cookie : BitVec 16)
      (target : AgentId) (ctx : CtxId) (handle : W32)
  | watchFree (idx : BitVec 16)
  | fetch
  | copy (counting conflict : Bool) (image : Image)
  deriving DecidableEq, Repr

/-- The body of a Felt frame, one constructor per TYPE of 12 R281. -/
inductive Body where
  | heartbeat (power : BitVec 3) (halted taken : Bool) (time : W64)
  | ack
  | sync
  | syncAck
  | wake
  | halt (origin : DieId) (cause : Byte) (time : W64)
  | tsyncReq (xn : Byte) (t1 : W64)
  | tsyncResp (xn : Byte) (state : BitVec 2) (t1 t2 t3 : W64)
  | fwmsg (dst src : Byte) (tag : BitVec 16) (bounce : Bool) (msg : List W64)
  | op (opcode : Byte) (f : Flit) (slot : BitVec 17) (cont : Option (BitVec 256))
  | flit (f : OutFlit)
  | notify (f : OutFlit)
  | release (handle : W32) (ctx : CtxId) (status : Status) (epoch : W32) (lanes : Bool) (word : W64)
      (data : BitVec 512)
  | report (handle : W32) (ctx : CtxId) (epoch weight : W32) (desc : Option LaneDesc) (parts : List Partial)
  | refusal (handle : W32) (ctx : CtxId) (status : Status) (epoch : W32)
  | freed (idx : BitVec 16) (target : AgentId)
  | retarget (idx : BitVec 16) (oldInc newInc : Byte) (oldTarget newTarget : AgentId)
  | unwatchRst (idx : BitVec 16) (oldInc : Byte) (target : AgentId)
  | wack (idx : BitVec 16) (done rst : Bool)
  | shadow (slot : BitVec 17) (seq : BitVec 16) (sub : ShadowSub)
  | takeover (role : Byte) (primary : DieId) (time : W64)
  | qstart (key : QKey) (agent : AgentId) (time : W64) (homes : List DieId)
  | qprep (key : QKey) (inc : Byte) (agent : AgentId) (coord : DieId) (time : W64) (ctx : CtxId)
      (members : List QMember)
  | qvote (key : QKey) (no : Bool) (cause : Byte) (pos : BitVec 4) (status : Status)
  | qwound (key : QKey)
  | qdecide (key : QKey) (abort : Bool) (cause : Byte) (voted : List DieId)
  | qdone (key : QKey) (answers : List QAnswer)
  deriving DecidableEq, Repr

/-- The header fields of a received frame (12 R279). -/
structure FHdr where
  sq : Bool := false
  retx : Bool := false
  cwait : Bool := false
  close : Bool := false
  src : DieId
  dst : DieId
  seq : W32 := 0
  ack : W32 := 0
  sack : W32 := 0
  credit : BitVec 16 := 0
  session : BitVec 16 := 0
  deriving DecidableEq, Repr

/-- Why a stream goes DOWN (12 R299; the cause bits of LINK_DOWN, 13 R329). -/
inductive DownCause where
  | silence | retransmit | sync
  deriving DecidableEq, Repr

/-- What the scrubber's visit finds in one copy of a slot (13 R304): whether its data words or its
sequence field read uncorrectable, and whether a single-bit error was corrected. -/
structure CopyErr where
  ue : Bool := false
  seqUe : Bool := false
  single : Bool := false
  deriving DecidableEq, Repr

/-- The arrays of 01 R25 in table order, numbered from 0 in ARRAY_UE (13 R329). -/
inductive ArrayId where
  | vatA | vatB | watch | pool | launcher | red | retx | sqmem | ctx | kind | counters | cache | quire | log
  deriving DecidableEq, Repr

/-- What the check bits of a word show: no error, a single-bit error, which is corrected, or an uncorrectable one (01 R25). -/
inductive WordErr where
  | none | single | ue
  deriving DecidableEq, Repr

/-- What a scrubber visit reads (13 R312) and the errors it finds there (13 R304, R311); `array` is a word of any array as it is
read. -/
inductive ScrubSite where
  | slot (slot : BitVec 17) (a b : CopyErr)
  | watch (idx : BitVec 16) (err : WordErr)
  | log (idx : BitVec 9) (err : WordErr)
  | array (arr : ArrayId) (word : BitVec 24) (err : WordErr)
  deriving DecidableEq, Repr

/-- An erase type of the BFPT (18 R412): its size is 2^`log` bytes, and 0 lists none. -/
structure EraseType where
  log : Byte
  instr : Byte
  deriving DecidableEq, Repr

/-- What the SFDP read of DISCOVER finds (18 R412): of the BFPT the 1-1-4 Fast Read with its instruction and dummy cycles, whether
the quad enable requirements are defined, the address bytes, the page size and density in bytes, and the erase types. -/
structure Sfdp where
  signature : W32
  bfpt : Bool
  fast114 : Bool
  instr114 : Byte := 0x6B
  dummy114 : BitVec 5 := 8
  quadReq : Bool
  addr4only : Bool
  pageSize : W32 := 256
  density : W64 := 0
  erase : List EraseType
  deriving DecidableEq, Repr

/-- What a scan through the 1-bit register of BYPASS shifts (17 R402): the instruction register's code and the bit. -/
structure TapShift where
  ir : BitVec 5 := 0x1F
  tdi : Bool
  deriving DecidableEq, Repr

/-! ## The commands -/

/-- The commands of the block, in the order of spec/opcode_table.json. -/
inductive Instr where
  | nop (p : Port) (f : Flit)
  | read (p : Port) (f : Flit)
  | signal (p : Port) (f : Flit)
  | set (p : Port) (f : Flit)
  | take (p : Port) (f : Flit)
  | give (p : Port) (f : Flit)
  | arrive (p : Port) (f : Flit)
  | arriveR (p : Port) (f : Flit)
  | cas (p : Port) (f : Flit)
  | watch (p : Port) (f : Flit)
  | unwatch (p : Port) (f : Flit)
  | move (p : Port) (f : Flit)
  | qbegin (p : Port) (f : Flit)
  | qop (p : Port) (f : Flit)
  | qcommit (p : Port) (f : Flit)
  | qabort (p : Port) (f : Flit)
  | arm (p : Port) (f : Flit)
  | disarm (p : Port) (f : Flit)
  | invoke (p : Port) (f : Flit)
  | probe (p : Port) (f : Flit)
  | traceMark (p : Port) (f : Flit)
  | undefinedOpcode (p : Port) (opcode : Byte) (f : Flit)
  | burstContinuation (p : Port) (opcode : Byte) (f : Flit)
  | burstTimeout (agent : AgentId)
  | egressTransfer (p : Port)
  | chainedInvoke
  | postOperation
  | lockedOpRestart
  | quirePrepareUnpark
  | tableWalkStart
  | walkReadResponse (tag : Byte) (err : BitVec 2) (data : BitVec 512)
  | mempTimeout (tag : Byte)
  | mempLateResponse (tag : Byte)
  | launchIssue (queue : Fin 16)
  | consReread (queue : Fin 16)
  | consReadResponse (tag : Byte) (err : BitVec 2) (data : BitVec 512)
  | launchWriteResponse (tag : Byte) (err : BitVec 2)
  | lqFaultClear (acc : Acc)
  | lqEnable (acc : Acc) (v : W32)
  | reelEnable (acc : Acc) (v : W32)
  | reelFlush
  | reelWriteResponse (tag : Byte) (err : BitVec 2)
  | stubExpiry (agent : AgentId) (inc : Byte)
  | wmHoldoffEnd (rec : BitVec 13)
  | datagramRx (bytes : List Byte) (err full : Bool)
  | heartbeat (h : FHdr) (power : BitVec 3) (halted taken : Bool) (time : W64)
  | ack (h : FHdr)
  | sync (h : FHdr)
  | syncAck (h : FHdr)
  | wake (h : FHdr)
  | haltFrame (h : FHdr) (origin : DieId) (cause : Byte) (time : W64)
  | tsyncReq (h : FHdr) (xn : Byte) (t1 : W64)
  | tsyncResp (h : FHdr) (xn : Byte) (state : BitVec 2) (t1 t2 t3 : W64)
  | fwmsg (h : FHdr) (dst src : Byte) (tag : BitVec 16) (bounce : Bool) (msg : List W64)
  | op (h : FHdr) (opcode : Byte) (f : Flit) (slot : BitVec 17) (cont : Option (BitVec 256))
  | flit (h : FHdr) (f : OutFlit)
  | notify (h : FHdr) (f : OutFlit)
  | release (h : FHdr) (handle : W32) (ctx : CtxId) (status : Status) (epoch : W32) (lanes : Bool)
      (word : W64) (data : BitVec 512)
  | report (h : FHdr) (handle : W32) (ctx : CtxId) (epoch weight : W32) (desc : Option LaneDesc)
      (parts : List Partial)
  | refusal (h : FHdr) (handle : W32) (ctx : CtxId) (status : Status) (epoch : W32)
  | freed (h : FHdr) (idx : BitVec 16) (target : AgentId)
  | retarget (h : FHdr) (idx : BitVec 16) (oldInc newInc : Byte) (oldTarget newTarget : AgentId)
  | unwatchRst (h : FHdr) (idx : BitVec 16) (oldInc : Byte) (target : AgentId)
  | wack (h : FHdr) (idx : BitVec 16) (done rst : Bool)
  | shadowUpdCreate (h : FHdr) (slot : BitVec 17) (seq : BitVec 16) (counting : Bool) (image : Image)
  | shadowUpdDestroy (h : FHdr) (slot : BitVec 17) (seq : BitVec 16)
  | shadowUpdSet (h : FHdr) (slot : BitVec 17) (seq : BitVec 16) (value : W64)
  | shadowUpdWatchAdd (h : FHdr) (slot : BitVec 17) (seq : BitVec 16) (idx : BitVec 16) (comparand : W64)
      (cond : Byte) (tinc : Byte) (cookie : BitVec 16) (target : AgentId) (ctx : CtxId) (handle : W32)
  | shadowUpdWatchFree (h : FHdr) (slot : BitVec 17) (seq : BitVec 16) (idx : BitVec 16)
  | shadowUpdFetch (h : FHdr) (slot : BitVec 17) (seq : BitVec 16)
  | shadowUpdCopy (h : FHdr) (slot : BitVec 17) (seq : BitVec 16) (counting conflict : Bool) (image : Image)
  | copyAnswerTimeout (slot : BitVec 17)
  | thirdCopyTimeout (slot : BitVec 17)
  | takeover (h : FHdr) (role : Byte) (primary : DieId) (time : W64)
  | qstart (h : FHdr) (key : QKey) (agent : AgentId) (time : W64) (homes : List DieId)
  | qprep (h : FHdr) (key : QKey) (inc : Byte) (agent : AgentId) (coord : DieId) (time : W64) (ctx : CtxId)
      (members : List QMember)
  | qvote (h : FHdr) (key : QKey) (no : Bool) (cause : Byte) (pos : BitVec 4) (status : Status)
  | qwound (h : FHdr) (key : QKey)
  | qdecide (h : FHdr) (key : QKey) (abort : Bool) (cause : Byte) (voted : List DieId)
  | qdone (h : FHdr) (key : QKey) (answers : List QAnswer)
  | quireTimeout (key : QKey)
  | feltSend
  | delayedAck (peer : DieId)
  | retransmitTimer (peer : DieId) (seq : W32)
  | heartbeatTimer (peer : DieId)
  | streamSilenceTimeout (peer : DieId) (cause : DownCause)
  | syncResend (peer : DieId)
  | wakeResend (peer : DieId)
  | haltCopyTimer (peer : DieId)
  | streamSeekRetry (peer : DieId)
  | peerDownHoldTimeout (peer : DieId)
  | scrubVisit (site : ScrubSite)
  | agentReset (acc : Acc) (agent : BitVec 10)
  | create (acc : Acc)
  | destroy (acc : Acc)
  | destroyForce (acc : Acc)
  | fetch (acc : Acc)
  | attach (acc : Acc)
  | detach (acc : Acc) (idx : BitVec 13)
  | wmRead (acc : Acc) (idx : BitVec 13)
  | wmRetarget (acc : Acc) (idx : BitVec 13)
  | openCtx (acc : Acc)
  | deckleClear (acc : Acc)
  | invHandle (acc : Acc) (ctx : CtxId)
  | invCtx (acc : Acc) (ctx : CtxId)
  | invAll (acc : Acc)
  | rejoin (acc : Acc)
  | closeStream (acc : Acc)
  | accept (acc : Acc) (slot : BitVec 17)
  | refit (acc : Acc)
  | dumpStart (acc : Acc) (all : Bool) (ctx : CtxId)
  | dumpWriteResponse (tag : Byte) (err : BitVec 2)
  | irqClaim (acc : Acc) (p : Fin 16) (same : Bool)
  | irqSet (acc : Acc) (src : Byte) (same : Bool)
  | irqPendingClear (acc : Acc) (k : Fin 8) (mask same : W32)
  | secLock (acc : Acc)
  | idcode
  | challenge
  | response (token : BitVec 1216)
  | dbgstat
  | regacc (reg : BitVec 72)
  | tapLock
  | bypass (bit : TapShift)
  | unlockVerifyDone
  | unlockExpiry
  | porstN (lcSealed : Bool)
  | warmRstN
  | selftest (pass : Bool)
  | discover (sfdp : Sfdp)
  | verify (header : BitVec 5120)
  | load (cal : BitVec 2048) (parts : List (List Byte))
  | linkwaitTimeout
  | coolantLoss
  | haltIn
  | haltCommand (acc : Acc)
  | pwrWarnAssert
  | braced
  | braceSummaryResponse (tag : Byte) (err : BitVec 2)
  | pwrWarnDeassert
  | dozeEntry
  | sleep (acc : Acc)
  | sleepEntryComplete
  | sleepEntryTimeout
  | sleepExit
  | gclkAck
  | thermalSample (temp : Byte)
  | droopChange (level : BitVec 3)
  | stepEnable (acc : Acc) (v : W32)
  | stepTick (stepReq : BitVec 6)
  | stepGrantRise
  | stepGrantFall
  | tsyncInterval
  | fitPoint
  | fitEnd
  | ppsIn
  | ppsOutRise
  | ppsOutFall
  | restart (acc : Acc) (sq : Fin 2)
  | wdogKick (acc : Acc) (sq : Fin 2) (limit : BitVec 16)
  | wdogExpiry (sq : Fin 2)
  | sqFault (sq : Fin 2)
  | sqReloadDone (sq : Fin 2) (image : List Byte)
  | sqSend (acc : Acc) (sq : Fin 2) (words : BitVec 6) (dst : DieId) (outbox : List Byte)
  | mboxPop (acc : Acc) (sq : Fin 2)
  | capture (acc : Acc)
  | calWrite (acc : Acc)
  | calwBufferResponse (tag : Byte) (err : BitVec 2) (data : BitVec 512)
  | calFlashDone (readback : BitVec 2048)
  | calFlashTimeout
  | linkcal (acc : Acc)
  | linkcalDone (code : W32)
  | linkcalTimeout
  | regpRsvdAccess (acc : Acc) (wr : Bool) (addr : BitVec 23) (data : W32)
  | regpDenied (acc : Acc) (wr : Bool) (addr : BitVec 23) (data : W32)
  | registerWrite (acc : Acc) (addr : BitVec 23) (data : W32)
  | d2dCellRx (peer : BitVec 4) (sof err full : Bool) (cell : BitVec 512)
  | mempRequestTransfer
  | pdAonSupplyFails
  | refclkEdge
  | agentCounterTick
  | rcRegisterRead (acc : Acc) (addr : BitVec 23)
  deriving DecidableEq, Repr

end Sys2Proof
end

