-- ==== Sys2Proof/Config.lean ====
section
/-! DEFINITION. What the integration fixes and the free values of the model: opaque constants, so that no
proof can see a value of them. -/

namespace Sys2Proof.Config

/-- ROOTKEY_HASH[383:0], the static input of 19 R434 (log entry 10). -/
opaque rootKeyHash : BitVec 384
/-- IDCODE_MFR[10:0], the static input of 19 R434 (log entry 10). -/
opaque idcodeMfr : BitVec 11
/-- SHA-384, which 17 R403 and 18 R414 name by its standard only: bytes given as a length and a
little-endian number (log entry 8). -/
opaque sha384 : Nat → Nat → BitVec 384
/-- ECDSA P-384 verification of public key (x then y), digest, signature (r then s): 17 R403, 18 R415
(log entry 8). -/
opaque ecdsaP384 : BitVec 768 → BitVec 384 → BitVec 768 → Bool
/-- The entropy source's draws (17, "The unlock"): the n-th nonce (log entry 11). -/
opaque nonce : Nat → BitVec 256
/-- How many AOSC quarter-periods fall in the n-th GCLK cycle of the run (14 R334, R474): a free value
(log entry 12). -/
opaque aoscQuarters : Nat → Nat

/-- How many cycles beyond the first IRQ[15:0] takes to follow a change that the n-th cycle shows; it counts modulo 12
(15 R363; log entry 89). -/
opaque irqDelay : Nat → Nat
/-- The object that a context's handle names on another die is a RING, which its requester's die does not know (14 R351;
log entry 62). -/
opaque remoteRing : BitVec 12 → BitVec 32 → Bool

/-- The n-th value that a rule produces and the spec does not state (log entry 30). -/
opaque unstated : Nat → BitVec 64
/-- The lowest node of the system tree whose subtree holds the packages given (09 R229), where this die's topology table
does not tell (log entry 31). -/
opaque treeNode : List Nat → Nat
/-- The partner of a package that this die's topology table does not name (log entries 27 and 31). -/
opaque partner : Nat → Nat
/-- A child of the root hosts a relay role, which the root's topology table does not tell (log entry 27). -/
opaque relayPkg : Nat → Bool

end Sys2Proof.Config
end

