-- ==== Sys2Proof/Machine/State.lean ====
section
/-! DEFINITION. The state of one die's Gasuar as plain data, unit by unit, and its value at reset. A field's
default is its reset value (21 R466, 18 R410, R411); log entries say where the spec gives none. -/

namespace Sys2Proof.Machine

/-- A sparse array: index and content, indices strictly rising; an index not listed holds the array's
default (18 R411: arrays are zeroed). -/
abbrev Tbl (α : Type) := List (Nat × α)

/-! ## Operations in flight -/

/-- Where an operation came from, and so where its answer goes. -/
inductive Src where
  | mesh
  | felt (die : DieId)
  | chained
  /-- A chained INVOKE that a launcher post-operation began: from no agent, as the post-operation itself (10 R246). -/
  | chainedPost
  | post (desc : Nat)
  | stepUnit
  deriving DecidableEq, Repr

/-- An accepted operation (02 R34): `data` holds burst data bytes 0-63, of which bytes 0-31 are the payload. `time` is the
Calender time of an ARRIVE_R's grant on the die that keys its inputs (07 R177). -/
structure Op where
  opcode : Byte
  agent : AgentId
  inc : Byte := 0
  ctx : CtxId
  handle : W32 := 0
  seq : BitVec 16 := 0
  noresp : Bool := false
  a : W64 := 0
  b : W64 := 0
  data : BitVec 512 := 0
  src : Src := .mesh
  time : W64 := 0
  deriving DecidableEq, Repr

/-- A translation (11 R260, R263): words 0 and 1 of an L2 entry. -/
structure Xl where
  w0 : W64
  w1 : W64 := 0
  deriving DecidableEq, Repr

/-- A REPORT's content (12 R281). -/
structure Rep where
  handle : W32
  ctx : CtxId
  epoch : W32
  weight : W32
  desc : Option LaneDesc
  parts : List Partial
  deriving DecidableEq, Repr

/-- What a lock or a hold is on: a slot, or the combining record of a handle in a context (09 R222). -/
inductive Target where
  | slot (n : Nat)
  | record (ctx : CtxId) (handle : W32)
  deriving DecidableEq, Repr

/-- An object command of 03 R74 as its registers stood when it was served (R76). -/
structure ObjCmd where
  cmd : BitVec 3
  slot : Nat
  image : Image
  acc : Acc
  deriving DecidableEq, Repr

/-- A Watermark command of 08 R208 as its registers stood when it was served. -/
structure WmCmd where
  cmd : BitVec 3
  idx : Nat
  image : BitVec 256
  deriving DecidableEq, Repr

/-- A chained INVOKE waiting for slot 0 (04 R109). `origin` is the operation whose pass began it, whose pool entry it
shares. -/
structure Chain where
  target : Nat
  ecode : BitVec 6
  x : W64
  ctx : CtxId
  agent : Option AgentId
  origin : Option Op := none
  /-- It has been granted, and the refusal that the checks of 04 R110 gave it then. -/
  granted : Bool := false
  gate : Option Status := none
  deriving DecidableEq, Repr

/-- An operation that a lock or a third-copy fetch holds (09 R222, 13 R307). -/
inductive Job where
  | op (o : Op) (slot : Nat)
  | arrival (o : Op) (x : Xl)
  | report (r : Rep) (src : DieId) (stage : Nat) (x : Xl)
  | cmd (c : ObjCmd)
  | wm (c : WmCmd)
  | chain (c : Chain)
  deriving DecidableEq, Repr

/-- A REGP command waiting for slot 0 (06 R161). -/
inductive RegCmd where
  | obj (c : ObjCmd)
  | wm (c : WmCmd)
  deriving DecidableEq, Repr

/-! ## Headbox (02, 06 R160) -/

/-- A flit at a MESH port, or accepted from it. `cont` is the continuation of a complete burst. -/
structure MeshFlit where
  port : Port
  opcode : Byte
  f : Flit
  cont : Option Flit := none
  since : Nat := 0
  deriving DecidableEq, Repr

/-- A LINK operation waiting for a grant (06 R160). -/
inductive LinkOp where
  | felt (o : Op) (slot : Nat)
  | step (o : Op)
  /-- A prepare or apply pass of the member at a position of a quire at this home (09 R229). -/
  | quire (key : QKey) (pos : Nat)
  /-- A launcher post-operation (10 R246). -/
  | post (desc : Nat)
  deriving DecidableEq, Repr

/-- The arbiter of 06 R160: `credit` lists the local agents with D = 1, so that a cluster's or region's D
is the number of them below it. -/
structure Arb where
  ptrDie : Nat := 4
  ptrRegion : List Nat := [15, 15, 15, 15]
  ptrCluster : Tbl Nat := []
  credit : List Nat := []
  linkD : Nat := 0
  deriving DecidableEq, Repr

/-- A request that names an object and is not yet answered, in the order accepted (02 R47); `src` is the way it came, and
`resp` its response, once built, while an earlier one of the same agent, context and handle is awaited. -/
structure Unanswered where
  src : Src := .mesh
  opcode : Byte
  agent : AgentId
  inc : Byte
  ctx : CtxId
  handle : W32
  seq : BitVec 16
  resp : Option OutFlit := none
  deriving DecidableEq, Repr

structure Headbox where
  ports : List MeshFlit := []
  waiting : List MeshFlit := []
  order : List Unanswered := []
  link : List LinkOp := []
  bursts : List MeshFlit := []
  window : List Nat := []
  arb : Arb := {}
  chains : List Chain := []
  regq : List RegCmd := []
  /-- A priority grant took slot 0 in this cycle (06 R161). -/
  slot0 : Bool := false
  /-- Grants made in this cycle, and those of ARRIVE_R (01 R19). -/
  granted : Nat := 0
  grantedR : Nat := 0
  /-- Counted cycles (06 R162). -/
  counted : Nat := 0
  /-- Operations forwarded to another die and not yet answered (01 R20, 14 R351 class 7). -/
  remote : List Op := []
  burstDiscard : Nat := 0
  rounds : Nat := 0
  maxWait : Nat := 0
  deriving DecidableEq, Repr

/-! ## Agents (02 R52-R59, 05 R139-R144, 14 R350) -/

/-- A ticket (09 R224). -/
structure Ticket where
  time : W64
  agent : AgentId
  deriving DecidableEq, Repr

/-- A forwarding stub (05 R140, R141): live until its STUB_EXPIRY, then remembered as expired (R142). -/
structure Stub where
  x : AgentId
  xi : Byte
  y : AgentId
  yi : Byte
  live : Bool := true
  started : Bool := false
  deriving DecidableEq, Repr

/-- A MOVE in progress (05 R140): RETARGETs still to be acknowledged, as home die and home index. -/
structure Mv where
  op : Op
  x : AgentId
  xi : Byte
  y : AgentId
  yi : Byte
  wait : List (DieId × BitVec 16)
  deriving DecidableEq, Repr

/-- A reset's watch release still waiting for UNWATCH_RST acknowledgements (05 R144); `inc` is the incarnation that
ended. -/
structure RstWait where
  agent : AgentId
  inc : Byte
  wait : List (DieId × BitVec 16)
  deriving DecidableEq, Repr

structure Agents where
  inc : Tbl Byte := []
  notif : Tbl (BitVec 16) := []
  depth : Tbl Nat := []
  hold : Tbl Ticket := []
  lastTicket : Tbl W64 := []
  stubs : List Stub := []
  moves : List Mv := []
  resets : List RstWait := []
  /-- The cycle up to which GS_AGENT_INC.PENDING of an agent reads 1 (02 R58, R59). -/
  pendUntil : Tbl Nat := []
  incSel : BitVec 10 := 0
  pa : Tbl (List W32) := []
  paSel : BitVec 10 := 0
  paSnap : List W32 := [0, 0, 0, 0, 0, 0, 0, 0]
  deriving DecidableEq, Repr

/-! ## Translation and contexts (11) -/

/-- One cached translation; a COMB one occupies two ways (11 R267). -/
structure TcEntry where
  ctx : CtxId
  handle : W32
  x : Xl
  deriving DecidableEq, Repr

/-- A walk in flight (11 R258, R267). `l2` is none while the L1 read is out. -/
structure Walk where
  ctx : CtxId
  handle : W32
  l2 : Option W64 := none
  addr : W64 := 0
  marked : Bool := false
  deriving DecidableEq, Repr

/-- What waits for a translation (01 R18). -/
inductive PJob where
  | op (o : Op)
  | report (r : Rep) (src : DieId) (stage : Nat)
  deriving DecidableEq, Repr

/-- A job parked for a walk; `gone` once a CLEAR of its context was accepted (11 R269). -/
structure Parked where
  ctx : CtxId
  handle : W32
  job : PJob
  gone : Bool := false
  deriving DecidableEq, Repr

/-- A device-attribute window (11 R265): BASE and LIMIT as page numbers. -/
structure Window where
  base : BitVec 52 := 0
  limit : BitVec 52 := 0
  en : Bool := false
  deriving DecidableEq, Repr

structure Translation where
  cache : List TcEntry := []
  walks : List Walk := []
  missq : List (CtxId × W32) := []
  parked : List Parked := []
  hits : Nat := 0
  misses : Nat := 0
  tcBusy : Bool := false
  tcCtx : CtxId := 0
  tcHandle : W32 := 0
  lastValid : Bool := false
  lastDev : Bool := false
  lastDetail : BitVec 3 := 0
  lastCtx : CtxId := 0
  lastHandle : W32 := 0
  lastAddr : W64 := 0
  dwSel : BitVec 3 := 0
  windows : List Window := List.replicate 8 {}
  deriving DecidableEq, Repr

/-- STATE of a context entry (11 R254). -/
inductive CtxState where
  | free | live | clearing
  deriving DecidableEq, Repr

/-- A context entry (11 R253): `chain` lists the slots of its objects, oldest first (R257). -/
structure CtxEntry where
  state : CtxState := .free
  l1base : BitVec 52 := 0
  l1len : BitVec 21 := 0
  chain : List Nat := []
  deriving DecidableEq, Repr

/-- The per-context counters of 14 R352. -/
structure CtxCnt where
  ops : W32 := 0
  nacks : W32 := 0
  deriving DecidableEq, Repr

structure Contexts where
  tab : Tbl CtxEntry := []
  cnt : Tbl CtxCnt := []
  sel : CtxId := 0
  busy : Bool := false
  err : BitVec 3 := 0
  clearing : Option CtxId := none
  clrDone : Bool := false
  clrCtx : CtxId := 0
  deriving DecidableEq, Repr

/-! ## Vat (03, 13) -/

/-- The object record of 03 R60, less WHEAD, which is read off the slot's list (R63). -/
structure Obj where
  kind : Byte := 0
  state : Byte := 0
  kflags : Byte := 0
  armed : Bool := false
  wmark : Bool := false
  shadow : Bool := false
  diverged : Bool := false
  priv : Bool := false
  epoch : W32 := 0
  value : W64 := 0
  thresh : W64 := 0
  lastsig : AgentId := 0
  owner : CtxId := 0
  deriving DecidableEq, Repr

/-- One mirror copy: object, update sequence (03 R61), and the errors its check bits show (13 R304). -/
structure Copy where
  obj : Obj := {}
  seq : BitVec 16 := 0
  err : CopyErr := {}
  deriving DecidableEq, Repr

/-- A slot: its two copies, its waiter list as watch-table indices, head first (03 R63), and LOST (13 R306). -/
structure Slot where
  a : Copy := {}
  b : Copy := {}
  list : List Nat := []
  lost : Bool := false
  deriving DecidableEq, Repr

/-- A third copy held for another die (13 R314-R316); the object itself lies in the same slot. -/
structure Third where
  home : DieId
  counting : Bool := false
  live : Bool := false
  deriving DecidableEq, Repr

/-- A slot waiting for its third copy (13 R307): the COPY answers so far, as sender, sequence, COUNTING, image. -/
structure FetchWait where
  slot : Nat
  from_ : List DieId
  got : List (DieId × BitVec 16 × Bool × Image)
  both : Bool
  deriving DecidableEq, Repr

/-- A FETCH that a shadow host has not yet answered (13 R307). -/
structure CopyOwed where
  slot : Nat
  home : DieId
  seq : BitVec 16
  deriving DecidableEq, Repr

/-- Toucher tracking of one DIVERGED object (13 R309). -/
structure Told where
  slot : Nat
  agents : List AgentId := []
  deriving DecidableEq, Repr

/-- A response held until every copy holder acknowledged the matching SHADOW_UPD (13 R316). -/
structure HeldResp where
  fids : List Nat
  op : Op
  out : OutFlit
  deriving DecidableEq, Repr

structure Vat where
  slots : Tbl Slot := []
  third : Tbl Third := []
  holders : Tbl (List DieId) := []
  /-- Copy holders lost, on which no third copy is kept any more (13 R325). -/
  lostHolders : List DieId := []
  fetch : List FetchWait := []
  owed : List CopyOwed := []
  told : List Told := []
  badLogged : List Nat := []
  heldResp : List HeldResp := []
  objSlot : BitVec 17 := 0
  w : BitVec 256 := 0
  cmdBusy : Bool := false
  cmdErr : BitVec 3 := 0
  reject : Nat := 0
  deriving DecidableEq, Repr

/-! ## Kind Table (04) -/

/-- A defined user kind (04 R115). `cs` are C0-C3; `rows` the transition rows of R96. -/
structure UKind where
  code : Byte
  nstates : Nat
  init : Nat
  cgop : Nat
  cgl : Nat
  cgr : Nat
  kfmask : Byte
  irqEn : Bool
  linkEn : Bool
  irqsrc : Byte
  linkoff : BitVec 18
  name : BitVec 128
  cs : List W64
  rows : List W64
  deriving DecidableEq, Repr

structure KindTable where
  kinds : List UKind := []
  /-- Kinds that an uncorrectable error left undefined until PORST_N (13 R311). -/
  bad : List Byte := []
  done : Bool := false
  loaded : Bool := false
  err : BitVec 4 := 0
  kind : Byte := 0
  offset : BitVec 16 := 0
  chainMiss : Nat := 0
  chainCut : Nat := 0
  deriving DecidableEq, Repr

/-! ## Watch table (05) -/

/-- A watch (05 R121, R125, R126). -/
structure Watch where
  slot : Nat
  cond : BitVec 4
  comparand : W64
  target : AgentId
  tinc : Byte
  cookie : BitVec 16
  ctx : CtxId
  handle : W32
  held : Bool := false
  ref : W32 := 0
  deriving DecidableEq, Repr

/-- The entry types of 05 R138, and a reservation of a quire's WATCH member (09 R220). -/
inductive Entry where
  | watch (w : Watch)
  | mirror (w : Watch) (home : DieId) (idx : Option (BitVec 16)) (op : Op)
  | queued (slot : Nat) (op : Op) (held : Option W32)
  | armed (slot : Nat) (desc : Nat)
  | standby (w : Watch) (home : DieId) (idx : BitVec 16)
  | reserved (key : QKey) (pos : Nat)
  deriving DecidableEq, Repr

/-- What a walk of 05 R136 still has to test: a list entry, or a Watermark record at the level its pass left. -/
inductive WalkItem where
  | entry (ix : Nat)
  | record (i level : Nat)
  deriving DecidableEq, Repr

/-- A walk that the full notification buffer pauses (05 R136, R137): its slot, the object's fields at the end of its pass,
and whether that pass has raised the sequence. -/
structure ListWalk where
  slot : Nat
  obj : Obj
  bumped : Bool
  items : List WalkItem
  deriving DecidableEq, Repr

structure WatchTable where
  entries : Tbl Entry := []
  walks : List ListWalk := []
  peak : Nat := 0
  full : Nat := 0
  fwd : Nat := 0
  dropStub : Nat := 0
  dropStale : Nat := 0
  deriving DecidableEq, Repr

/-! ## Couch and reductions (06, 07) -/

/-- A pending arrival (06 R148). `slot` names the object when it was counted there; otherwise it belongs to
the combining record of its CTX and HANDLE. `leaving` once its release is built. -/
structure PendArr where
  id : Nat
  op : Op
  slot : Option Nat
  epoch : W32
  weight : Nat
  leaving : Bool := false
  deriving DecidableEq, Repr

/-- Lanes held by a record or slot (07 R187): the description, the partials, whether from the reserve. -/
structure Lanes where
  desc : LaneDesc
  parts : List Partial
  rsv : Bool := false
  deriving DecidableEq, Repr

/-- A die's combining record (06 R149). -/
structure DieRec where
  ctx : CtxId
  handle : W32
  epoch : W32
  count : Nat
  opcode : Byte
  lanes : Option Lanes
  x : Xl
  reported : Bool := false
  deriving DecidableEq, Repr

/-- A role's record (06 R150): `relay` for a relay role, otherwise the package role; `kids` are the dies or
packages that have reported, and `last` the one counted last (06 R153). `pkg` is the package whose role it is: a die
may shadow the relays of several packages beside its own (18 R417). -/
structure RoleRec where
  relay : Bool
  pkg : Nat
  shadow : Bool
  ctx : CtxId
  handle : W32
  epoch : W32
  weight : W32
  kids : List Nat
  lanes : Option Lanes
  x : Xl
  sent : Bool := false
  last : Nat := 0
  deriving DecidableEq, Repr

/-- What an object's home keeps of the open epoch beside the object: children that have reported (13 R322)
and its lanes (07 R187). -/
structure ObjArr where
  kids : List DieId := []
  /-- The children counted in the epoch before. -/
  prev : List DieId := []
  lanes : Option Lanes := none
  /-- Context and handle of every arrival and report, by which frames down the tree name the object. -/
  idents : List (CtxId × W32) := []
  deriving DecidableEq, Repr

/-- A role taken over (13 R321): role code of R320, failed primary, taker. -/
structure Taker where
  role : Byte
  primary : DieId
  taker : DieId
  deriving DecidableEq, Repr

/-- The latest epoch a third copy or record completed, for the takeover's resend (13 R319). -/
structure Completed where
  slot : Option Nat
  relay : Bool := false
  pkg : Nat := 0
  ctx : CtxId
  handle : W32
  epoch : W32
  lanes : Bool
  word : W64
  data : BitVec 512
  x : Xl
  deriving DecidableEq, Repr

/-- An arrival of this cycle that passed its check at its slot, and its number as a pending arrival (06 R147). -/
structure Counted where
  op : Op
  id : Nat
  deriving DecidableEq, Repr

/-- The arrivals that enter one slot together in this cycle (06 R147), and the slot's object and WHEAD before them. -/
structure Entering where
  slot : Nat
  obj : Obj
  whead : Nat
  arrs : List Counted
  deriving DecidableEq, Repr

structure Couch where
  pend : List PendArr := []
  /-- The arrivals of this cycle that have not yet entered their slots (06 R147). -/
  entering : List Entering := []
  nextId : Nat := 0
  recs : List DieRec := []
  roles : List RoleRec := []
  objs : Tbl ObjArr := []
  done : List Completed := []
  takers : List Taker := []
  steppedDown : List (Byte × DieId) := []
  pkgP : Bool := false
  pkgS : Bool := false
  sysP : Bool := false
  sysS : Bool := false
  rlyP : Bool := false
  rlyS : Bool := false
  tier : BitVec 2 := 0
  taken : Bool := false
  barFull : Nat := 0
  roleRsv : BitVec 10 := 0
  redFullRole : Nat := 0
  redFullAgent : Nat := 0
  redNonfin : Nat := 0
  redOvf : Nat := 0
  redPoison : Nat := 0
  deriving DecidableEq, Repr

/-! ## Watermarks (08) -/

inductive Side where
  | below | between | above
  deriving DecidableEq, Repr

/-- A Watermark record (08 R199, R207). -/
structure WmRec where
  slot : Nat
  src : Bool
  hen : Bool
  len : Bool
  h : W64
  l : W64
  ctx : CtxId
  target : AgentId
  tinc : Byte
  cookie : BitVec 16
  hold : Byte
  handle : W32
  up : Nat := 0
  dn : Nat := 0
  peak : Nat := 0
  trough : Nat := 0
  level : Nat := 0
  latch : Bool := false
  side : Side := .between
  holdoff : Bool := false
  notices : BitVec 16 := 0
  deriving DecidableEq, Repr

/-- A block queue's Watermark (08 R205, R206). -/
structure Qwm where
  hen : Bool := false
  len : Bool := false
  high : Byte := 0
  low : Byte := 0
  up : Bool := false
  dn : Bool := false
  cross : Nat := 0
  peak : Nat := 0
  prev : Nat := 0
  side : Side := .below
  deriving DecidableEq, Repr

structure Watermarks where
  recs : Tbl WmRec := []
  w : BitVec 256 := 0
  cmdBusy : Bool := false
  cmdErr : BitVec 3 := 0
  index : BitVec 13 := 0
  q : List Qwm := List.replicate 6 {}
  deriving DecidableEq, Repr

/-! ## Quires (09) -/

/-- A recorded QOP (09 R213) with its answer once known. -/
structure Member where
  pos : Nat
  inner : Byte
  op : Op
  slot : Nat
  home : DieId
  x : Xl
  a : W64
  b : W64
  /-- Its arrival is combined in this die's record (06 R149). -/
  combined : Bool := false
  mirror : Option Nat := none
  ans : Option QAnswer := none
  deriving DecidableEq, Repr

inductive QState where
  | opened | preparing | committed | aborted
  deriving DecidableEq, Repr

/-- A quire record at its origin (09 R210). -/
structure QRec where
  agent : AgentId
  inc : Byte
  ctx : CtxId
  count : Nat
  ticket : Ticket
  state : QState := .opened
  members : List Member := []
  commit : Option Op := none
  level : Nat := 0
  coord : DieId := 0
  /-- Homes whose QDONE is awaited, homes whose QDONE came, homes that failed (13 R325). -/
  wait : List DieId := []
  got : List DieId := []
  failed : List DieId := []
  cause : BitVec 4 := 0
  /-- The NO of the origin's own members: cause and position. -/
  no : Option (BitVec 4 × Nat) := none
  /-- The home whose vote decided an ABORT (09 R231, R234). -/
  blame : Option DieId := none
  deriving DecidableEq, Repr

/-- A member at its home (09 R217): `op` is the inner operation as its requester's, `done` once its prepare pass ran and
`refused` where that ended NO, `applied` once its apply pass ran, `entry` the watch entry reserved for it, `out` the output
event that its row selected (04 R112). -/
structure HMember where
  pos : Nat
  target : Target
  slot : Nat
  x : Xl
  op : Op
  done : Bool := false
  refused : Bool := false
  applied : Bool := false
  entry : Option Nat := none
  out : Nat := 0
  status : Status := 0
  ra : W64 := 0
  rb : W64 := 0
  deriving DecidableEq, Repr

/-- A quire at one of its homes (09 R230): `no` is the first NO of its members, `fids` the SHADOW_UPD frames whose
acknowledgement its answers wait for (13 R316). -/
structure HomeQ where
  key : QKey
  ticket : Ticket
  inc : Byte
  ctx : CtxId
  coord : DieId
  level : Nat := 0
  members : List HMember
  fids : List Nat := []
  voted : Bool := false
  no : Option (BitVec 4 × Nat) := none
  decision : Option (Bool × BitVec 4) := none
  deriving DecidableEq, Repr

/-- A lock-table entry (09 R222). -/
structure Lock where
  target : Target
  key : QKey
  ticket : Ticket
  decided : Bool := false
  deriving DecidableEq, Repr

/-- A coordinator record (09 R231), or its shadow's (R232): `no` is the cause of its first NO or QWOUND, `decision`
whether it decided ABORT, `sent` the decisions not yet received, `answered` the homes that received theirs. -/
structure Coord where
  key : QKey
  shadow : Bool
  homes : Option (List DieId) := none
  votes : List DieId := []
  yes : List DieId := []
  no : Option (BitVec 4) := none
  decision : Option Bool := none
  cause : BitVec 4 := 0
  sent : List (Nat × DieId) := []
  answered : List DieId := []
  deriving DecidableEq, Repr

/-- An operation held on a lock or a fetch. -/
structure Held where
  target : Target
  job : Job
  deriving DecidableEq, Repr

/-- A pass that waits (09 R222, R226; 13 R307), and the quire whose lock it waits for, if any. -/
structure QPark where
  key : QKey
  pos : Nat
  on : Option QKey := none
  deriving DecidableEq, Repr

structure Quires where
  recs : Tbl QRec := []
  homes : List HomeQ := []
  locks : List Lock := []
  coords : List Coord := []
  held : List Held := []
  parked : List QPark := []
  commits : Nat := 0
  aborts : Nat := 0
  wounds : Nat := 0
  dies : Nat := 0
  lastCause : BitVec 4 := 0
  lastPos : BitVec 4 := 0
  lastQid : BitVec 9 := 0
  lastAgent : AgentId := 0
  deriving DecidableEq, Repr

/-! ## Launcher (10) -/

/-- A descriptor (10 R241, R243): its fields, its condition with HELD and reference, PEND and LAUNCH counts. -/
structure Desc where
  queue : Nat
  dbEn : Bool
  dbProd : Bool
  postEn : Bool
  postGive : Bool
  noq : Bool
  tag : BitVec 16
  postSlot : Nat
  dbValue : W32
  postAmount : W32
  body : BitVec 256
  ctx : CtxId
  handle : W32 := 0
  slot : Nat
  entry : Nat
  cond : BitVec 4
  comparand : W64
  held : Bool := false
  ref : W32 := 0
  pend : Nat := 0
  launches : W32 := 0
  /-- Disarmed or disarming: no further firing; freed when its launch ends (10 R249, R251). -/
  dead : Bool := false
  disarm : Option Op := none
  deriving DecidableEq, Repr

/-- The step a launch has reached (10 R246). -/
inductive LStage where
  | entry | doorbellWait | doorbell | post
  deriving DecidableEq, Repr

/-- A launch in progress: `idx` is the ring index its entry was written at; `redo` once its doorbell failed and is to be written
again (10 R252). -/
structure Launch where
  desc : Nat
  queue : Nat
  stage : LStage
  idx : W32
  acked : Bool := false
  late : Bool := false
  redo : Bool := false
  deriving DecidableEq, Repr

/-- A launch queue (10 R239): `prod` is the next ring index to give out; `pending` lists descriptors in the order in which each
first became pending. -/
structure LQueue where
  en : Bool := false
  ctx : CtxId := 0
  logsize : BitVec 4 := 0
  base : BitVec 58 := 0
  db : BitVec 62 := 0
  consAddr : BitVec 62 := 0
  prod : W32 := 0
  cons : W32 := 0
  consOut : Bool := false
  /-- The cycle of the latest CONS read (10 R240). -/
  consAt : Option Nat := none
  fault : Bool := false
  pending : List Nat := []
  /-- Ring indices whose entry write failed, in order, each with the descriptor whose launch is to write it again; none once
  that launch was discarded (10 R252). -/
  gaps : List (W32 × Option Nat) := []
  deriving DecidableEq, Repr

structure Launcher where
  descs : Tbl Desc := []
  runs : List Launch := []
  posts : List Nat := []
  queues : List LQueue := List.replicate 16 {}
  sel : BitVec 4 := 0
  done : Nat := 0
  drop : Nat := 0
  postMiss : Nat := 0
  faultValid : Bool := false
  faultType : BitVec 2 := 0
  faultTimeout : Bool := false
  faultQueue : BitVec 4 := 0
  faultSlot : BitVec 13 := 0
  deriving DecidableEq, Repr

/-! ## MEMP (19 R439-R441, R475) -/

/-- The units of 19 R439, in its order. -/
inductive MUnit where
  | walker | launcher | dump | reel | calw | brace
  deriving DecidableEq, Repr

/-- What a MEMP request is for. -/
inductive MUse where
  | walk (ctx : CtxId) (handle : W32)
  | entry (desc : Nat) (idx : W32)
  | doorbell (desc : Nat) (idx : W32)
  | cons (queue : Nat)
  | reelCons
  | reel (n : Nat)
  | dump (gen : Nat)
  | calRead (part : Nat)
  | calStore (part : Nat)
  | summary
  deriving DecidableEq, Repr

/-- A MEMP request (19 R434): SIZE 0b00 4 bytes, 0b01 32, 0b10 64. -/
structure MReq where
  use : MUse
  wr : Bool
  size : BitVec 2
  addr : W64
  data : BitVec 512 := 0
  deriving DecidableEq, Repr

structure Memp where
  waiting : List MReq := []
  outst : Tbl MReq := []
  retired : List Nat := []
  rr : Nat := 0
  late : Nat := 0
  deriving DecidableEq, Repr

/-! ## Felt (12) -/

inductive StState where
  | closed | sync | up | down | closing
  deriving DecidableEq, Repr

/-- A frame sent and not yet acknowledged (12 R294, R295). `gapped` once an ACK showed it missing. -/
structure Unacked where
  fid : Nat
  seq : W32
  body : Body
  last : W64
  count : Nat
  gapped : Bool := false
  deriving DecidableEq, Repr

/-- A stream (12 R276). `credit` is the low 16 bits of the first SEQ this die may not send; `granted` that
which it granted to the peer. -/
structure Stream where
  eth : Bool
  idx : Nat
  peer : DieId
  pinned : Bool := false
  st : StState := .closed
  mySession : BitVec 16 := 0
  peerSession : BitVec 16 := 0
  next : W32 := 0
  exp : W32 := 0
  unacked : List Unacked := []
  held : List (W32 × Body) := []
  credit : BitVec 16 := 0
  granted : BitVec 16 := 0
  peerCwait : Bool := false
  peerPower : BitVec 3 := 0
  peerHalted : Bool := false
  lastSent : W64 := 0
  lastRecv : W64 := 0
  downAt : W64 := 0
  /-- When the stream last became one on which HEARTBEATs are due (12 R298, R299). -/
  beatFrom : W64 := 0
  syncs : Nat := 0
  ackOwed : Bool := false
  closeOwed : Bool := false
  haltCopies : List (Nat × Body) := []
  used : Nat := 0
  deriving DecidableEq, Repr

/-- A frame waiting to be sent, with its identity within the model. -/
structure TxFrame where
  fid : Nat
  dst : DieId
  body : Body
  deriving DecidableEq, Repr

/-- A frame as transmitted (12 R279); `idx` is the index of its stream (12 R285). -/
structure WireFrame where
  h : FHdr
  body : Body
  idx : Nat := 0
  deriving DecidableEq, Repr

/-- A cell on D2D_TX (12 R283, 19 R434): the addressee's die number, SOF, 64 bytes. -/
structure Cell where
  peer : BitVec 4
  sof : Bool
  data : BitVec 512
  deriving DecidableEq, Repr

/-- The cells received from a peer (12 R283, 19 R444): whether one was marked corrupted, and, once a frame is whole, the
cycle in which its last cell came. -/
structure RxCells where
  bad : Bool
  cells : List (BitVec 512)
  full : Option Nat := none
  deriving DecidableEq, Repr

structure Felt where
  streams : List Stream := []
  session : BitVec 16 := 0
  fid : Nat := 0
  txq : List TxFrame := []
  /-- The frames transmitted in this cycle. -/
  wire : List WireFrame := []
  /-- The cells on D2D_TX and the datagrams on ETHF_TX that carry them (12 R280, R283, R285). -/
  d2dTx : List Cell := []
  ethTx : List (List Byte) := []
  peerHeld : List (DieId × TxFrame) := []
  /-- Reports this die addresses to itself (06 R476), taken in at the end of the cycle that built them: stage 0
  from its die record, 1 from its package record; other frames to itself have stage 0. -/
  loop : List (Nat × Body) := []
  /-- Frames handed back marked PEER_DOWN (12 R299), with the peer. -/
  returned : List TxFrame := []
  halts : List (DieId × W64) := []
  /-- Peers for which no stream could be had, and when (12 R297). -/
  seekAt : List (DieId × W64) := []
  /-- The peer whose wait for credit was served last (12 R293). -/
  rr : Option DieId := none
  rx : Tbl RxCells := []
  ipv4 : Bool := false
  vlanEn : Bool := false
  dscp : BitVec 6 := 0
  hoplim : Byte := 0x40
  udpPort : BitVec 16 := 0xC491
  vlan : BitVec 16 := 0
  mac : BitVec 48 := 0
  gw : BitVec 48 := 0
  iid : BitVec 12 := 0
  ip : BitVec 96 := 0
  prefix4 : BitVec 12 := 0
  dieReg : DieId := 0
  peerSel : BitVec 9 := 0
  cmdBusy : Bool := false
  cmdErr : BitVec 3 := 0
  downD2d : BitVec 16 := 0
  downEth : Bool := false
  errCrc : Nat := 0
  errHdr : Nat := 0
  discLate : Nat := 0
  discSleep : Nat := 0
  retxTimer : Nat := 0
  retxHole : Nat := 0
  noStream : Nat := 0
  deriving DecidableEq, Repr

/-! ## Event log and resilience registers (13) -/

/-- An event-log entry (13 R328). -/
structure LogEntry where
  time : W64
  code : Byte
  sev : BitVec 2
  irq : Bool
  num : BitVec 16
  subject : W32
  data0 : W64
  data1 : W64
  deriving DecidableEq, Repr

/-- A last-resort register (13 R331). -/
structure LastResort where
  code : Byte := 0
  rep : BitVec 4 := 0
  subject : BitVec 20 := 0
  deriving DecidableEq, Repr

structure Resil where
  log : Tbl LogEntry := []
  head : BitVec 16 := 0
  wrapped : Bool := false
  waiting : Nat := 0
  failed : Bool := false
  lr : List LastResort := List.replicate 4 {}
  lrDrop : Nat := 0
  dropped : Nat := 0
  sel : BitVec 9 := 0
  toldOvf : Bool := false
  noShadow : Bool := false
  fatal : Bool := false
  cmdErr : BitVec 3 := 0
  cmdSlot : BitVec 17 := 0
  corr : Nat := 0
  ue : Nat := 0
  /-- Counters that read all ones until cleared (13 R311): 0 per-agent, 1 per-context, 2 always-on, with the index. -/
  stuck : List (Nat × Nat) := []
  cmpSeq : Nat := 0
  cmpThree : Nat := 0
  takeovers : Nat := 0
  stale : Nat := 0
  dup : Nat := 0
  scrubEn : Bool := true
  scrubInt : BitVec 16 := 1
  deriving DecidableEq, Repr

/-! ## Calender, Reel, counters, dump (14) -/

/-- STATE of the Calender (14 R336). -/
inductive CalState where
  | free | coarse | fit | locked
  deriving DecidableEq, Repr

structure Calender where
  time : W64 := 0
  frac : W32 := 0
  rate : W32 := 0
  /-- AOSC quarter-periods since the last REFCLK edge (14 R334). -/
  p : Nat := 0
  /-- θ still to be removed by slew (14 R341), in units. -/
  toSlew : Int := 0
  /-- A SLEEP has stopped slew and exchange until the first group after it (14 R342). -/
  slewHeld : Bool := false
  edges : Nat := 0
  st : CalState := .free
  hold : Bool := false
  pps : Bool := false
  range : Bool := false
  alarm : Bool := false
  ppsAlign : Bool := false
  ppsoEn : Bool := false
  asymD2d : BitVec 12 := 0
  asymEth : BitVec 12 := 0
  offset : W32 := 0
  ppsTime : W64 := 0
  ppsLast : Option W64 := none
  xn : Byte := 0
  sentT1 : Option W64 := none
  parentLocked : Bool := false
  group : List (Int × Int) := []
  window : Option (Int × Int × W64) := none
  points : List (Int × W64) := []
  cmdBusy : Bool := false
  cmdErr : BitVec 3 := 0
  deriving DecidableEq, Repr

/-- A Reel record built and not yet written (14 R346). -/
structure ReelRec where
  bytes : BitVec 256
  deriving DecidableEq, Repr

structure Reel where
  en : Bool := false
  allctx : Bool := false
  ctx : CtxId := 0
  logsize : BitVec 5 := 0
  base : BitVec 58 := 0
  consAddr : BitVec 62 := 0
  prod : W32 := 0
  cons : W32 := 0
  consOut : Bool := false
  /-- The cycle of the latest CONS read (10 R240). -/
  consAt : Option Nat := none
  seq : W32 := 0
  buffer : List ReelRec := []
  lost : Nat := 0
  lostFirst : W64 := 0
  lostLast : W64 := 0
  fault : Bool := false
  dropped : Nat := 0
  /-- EN was cleared in this cycle: a TRACE_MARK granted in it is still recorded (14 R345). -/
  closing : Bool := false
  deriving DecidableEq, Repr

/-- What a dump still has to read (14 R353, R354). -/
inductive DumpItem where
  | obj (slot : Nat)
  | mirrors | quires | locks | pends
  deriving DecidableEq, Repr

/-- A dump: `ready` are records read and not yet issued, `recs` the records issued, `crc` the CRC register over them,
`gen` the number of the run, `ok` the writes acknowledged; `ended` once END is issued. -/
structure Dump where
  base : BitVec 58 := 0
  lim : BitVec 26 := 0
  all : Bool := false
  ctx : CtxId := 0
  busy : Bool := false
  err : BitVec 3 := 0
  gen : Nat := 0
  todo : List DumpItem := []
  ready : List (BitVec 512) := []
  recs : Nat := 0
  crc : W32 := 0xFFFFFFFF
  ok : Nat := 0
  ended : Bool := false
  endErr : BitVec 3 := 0
  deriving DecidableEq, Repr

/-! ## Interrupts (15) -/

/-- A source (15 R362, R365): `chg` lists the masks written in the last 12 cycles, with the cycle each takes
effect for claims; `vEn` and `vTarget` are what claims see before them. -/
structure IrqSrc where
  pending : Bool := false
  count : Nat := 0
  en : Bool := false
  wake : Bool := false
  target : BitVec 16 := 0
  vEn : Bool := false
  vTarget : BitVec 16 := 0
  chg : List (Nat × Bool × BitVec 16) := []
  latch : Nat := 0
  deriving DecidableEq, Repr

structure Irq where
  src : Tbl IrqSrc := []
  /-- Levels that IRQ[15:0] is still to take, and the cycles in which it takes them (15 R363). -/
  due : List (Nat × BitVec 16) := []
  sel : Byte := 0
  rsvdSrc : Nat := 0
  deriving DecidableEq, Repr

/-! ## Power, step unit, thermal, bubbles (16) -/

inductive PwrState where
  | active | doze | sleep | brace
  deriving DecidableEq, Repr

inductive BPhase where
  | none | bracing | braced | unbracing
  deriving DecidableEq, Repr

/-- Where SLEEP entry or exit stands (16 R376, R378). -/
inductive SleepStep where
  | none | draining | asleep | exiting
  deriving DecidableEq, Repr

structure Power where
  st : PwrState := .active
  bphase : BPhase := .none
  halted : Bool := false
  hcause : Byte := 0
  sumErr : Bool := false
  warnDeb : Bool := false
  warns : Nat := 0
  autoDoze : Bool := false
  dozeIdle : BitVec 16 := 4
  cmdBusy : Bool := false
  cmdErr : BitVec 3 := 0
  sleep : SleepStep := .none
  wake : Bool := false
  /-- A halt or a BRACE that follows the end of a SLEEP or DOZE exit (16 R379, 17 R398). -/
  haltOwed : Option Byte := none
  braceOwed : Bool := false
  off : Bool := false
  braceBase : BitVec 58 := 0
  braceTime : W64 := 0
  bracePrev : PwrState := .active
  braceAborts : BitVec 16 := 0
  braceCommits : BitVec 16 := 0
  braceAborts3 : BitVec 16 := 0
  floor : BitVec 6 := 0
  maxup : BitVec 6 := 0x3F
  thalt : Byte := 0x69
  ttrip : Byte := 0x5F
  maxops : BitVec 11 := 0x400
  temp : Byte := 0
  peak : Byte := 0x80
  bubEn : Bool := false
  bubLevel : BitVec 3 := 0
  /-- The level of DROOP last recognised (16 R393). -/
  droopSeen : BitVec 3 := 0
  umask : BitVec 16 := 0
  cmask : BitVec 64 := 0
  deriving DecidableEq, Repr

structure Step where
  en : Bool := false
  lead : Byte := 0x0A
  period : BitVec 16 := 0x64
  handle : W32 := 0
  fwReq : BitVec 6 := 0
  late : Bool := false
  clamp : Bool := false
  pend : Bool := false
  /-- The arrival's release is awaited; `reading` while the READ that learns E is out. -/
  reading : Bool := false
  epoch : Option W32 := none
  lasterr : Status := 0
  val : BitVec 6 := 0
  sent : BitVec 6 := 0
  at_ : W64 := 0
  presented : Bool := false
  /-- STEP_REQ as last seen, and the cycle in which (16 R389). -/
  stepReq : BitVec 6 := 0
  reqAt : Nat := 0
  /-- A tick, and a temperature trip, that wait to be met (16 R388, R398). -/
  due : Bool := false
  tripDue : Bool := false
  /-- Answers and releases to the unit's own requests, taken in at the end of the cycle. -/
  inbox : List OutFlit := []
  deriving DecidableEq, Repr

/-! ## Security, TAP, start-up, sequencers (17, 18) -/

inductive SecState where
  | virgin | sealed_ | openAuth
  deriving DecidableEq, Repr

structure Sec where
  st : SecState := .virgin
  token : Option (BitVec 1216) := none
  spoiled : Bool := false
  lockout : Bool := false
  fails : Nat := 0
  lastres : BitVec 4 := 0
  grant : BitVec 4 := 0
  expiry : W64 := 0
  nonce : Option (BitVec 256) := none
  /-- The value the TAP's latest capture shifts out on TDO, and the REGACC register (17 R402, R407). -/
  capture : BitVec 256 := 0
  /-- The TAP's instruction register (17 R402); its reset selects IDCODE, as IEEE 1149.1 has it (log entry 92). -/
  ir : BitVec 5 := 1
  regacc : BitVec 72 := 0
  deriving DecidableEq, Repr

/-- A directory entry (18 R414). -/
structure Part where
  off : Nat
  len : Nat
  digest : BitVec 384
  deriving DecidableEq, Repr

/-- The verified image header (18 R414). -/
structure Header where
  sckDiv : Nat
  rolemap : Bool
  length : Nat
  imgver : W32
  linkwait : Nat
  caloff : Nat
  parts : List Part
  deriving DecidableEq, Repr

/-- A role record (18 R417). -/
structure RoleDef where
  role : Nat
  shadow : Bool
  package : Nat
  parent : Nat
  children : List Nat
  deriving DecidableEq, Repr

/-- The topology table (18 R416). -/
structure Topo where
  die : DieId := 0
  packages : Nat := 1
  dies : Nat := 1
  regions : Nat := 1
  clusters : Nat := 1
  units : Nat := 1
  pkgDie : Nat := 0
  pkgShadow : Nat := 0xFF
  tier : Nat := 3
  partner : Nat := 0
  parent : Nat := 0
  ppartner : Nat := 0
  recs : List RoleDef := []
  deriving DecidableEq, Repr

/-- The policy fields kept after CHECK (18 R418). -/
structure Policy where
  dbgKey : Option (BitVec 768) := none
  calwEn : Bool := false
  privCreate : Bool := false
  dbgAllow : BitVec 4 := 0
  floor : BitVec 6 := 0
  maxup : BitVec 6 := 0
  ttrip : Byte := 0
  thalt : Byte := 0
  maxops : BitVec 11 := 0
  deriving DecidableEq, Repr

/-- The live calibration values (18 R422). -/
structure Cal where
  factory : Bool := false
  aoscTrim : BitVec 10 := 0x200
  tdOffset : BitVec 16 := 0
  tdGain : BitVec 16 := 0x8000
  deskew : List W32 := List.replicate 16 0
  deriving DecidableEq, Repr

inductive Phase where
  | reset | selftest | discover | verify | load | check | config | links | run | failed | held
  deriving DecidableEq, Repr

/-- A calibration command's progress (18 R424). -/
inductive CalwStep where
  | idle | capture (left : List Nat) | fetch (left : List Nat) | flash | train (peer : BitVec 4)
  deriving DecidableEq, Repr

structure Boot where
  phase : Phase := .reset
  err : BitVec 4 := 0
  warm : Bool := false
  mode114 : Bool := false
  linkto : Bool := false
  part : BitVec 3 := 0
  imgver : W32 := 0
  us : W32 := 0
  resetTime : W64 := 0
  /-- What DISCOVER found of the flash (18 R412), and the size of its smallest erase type. -/
  flash : Option Sfdp := none
  eraseSize : Nat := 0
  addr4 : Bool := false
  header : Option Header := none
  topo : Topo := {}
  policy : Policy := {}
  cal : Cal := {}
  factory : Bool := false
  caldef : Bool := false
  writes : Nat := 0
  stepEnOwed : Bool := false
  bubEnOwed : Bool := false
  calwAddr : BitVec 58 := 0
  calw : CalwStep := .idle
  /-- Who uses and awaits the flash, in the order requested: 0 SQ0, 1 SQ1, 2 CAL_WRITE (18 R428). -/
  flashq : List Nat := []
  calwErr : BitVec 3 := 0
  calwBuf : BitVec 2048 := 0
  flashSet : BitVec 2048 := 0
  deriving DecidableEq, Repr

inductive SqState where
  | run | reload | stopped | wait
  deriving DecidableEq, Repr

/-- A message for an INBOX slot (18 R430). -/
structure InMsg where
  src : DieId
  dstRole : Byte
  srcRole : Byte
  tag : BitVec 16
  bounce : Bool
  msg : List W64
  deriving DecidableEq, Repr

/-- One sequencer (18 R426-R430). -/
structure Seqr where
  role : Bool := false
  st : SqState := .run
  held : Bool := true
  cause : BitVec 4 := 0
  count : Nat := 0
  limit : BitVec 16 := 0x64
  kicks : Nat := 0
  keep : BitVec 256 := 0
  /-- The memory of 01 R25 and 18 R426: firmware from 0, OUTBOX at 0x1BE00, INBOX at 0x1C000. -/
  mem : Tbl Byte := []
  /-- The oldest INBOX slot in use, and how many are. -/
  head : Nat := 0
  msgs : Nat := 0
  words : BitVec 6 := 0
  dst : DieId := 0
  /-- The frame that the latest write of GS_SQn_SEND gave to Felt. -/
  sendFid : Option Nat := none
  deriving DecidableEq, Repr

structure Seqs where
  sq0 : Seqr := {}
  sq1 : Seqr := {}
  cmdErr : BitVec 3 := 0
  cmdSq : Bool := false
  holdHalt : Bool := false
  holdGrant : Bool := false
  holdSq : Bool := false
  holdIrq : BitVec 16 := 0
  deriving DecidableEq, Repr

/-! ## REGP, egress, pins (19, 21, 01 R21) -/

/-- A register access that waits for REGP_READY (19 R442). -/
structure RegAcc where
  acc : Acc
  wr : Bool
  addr : BitVec 23
  data : W32
  /-- The offset of a REGACC access names no register's address: above bit 24, or within a word (17 R407; 21 R460). -/
  far : Bool := false
  deriving DecidableEq, Repr

structure Regp where
  stalled : List RegAcc := []
  rdata : W32 := 0
  latches : Tbl W32 := []
  scratch : BitVec 128 := 0
  deny : Nat := 0
  rsvd : Nat := 0
  rsvdWr : Bool := false
  rsvdAddr : BitVec 23 := 0
  meshMap : BitVec 2048 := BitVec.ofNat 2048 (0xE4E4E4E4 * ((2 ^ 2048 - 1) / (2 ^ 32 - 1)))
  d2dDrop : Nat := 0
  ethDrop : Nat := 0
  deriving DecidableEq, Repr

/-- A flit waiting for egress (01 R21): `prio` 0 release, 1 notification, 2 response; `half` once the first
flit of two has left; `pend` names the pending arrival that ends when the release leaves (06 R148). -/
structure EgFlit where
  f : OutFlit
  prio : Nat
  built : Nat
  half : Bool := false
  pend : Option Nat := none
  deriving DecidableEq, Repr

structure Egress where
  queue : List EgFlit := []
  /-- The flit last transferred on each MESH port, and whether it was a continuation. -/
  out : Tbl (OutFlit × Bool) := []
  deriving DecidableEq, Repr

structure Pins where
  haltOut : Bool := false
  fatalN : Bool := true
  logfailN : Bool := true
  stepGrant : Bool := false
  ppsOut : Bool := false
  gclkReq : Bool := false
  gclkAck : Bool := false
  pswCoreEn : Bool := true
  d2dLowrate : Bool := false
  calPeer : BitVec 4 := 0
  calCode : W32 := 0
  calTrain : Bool := false
  /-- The peers and codes presented with a pulse of D2D_CAL_LOAD in this cycle, in order (19 R445). -/
  calLoad : List (BitVec 4 × W32) := []
  /-- GS_PWR_STAT.COOLANT; its Reset column is 0 (16 R397). -/
  coolantLossN : Bool := false
  droop : BitVec 3 := 0
  /-- IRQ[15:0], driven from a register (15 R363, R369). -/
  irq : BitVec 16 := 0
  deriving DecidableEq, Repr

/-- The clock of the model (log entry 1) and its counter of free values (log entry 11). -/
structure Clk where
  cycle : Nat := 0
  free : Nat := 0
  deriving DecidableEq, Repr

/-- The state of the die's Gasuar. `pending` is the queue of commands that wait, first in, first out. -/
structure State where
  pending : List Instr := []
  clk : Clk := {}
  hb : Headbox := {}
  ag : Agents := {}
  xl : Translation := {}
  ctx : Contexts := {}
  vat : Vat := {}
  kt : KindTable := {}
  wt : WatchTable := {}
  couch : Couch := {}
  wm : Watermarks := {}
  qu : Quires := {}
  la : Launcher := {}
  memp : Memp := {}
  felt : Felt := {}
  res : Resil := {}
  cal : Calender := {}
  reel : Reel := {}
  aon : List W64 := List.replicate 20 0
  dump : Dump := {}
  irq : Irq := {}
  pwr : Power := {}
  step : Step := {}
  sec : Sec := {}
  boot : Boot := {}
  sq : Seqs := {}
  regp : Regp := {}
  eg : Egress := {}
  pins : Pins := {}
  deriving DecidableEq, Repr

/-- The machine right after reset: every register at its Reset column (21 R466), every array zeroed
(18 R411), PHASE RESET, before start-up loads anything (log entry 4). -/
def State.reset : State := {}

/-- Why a step can stop with a fault. No rule of this block stops the machine: nothing raises a fault. -/
inductive Fault where
  /-- Raised by no meaning: the block has no fault that stops it (safe: unreachable). -/
  | none
  deriving DecidableEq, Repr

/-- Why a step can answer no meaning. -/
inductive Refusal where
  /-- The row named has no meaning in the model yet (safe: the run stops). -/
  | notModelled (mnemonic : String)
  deriving DecidableEq, Repr

end Sys2Proof.Machine
end

