-- ==== Sys2Proof/Machine/Table.lean ====
section
/-! DEFINITION. Sparse tables, saturating counters, byte fields and the CRC of 04 R114. -/

namespace Sys2Proof.Machine

/-! ## Sparse tables -/

/-- The content listed at index `k`. -/
def tget : Tbl α → Nat → Option α
  | [], _ => none
  | (i, a) :: r, k => if i = k then some a else tget r k

/-- The content at index `k`, or the array's default. -/
def tgetD (t : Tbl α) (k : Nat) (d : α) : α := (tget t k).getD d

/-- List `a` at index `k`, keeping the indices strictly rising. -/
def tset : Tbl α → Nat → α → Tbl α
  | [], at_, a => [(at_, a)]
  | e :: later, at_, a =>
    if e.1 < at_ then e :: tset later at_ a else (at_, a) :: (if e.1 = at_ then later else e :: later)

/-- List nothing at index `k`. -/
def terase (t : Tbl α) (k : Nat) : Tbl α := t.filter (fun e => e.1 != k)

/-- Write `a` at index `k` of an array whose default is `d`: the default is not listed. -/
def tput [DecidableEq α] (d : α) (t : Tbl α) (k : Nat) (a : α) : Tbl α :=
  if a = d then terase t k else tset t k a

/-- The canonical form: indices strictly rising. -/
def twf (t : Tbl α) : Bool := decide (t.Pairwise (fun e f => e.1 < f.1))

/-- The lowest index from `n` on that is not listed in a table in canonical form. -/
def lowestFreeFrom : Tbl α → Nat → Nat
  | [], n => n
  | (i, _) :: r, n => if i = n then lowestFreeFrom r (n + 1) else lowestFreeFrom r n

/-- Change the content of index `k` where it is listed. -/
def tmod (t : Tbl α) (k : Nat) (f : α → α) : Tbl α := t.map (fun e => if e.1 = k then (k, f e.2) else e)

/-! ## Counters and lists -/

/-- One up, saturating at `m`. -/
def satInc (m n : Nat) : Nat := min m (n + 1)

/-- A 16-bit RC counter (21 R461). -/
def sat16 (n : Nat) : Nat := satInc 0xFFFF n

/-- Add a wrapping 64-bit counter of `aon` (14 R349). -/
def bumpAt (l : List W64) (i : Nat) : List W64 := l.modify i (· + 1)

/-- Insert keeping a Nat list strictly rising. -/
def insSorted (n : Nat) (l : List Nat) : List Nat := l.filter (· < n) ++ n :: l.filter (n < ·)

/-! ## Bytes -/

/-- The field of `w` bits at bit `off` of a little-endian number. -/
def fld (n off w : Nat) : Nat := (n >>> off) % 2 ^ w

/-- A little-endian number from bytes. -/
def leNat : List Byte → Nat
  | [] => 0
  | b :: r => b.toNat + 256 * leNat r

/-- The `n` low bytes of a number, least significant first. -/
def toBytes : Nat → Nat → List Byte
  | 0, _ => []
  | k + 1, n => BitVec.ofNat 8 n :: toBytes k (n / 256)

/-- One byte into the CRC-32C register, least significant bit first (log entry 9). -/
def crcByte (c : BitVec 32) (b : Byte) : BitVec 32 :=
  (List.range 8).foldl
    (fun x _ => if x.getLsbD 0 then (x >>> 1) ^^^ 0x82F63B78#32 else x >>> 1) (c ^^^ b.zeroExtend 32)

/-- CRC-32C (Castagnoli), which 04 R114, 12 R279, 14 R355 and 18 R422 name (log entry 9). -/
def crc32c (bs : List Byte) : BitVec 32 := ~~~ (bs.foldl crcByte 0xFFFFFFFF#32)

/-- The bit-by-bit mask `m` of ones of width `w` at `lo`. -/
def bit (b : Bool) : Nat := if b then 1 else 0

end Sys2Proof.Machine
end

