-- ==== Sys2Proof/Machine/Irq.lean ====
section
/-! DEFINITION. Interrupt sources: assertion, delivery, claim (15). -/

namespace Sys2Proof.Machine

/-- The reserved source numbers of 15 R359. -/
def irqReserved (n : Nat) : Bool :=
  n == 0 || (0x0B ≤ n && n ≤ 0x0F) || (0x16 ≤ n && n ≤ 0x1F) || (0x25 ≤ n && n ≤ 0x7F) || 0xFF < n

/-- The record of source `n`. -/
def irqGet (s : State) (n : Nat) : IrqSrc := tgetD s.irq.src n {}

/-- Write the record of source `n`. -/
def irqPut (s : State) (n : Nat) (r : IrqSrc) : State :=
  { s with irq := { s.irq with src := tput {} s.irq.src n r } }

/-- Assert a source (15 R361, R362): PENDING is set and COUNT rises by 1, saturating at 255. -/
def assertSource (n : Nat) (s : State) : State :=
  if irqReserved n then s
  else
    let r := irqGet s n
    irqPut s n { r with pending := true, count := satInc 255 r.count }

/-- EN and TARGET of a source as a claim taken in cycle `c` sees them (15 R365): the latest write whose
effect has begun, else what stood before. -/
def irqEff (c : Nat) (r : IrqSrc) : Bool × BitVec 16 :=
  (r.chg.filter (fun x => x.1 ≤ c)).foldl (fun _ x => x.2) (r.vEn, r.vTarget)

/-- Write EN, WAKE and TARGET of a source (15 R361, R365): the registers change at once and claims see the
change 12 cycles later. -/
def irqSetCfg (n : Nat) (en wake : Bool) (target : BitVec 16) (s : State) : State :=
  if irqReserved n then s
  else
    let r := irqGet s n
    let c := s.clk.cycle
    let (e0, t0) := irqEff c r
    let r1 := { r with vEn := e0, vTarget := t0, chg := r.chg.filter (fun x => c < x.1) }
    let wk := if 0x20 ≤ n ∧ n ≤ 0x23 then wake else false
    if r.en = en ∧ r.target = target then irqPut s n { r1 with wake := wk }
    else irqPut s n { r1 with en, wake := wk, target, chg := r1.chg ++ [(c + 12, en, target)] }

/-- IRQ[p] at its steady level (15 R363). -/
def irqLine (s : State) (p : Nat) : Bool :=
  s.irq.src.any (fun e => e.2.pending && e.2.en && e.2.target.getLsbD p)

/-- IRQ[15:0] at its steady level. -/
def irqLines (s : State) : BitVec 16 :=
  BitVec.ofNat 16 ((List.range 16).foldl (fun n p => if irqLine s p then n + 2 ^ p else n) 0)

/-- The level that IRQ[15:0] is last to take. -/
def irqAim (s : State) : BitVec 16 := (s.irq.due.getLast?.map (·.2)).getD s.pins.irq

/-- The levels that IRQ[15:0] is to take, and the level it has, in cycle `c` of GCLK (R363): a change of the steady level
reaches it 1 to 12 cycles after the cycle that made it (log entry 89). -/
def irqPlan (c : Nat) (s : State) : List (Nat × BitVec 16) × BitVec 16 :=
  let v := irqLines s
  let l := if v = irqAim s then s.irq.due else s.irq.due ++ [(c + Config.irqDelay c % 12, v)]
  match l.reverse.find? (fun e => decide (e.1 ≤ c)) with
  | none => (l, s.pins.irq)
  | some e => ((l.reverse.takeWhile (fun e => decide (c < e.1))).reverse, e.2)

/-- The source a claim by processor `p` selects (15 R364): the lowest-numbered eligible one. -/
def irqSelect (s : State) (p : Nat) : Option (Nat × IrqSrc) :=
  s.irq.src.find? (fun e => e.2.pending && (irqEff s.clk.cycle e.2).1 && (irqEff s.clk.cycle e.2).2.getLsbD p)

/-- A claim (15 R364): what GS_IRQ_CLAIMp returns, and the state after. -/
def irqClaim (p : Nat) (s : State) : W32 × State :=
  match irqSelect s p with
  | none => (0x3FF, s)
  | some (n, r) =>
    (BitVec.ofNat 32 (r.count * 65536 + n), irqPut s n { r with pending := false, count := 0 })

/-- A write of 1 to a PENDING bit (15 R366): COUNT is kept. -/
def irqW1C (n : Nat) (s : State) : State :=
  if irqReserved n then s else irqPut s n { irqGet s n with pending := false }

/-- OUT 0x40 of a user-kind row (04 R108, 15 R360). -/
def irqUser (n : Nat) (s : State) : State :=
  if irqReserved n then { s with irq := { s.irq with rsvdSrc := sat16 s.irq.rsvdSrc } }
  else assertSource n s

end Sys2Proof.Machine
end

