-- ==== Sys2Proof/Machine/Ops.lean ====
section
/-! DEFINITION. The named operations every unit shares: time, counters, the event log, egress. -/

namespace Sys2Proof.Machine

/-! ## Time and counters -/

/-- Calender time as read between edges (14 R334). -/
def now (s : State) : W64 := s.cal.time + BitVec.ofNat 64 (5 * s.cal.p)

/-- One always-on counter up (14 R349). -/
def bumpAon (c : Nat) (s : State) : State := { s with aon := bumpAt s.aon c }

/-- The NACK or DIVERGED counter of a status other than OK (02 R45, 14 R349). -/
def countStatus (st : Status) (s : State) : State := if st = 0 then s else bumpAon st.toNat s

/-- The next value that the spec leaves unstated (log entry 30). -/
def unstated (s : State) : W64 × State :=
  (Config.unstated s.clk.free, { s with clk := { s.clk with free := s.clk.free + 1 } })

/-! ## The event log (13 R327-R331) -/

/-- SEV of an event code (13 R329): 0 INFO, 1 WARN, 2 ERROR, 3 FATAL. -/
def sevOf (code : Nat) : BitVec 2 :=
  if code = 0x16 then 0
  else if code = 0x11 then 3
  else if code ∈ [0x01, 0x03, 0x04, 0x0B, 0x0C, 0x0E, 0x0F, 0x15, 0x17, 0x18, 0x19, 0x1A] then 1
  else 2

/-- Fill a last-resort register, or raise its repeat count (13 R331). -/
def lrFill (i : Nat) (code : Nat) (subject : W32) (r : Resil) : Resil :=
  let old := r.lr.getD i {}
  let sub := subject.setWidth 20
  if old.code = BitVec.ofNat 8 code ∧ old.subject = sub then
    { r with lr := r.lr.set i { old with rep := if old.rep = 15 then 15 else old.rep + 1 } }
  else
    { r with
      lr := r.lr.set i { code := BitVec.ofNat 8 code, subject := sub }
      lrDrop := if i = 3 ∧ old.code ≠ 0 then satInc 15 r.lrDrop else r.lrDrop }

/-- Write one event: to the ring, or, in last-resort mode, to GS_LOG_LR1-3 (13 R327, R330). In FAILED no entry is written (18
R413). -/
def logWrite (code : Nat) (irq : Bool) (subject : W32) (d0 d1 : W64) (s : State) : State :=
  let r := s.res
  if s.boot.phase = .failed then s
  else if r.failed then
    let i := if (r.lr.getD 1 {}).code = 0 then 1 else if (r.lr.getD 2 {}).code = 0 then 2 else 3
    { s with res := lrFill i code subject r }
  else if 16 ≤ r.waiting then { s with res := { r with dropped := satInc 1023 r.dropped } }
  else
    let e : LogEntry := { time := now s, code := BitVec.ofNat 8 code, sev := sevOf code, irq
                          num := r.head, subject, data0 := d0, data1 := d1 }
    { s with res := { r with
        log := tset r.log (r.head.toNat % 512) e
        head := r.head + 1
        wrapped := r.wrapped || r.head.toNat % 512 == 511
        waiting := r.waiting + 1 } }

/-- An event with the interrupt source it asserts, if any. -/
def logEvent (code : Nat) (src : Option Nat) (subject : W32) (d0 d1 : W64) (s : State) : State :=
  let s := logWrite code src.isSome subject d0 d1 s
  match src with
  | none => s
  | some n => assertSource n s

/-- An uncorrectable error in the event log (13 R330): last-resort mode until PORST_N. -/
def logFail (word : W32) (s : State) : State :=
  if s.res.failed then logWrite 0x12 false word 0 0 s
  else
    let s := { s with
      pins := { s.pins with logfailN := false }
      res := lrFill 0 0x12 word { s.res with failed := true } }
    assertSource 0x09 s

/-! ## Egress (01 R21) -/

/-- Put a flit in line for its port: `prio` 0 release, 1 notification, 2 response. -/
def push (prio : Nat) (f : OutFlit) (pend : Option Nat) (s : State) : State :=
  { s with eg := { s.eg with queue := s.eg.queue ++ [{ f, prio, built := s.clk.cycle, pend }] } }

/-- Notifications that wait for egress (05 R137). -/
def notifWaiting (s : State) : Nat := (s.eg.queue.filter (fun f => f.prio == 1)).length

/-- The local index of an agent: agent ID bits [9:0] (02 R52). -/
def localIx (a : AgentId) : Nat := a.toNat % 1024

/-- The die an agent belongs to: package and die (00 R4). -/
def dieOf (a : AgentId) : DieId := a.extractLsb' 10 20

/-- This die's ID. -/
def myDie (s : State) : DieId := s.boot.topo.die

/-- The package of a die. -/
def pkgOf (d : DieId) : Nat := d.toNat / 16

/-- The incarnation of a local agent (02 R52). -/
def incOf (s : State) (a : AgentId) : Byte := tgetD s.ag.inc (localIx a) 0

end Sys2Proof.Machine
end

