-- ==== Sys2Proof/Machine/Pool.lean ====
section
/-! DEFINITION. The operation pool: who holds its 8,192 entries, and who may take another (00 R7; 01 R20; 06 R148; 12 R293,
R294). -/

namespace Sys2Proof.Machine

/-- Quire records and their members (01 R20; 09 R210). -/
def memberCount (s : State) : Nat := s.qu.recs.foldl (fun n e => n + 1 + e.2.members.length) 0

/-- Responses of an operation that are built and have not left (01 R20). -/
def stillAnswering (s : State) (o : Op) : Bool :=
  let of := fun (f : OutFlit) => f.cls == 1 && o.opcode == f.opcode && o.agent == f.agent && o.inc == f.inc && o.ctx == f.ctx &&
    o.handle == f.handle && o.seq == f.seq
  s.eg.queue.any (fun e => of e.f) || s.hb.order.any (fun u => u.resp.any of) ||
    s.felt.txq.any (fun t => match t.body with
      | .flit f => of f
      | _ => false)

/-- The chained INVOKEs that wait or are held. -/
def allChains (s : State) : List Chain :=
  s.hb.chains ++ s.qu.held.filterMap (fun h => match h.job with | .chain c => some c | _ => none)

/-- The operations whose entry a chained INVOKE alone keeps: all else of them has left (04 R109). -/
def chainOrigins (s : State) : List Op :=
  ((allChains s).filterMap (·.origin)).filter (fun o => !stillAnswering s o)

/-- An operation that came over MESH, and one that came otherwise: through Felt, or from the step unit. -/
def onMesh (o : Op) : Bool := o.src == .mesh
/-- See `onMesh`. -/
def offMesh (o : Op) : Bool := o.src != .mesh

/-- The operation a translation is awaited for satisfies `p`; a report answers `rep`. -/
def parkedBy (p : Op → Bool) (rep : Bool) (k : Parked) : Bool := match k.job with
  | .op o => p o
  | .report .. => rep

/-- The operation held satisfies `p`; a report answers `rep`. -/
def heldBy (p : Op → Bool) (rep : Bool) (h : Held) : Bool := match h.job with
  | .op o _ => p o
  | .arrival o _ => p o
  | .report .. => rep
  | _ => false

/-- An answer that waits to leave through Felt. -/
def answerFrame (t : TxFrame) : Bool := match t.body with
  | .flit _ => true
  | _ => false

/-- Pool entries of MESH operations that are in no quire: waiting, parked, held, forwarded, pending, kept by a chained INVOKE,
answered but not yet sent; and the combining records (06 R149). -/
def poolMesh (s : State) : Nat :=
  s.hb.waiting.length + s.hb.bursts.length + s.hb.remote.length
    + (s.xl.parked.filter (parkedBy onMesh false)).length + (s.qu.held.filter (heldBy onMesh false)).length
    + (s.couch.pend.filter (fun a => onMesh a.op)).length + s.couch.recs.length + s.ag.moves.length
    + (s.la.descs.filter (fun d => d.2.disarm.isSome)).length + (s.eg.queue.filter (fun f => f.prio == 2)).length
    + (s.hb.order.filter (·.resp.isSome)).length + ((chainOrigins s).filter onMesh).length

/-- The LINK operation holds an entry of its own: it came through Felt, or from the step unit. -/
def linkEntry : LinkOp → Bool
  | .felt .. => true
  | .step _ => true
  | .quire .. => false
  | .post _ => false

/-- Pool entries of Felt: operations, arrivals pending here, answers that wait to leave, retransmit state, frames held,
coordinator records; the step unit's operations are counted with them. -/
def poolFelt (s : State) : Nat :=
  (s.hb.link.filter linkEntry).length + (s.felt.streams.foldl (fun n t => n + t.unacked.length + t.held.length) 0) + s.qu.coords.length
    + (s.xl.parked.filter (parkedBy offMesh true)).length + (s.qu.held.filter (heldBy offMesh true)).length
    + (s.couch.pend.filter (fun a => offMesh a.op)).length + (s.felt.txq.filter answerFrame).length
    + ((chainOrigins s).filter offMesh).length

/-- Entries in use. -/
def poolUsed (s : State) : Nat := poolMesh s + poolFelt s + memberCount s

/-! ## Credit is room (12 R293) -/

/-- The frames a SYNC or SYNC_ACK grants. -/
def initCredit (eth : Bool) : BitVec 16 := if eth then 4 else 8

/-- An operation came from a die, and a LINK operation did. -/
def fromDie (d : DieId) (o : Op) : Bool := o.src == .felt d
/-- See `fromDie`. -/
def linkFrom (d : DieId) : LinkOp → Bool
  | .felt o _ => fromDie d o
  | _ => false

/-- The report that waits came from a die. -/
def reportFrom (d : DieId) : Job → Bool
  | .report _ x _ _ => x == d
  | _ => false
/-- See `reportFrom`. -/
def parkedFrom (d : DieId) : PJob → Bool
  | .report _ x _ => x == d
  | .op _ => false

/-- Operations of a peer that still hold the entries of the frames handed over. -/
def feltBusy (s : State) (d : DieId) : Nat :=
  (s.hb.link.filter (linkFrom d)).length
    + (s.xl.parked.filter (fun p => parkedBy (fromDie d) false p || parkedFrom d p.job)).length
    + (s.qu.held.filter (fun h => heldBy (fromDie d) false h || reportFrom d h.job)).length
    + (s.couch.pend.filter (fun a => fromDie d a.op)).length

/-- The frames granted to a peer and not yet received. -/
def grantedOut (t : Stream) : Nat := (t.granted - t.exp.setWidth 16).toNat

/-- The entries that a stream's grants keep free: what is granted, and of a pinned stream what its initial credit still
reserves beside the operations in progress. -/
def grantHeld (s : State) (t : Stream) : Nat :=
  max (if t.pinned then (initCredit t.eth).toNat - feltBusy s t.peer else 0) (if t.st = .up then grantedOut t else 0)

/-- The entries that all grants keep free. -/
def creditHeld (s : State) : Nat := s.felt.streams.foldl (fun n t => n + grantHeld s t) 0

/-- An entry is free for a MESH operation: 1,024 stay reserved for Felt (01 R20). -/
def poolRoom (s : State) : Bool := decide (poolMesh s + memberCount s + max 1024 (poolFelt s + creditHeld s) < 8192)

/-- Entries that Felt may still take: 1,024 stay reserved for MESH (01 R20). -/
def feltSpace (s : State) : Nat := 8192 - (poolFelt s + creditHeld s + memberCount s + max 1024 (poolMesh s))

/-- Entries that Felt may still grant as credit: 8 of its 1,024 stay for its own frames (12 R277, log entry 46). -/
def creditSpace (s : State) : Nat := min (1016 - creditHeld s) (feltSpace s)

end Sys2Proof.Machine
end

