-- ==== Sys2Proof/Machine/FeltTx.lean ====
section
/-! DEFINITION. Felt's sending side: streams, frame lengths, transmission, opening of streams (12). -/

namespace Sys2Proof.Machine

/-! ## Frame types and lengths (12 R281) -/

/-- TYPE of a body. -/
def bodyType : Body → Nat
  | .heartbeat .. => 0x80 | .ack => 0x81 | .sync => 0x82 | .syncAck => 0x83 | .wake => 0x84
  | .halt .. => 0x85 | .tsyncReq .. => 0x86 | .tsyncResp .. => 0x86 | .fwmsg .. => 0x87
  | .op .. => 0x90 | .flit .. => 0x91 | .notify .. => 0x92 | .release .. => 0x93 | .report .. => 0x94
  | .refusal .. => 0x95 | .freed .. => 0x96 | .retarget .. => 0x97 | .unwatchRst .. => 0x98
  | .wack .. => 0x99 | .shadow .. => 0x9A | .takeover .. => 0x9B | .qstart .. => 0xA0 | .qprep .. => 0xA1
  | .qvote .. => 0xA2 | .qwound .. => 0xA3 | .qdecide .. => 0xA4 | .qdone .. => 0xA5

/-- SQ of a body: every type from FWMSG on is sequenced. -/
def bodySq (b : Body) : Bool := 0x87 ≤ bodyType b

/-- LENGTH of a body's frame in bytes. -/
def bodyLen : Body → Nat
  | .heartbeat .. => 48 | .ack => 32 | .sync => 32 | .syncAck => 32 | .wake => 32
  | .halt .. => 48 | .tsyncReq .. => 64 | .tsyncResp .. => 64
  | .fwmsg _ _ _ _ m => 40 + 8 * m.length
  | .op _ _ _ c => if c.isSome then 136 else 104
  | .flit f => if f.two then 160 else 96
  | .notify .. => 96
  | .release _ _ _ _ lanes _ _ => if lanes then 120 else 56
  | .report _ _ _ _ _ parts => 56 + 48 * parts.length
  | .refusal .. => 48 | .freed .. => 40 | .retarget .. => 48 | .unwatchRst .. => 40 | .wack .. => 40
  | .shadow _ _ sub => match sub with
    | .create .. => 80 | .copy .. => 80 | .destroy => 48 | .fetch => 48 | .set .. => 56
    | .watchAdd .. => 80 | .watchFree .. => 48
  | .takeover .. => 48 | .qstart .. => 120
  | .qprep _ _ _ _ _ _ m => 64 + 24 * m.length
  | .qvote .. => 48 | .qwound .. => 40 | .qdecide .. => 112
  | .qdone _ a => 48 + 24 * a.length

/-! ## Streams -/

/-- The stream to a peer die (12 R276). -/
def streamTo (s : State) (d : DieId) : Option Stream := s.felt.streams.find? (fun t => t.peer == d)

/-- Change the stream to a peer die. -/
def modStream (d : DieId) (f : Stream → Stream) (s : State) : State :=
  { s with felt := { s.felt with streams := s.felt.streams.map (fun t => if t.peer = d then f t else t) } }

/-- SACK: bit i when frame EXP + 1 + i is held (12 R279, R290). -/
def sackOf (t : Stream) : W32 :=
  BitVec.ofNat 32 ((List.range 32).foldl
    (fun n i => if t.held.any (fun h => h.1 == t.exp + 1 + BitVec.ofNat 32 i) then n + 2 ^ i else n) 0)

/-- Credit lets SEQ `q` be sent (12 R293). -/
def creditOk (credit : BitVec 16) (q : W32) : Bool :=
  let d := (credit - q.setWidth 16).toNat
  1 ≤ d && d ≤ 128

/-- A frame waits to be sent to `d`. -/
def waitsFor (s : State) (d : DieId) : Bool := s.felt.txq.any (fun t => t.dst == d)

/-- A frame waits for credit on a stream (12 R279 CWAIT). -/
def cwaitOf (s : State) (t : Stream) : Bool := t.st == .up && !creditOk t.credit t.next && waitsFor s t.peer

/-- The header every frame of a stream carries (12 R279, R292). -/
def mkHdr (s : State) (t : Stream) (sq retx close : Bool) (seq : W32) : FHdr :=
  { sq, retx, cwait := cwaitOf s t, close, src := myDie s, dst := t.peer, seq
    ack := t.exp, sack := sackOf t, credit := t.granted, session := t.mySession }

/-- Put a frame on the wire; a frame that is sent carries the acknowledgement owed (12 R292). -/
def wireOut (t : Stream) (h : FHdr) (b : Body) (s : State) : State :=
  modStream t.peer (fun u => { u with lastSent := now s, ackOwed := false, used := s.clk.cycle })
    { s with felt := { s.felt with wire := s.felt.wire ++ [{ h, body := b, idx := t.idx }] } }

/-- The die may send frames: its links are open from LINKS on, never in HELD or FAILED (17 R400, R409; 18 R413, R421), and after
a fatal error it sends none (13 R313). -/
def txAllowed (s : State) : Bool := !s.res.fatal && (s.boot.phase == .links || s.boot.phase == .run)

/-- Send an unsequenced frame on a stream. -/
def sendUnseq (d : DieId) (b : Body) (s : State) : State :=
  match streamTo s d with
  | none => s
  | some t => if txAllowed s then wireOut t (mkHdr s t false false false 0) b s else s

/-- Cells the retransmit store holds: 64-byte cells of unacknowledged frames (01 R25, 12 R294). -/
def storeCells (s : State) : Nat :=
  s.felt.streams.foldl (fun n t => t.unacked.foldl (fun m u => m + (bodyLen u.body + 63) / 64) n) 0

/-- A pool entry is free for the retransmit state of a frame (01 R20, 12 R294): an answer brings its operation's own. -/
def entryFor (s : State) (b : Body) : Bool := match b with
  | .flit _ => true
  | _ => decide (0 < feltSpace s)

/-- A sequenced frame may leave on the stream now (12 R293, R294, R302). -/
def canSend (s : State) (t : Stream) (b : Body) : Bool :=
  txAllowed s && t.st == .up && t.peerPower != 2 && s.pwr.st != .sleep && creditOk t.credit t.next &&
    decide (storeCells s + (bodyLen b + 63) / 64 ≤ 4096) && entryFor s b

/-- A stream on which HEARTBEATs are due (12 R298). -/
def beatStream (t : Stream) : Bool := t.st == .up && (!t.eth || t.pinned || !t.unacked.isEmpty || t.ackOwed)

/-- The first transmission of a sequenced frame (12 R289, R294). -/
def txFirst (t : Stream) (f : TxFrame) (s : State) : State :=
  let s := wireOut t (mkHdr s t true false false t.next) f.body s
  modStream t.peer (fun u => { u with
    next := u.next + 1
    beatFrom := if beatStream t then u.beatFrom else now s
    unacked := u.unacked ++ [{ fid := f.fid, seq := t.next, body := f.body, last := now s, count := 1 }] }) s

/-! ## Heartbeats (12 R281, R298) -/

/-- The code of a power state (12 R281). -/
def powerCode : PwrState → BitVec 3
  | .active => 0 | .doze => 1 | .sleep => 2 | .brace => 3

/-- POWER of a HEARTBEAT and of GS_PWR_STAT.STATE (12 R281, 16 R373): SLEEP from step 2 of its entry on (R376). -/
def powerNow (s : State) : BitVec 3 :=
  if s.pwr.st = .active ∧ s.pwr.sleep ≠ .none then 2 else powerCode s.pwr.st

/-- The HEARTBEAT of this moment. -/
def beatBody (s : State) : Body := .heartbeat (powerNow s) s.pwr.halted s.couch.taken (now s)

/-- A HEARTBEAT on every UP stream (12 R298). -/
def beatAll (s : State) : State :=
  (s.felt.streams.filter (fun t => t.st == .up)).foldl (fun s t => sendUnseq t.peer (beatBody s) s) s

/-! ## Opening a stream (12 R296, R297) -/

/-- Send SYNC with a new session. -/
def sendSync (d : DieId) (s : State) : State :=
  let n := s.felt.session + 1
  let s := { s with felt := { s.felt with session := n } }
  let s := modStream d (fun t => { t with
    st := .sync, mySession := n, next := 0, exp := 0, granted := initCredit t.eth, credit := 0
    held := [], syncs := t.syncs + 1 }) s
  match streamTo s d with
  | none => s
  | some t =>
    if txAllowed s && t.peerPower != 2 then wireOut t { mkHdr s t false false false 0 with ack := 0, sack := 0 } .sync s else s

/-- Send SYNC with CLOSE = 1 (12 R297). A peer in SLEEP is sent no SYNC (R302): it goes out once the peer is awake. -/
def sendSyncClose (d : DieId) (s : State) : State :=
  match streamTo s d with
  | none => s
  | some t =>
    if txAllowed s && t.peerPower != 2 then
      let n := s.felt.session + 1
      let s := modStream d (fun u => { u with st := .closing, syncs := u.syncs + 1 }) { s with felt := { s.felt with session := n } }
      wireOut t { mkHdr s t false false true 0 with session := n } .sync s
    else modStream d (fun u => { u with st := .closing }) s

/-- The streams of 12 R297 that may be closed to free an entry: unpinned, UP, nothing unacknowledged, none held, the peer awake
(R302). -/
def closable (t : Stream) : Bool :=
  t.eth && !t.pinned && t.st == .up && t.unacked.isEmpty && t.held.isEmpty && t.peerPower != 2

/-- The least recently used closable stream. -/
def lruClosable (s : State) : Option Stream :=
  (s.felt.streams.filter closable).foldl
    (fun o t => match o with
      | none => some t
      | some u => if t.used < u.used then some t else some u) none

/-- The lowest Ethernet stream index not in use. -/
def freeEthIdx (s : State) : Option Nat :=
  (List.range 256).find? (fun i => !s.felt.streams.any (fun t => t.eth && t.idx == i))

/-- Seek a stream to `d`: open one, or close the least recently used one to free an entry (12 R297). True when
a stream exists or is being opened. -/
def seekStream (d : DieId) (s : State) : Bool × State :=
  match streamTo s d with
  | some t => (true, if t.st == .closed && txAllowed s then sendSync d s else s)
  | none =>
    if pkgOf d = pkgOf (myDie s) || !txAllowed s then (false, s)
    else match freeEthIdx s with
      | some i =>
        let s := { s with felt := { s.felt with
          streams := s.felt.streams ++ [{ eth := true, idx := i, peer := d }] } }
        (true, sendSync d s)
      | none => match lruClosable s with
        | some u => (true, sendSyncClose u.peer s)
        | none => (false, s)

/-- A search for a stream that failed less than 8 µs ago. -/
def lately (s : State) (e : DieId × W64) : Bool := decide ((now s - e.2).toNat < 64000)

/-- A frame seeks a stream for its peer now: not within 8 µs after none could be had, unless it carries an operation (12 R297). -/
def seeks (s : State) (d : DieId) (b : Body) : Bool :=
  bodyType b == 0x90 || (streamTo s d).isSome || !s.felt.seekAt.any (fun e => e.1 == d && lately s e)

/-! ## Handing a frame to Felt -/

/-- Hand a frame to Felt (12 R275, R291-R294). A frame for this die itself goes round (06 R476). One for a peer
whose stream is DOWN comes back marked PEER_DOWN (log entry 24). One that cannot leave at once waits. Answers the
frame's identity within the model. -/
def sendFrameId (d : DieId) (b : Body) (s : State) : Nat × State :=
  let n := s.felt.fid
  let s := { s with felt := { s.felt with fid := n + 1 } }
  if d = myDie s then (n, { s with felt := { s.felt with loop := s.felt.loop ++ [(0, b)] } })
  else
    let f : TxFrame := { fid := n, dst := d, body := b }
    let s := if seeks s d b then (seekStream d s).2 else s
    match streamTo s d with
    | some t =>
      if t.st = .down then (n, { s with felt := { s.felt with returned := s.felt.returned ++ [f] } })
      else if canSend s t b && !waitsFor s d then (n, txFirst t f s)
      else (n, { s with felt := { s.felt with txq := s.felt.txq ++ [f] } })
    | none => (n, { s with felt := { s.felt with txq := s.felt.txq ++ [f] } })

/-- Hand a frame to Felt. -/
def sendFrame (d : DieId) (b : Body) (s : State) : State := (sendFrameId d b s).2

/-- Send what waits and may now leave, in the order built, each peer's frames in order (12 R294). -/
def pumpTx (s : State) : State :=
  s.felt.txq.foldl (fun (acc : State × List DieId) f =>
    let (s, blocked) := acc
    if blocked.contains f.dst then acc
    else match streamTo s f.dst with
      | none => (s, f.dst :: blocked)
      | some t =>
        if t.st = .down then
          ({ s with felt := { s.felt with
              txq := s.felt.txq.filter (fun g => g.fid != f.fid), returned := s.felt.returned ++ [f] } }, blocked)
        else if canSend s t f.body then
          (txFirst t f { s with felt := { s.felt with txq := s.felt.txq.filter (fun g => g.fid != f.fid) } }, blocked)
        else (s, f.dst :: blocked)) (s, []) |>.1

end Sys2Proof.Machine
end

