-- ==== Sys2Proof/Machine/Kinds.lean ====
section
/-! DEFINITION. The kind engine: what an event does to an object of each built-in kind (03 R78-R87) and of a
user kind (04 R91-R107), as functions of the object, its queue and the request. -/

namespace Sys2Proof.Machine

/-! ## Opcodes, statuses, kinds -/

def opNop : Byte := 0x00
def opRead : Byte := 0x01
def opSignal : Byte := 0x02
def opSet : Byte := 0x03
def opTake : Byte := 0x04
def opGive : Byte := 0x05
def opArrive : Byte := 0x06
def opArriveR : Byte := 0x07
def opCas : Byte := 0x08
def opWatch : Byte := 0x09
def opUnwatch : Byte := 0x0A
def opMove : Byte := 0x0B
def opQbegin : Byte := 0x0C
def opQop : Byte := 0x0D
def opQcommit : Byte := 0x0E
def opQabort : Byte := 0x0F
def opArm : Byte := 0x10
def opDisarm : Byte := 0x11
def opInvoke : Byte := 0x12
def opProbe : Byte := 0x13
def opTraceMark : Byte := 0x14

/-! Status codes of 02 R43. -/
def stOk : Status := 0x00
def stRetry : Status := 0x01
def stUndefOp : Status := 0x02
def stRsvdNz : Status := 0x03
def stBadHandle : Status := 0x04
def stTransFault : Status := 0x05
def stTransDevice : Status := 0x06
def stPerm : Status := 0x07
def stKindReject : Status := 0x08
def stStaleInc : Status := 0x09
def stQuireAborted : Status := 0x0A
def stOverflow : Status := 0x0B
def stDeckleGone : Status := 0x0C
def stHalted : Status := 0x0D
def stDiverged : Status := 0x0E
def stBraced : Status := 0x0F

/-! Kind codes of 03 R71. -/
def kEmpty : Byte := 0x00
def kBarrier : Byte := 0x01
def kSemaphore : Byte := 0x02
def kEvent : Byte := 0x03
def kTokenPool : Byte := 0x04
def kFenceCtr : Byte := 0x05
def kRing : Byte := 0x06
def kMonoPair : Byte := 0x07
def kStepAgree : Byte := 0x08
def kTicketLock : Byte := 0x09

/-- A built-in kind. -/
def isBuiltin (k : Byte) : Bool := 1 ≤ k.toNat && k.toNat ≤ 9

/-- A kind that uses the combining tree (06). -/
def isTreeKind (k : Byte) : Bool := k = kBarrier || k = kStepAgree

/-- The loaded user kind of a code. -/
def ukindOf (ks : List UKind) (k : Byte) : Option UKind := ks.find? (fun u => u.code == k)

/-! ## The engine's view and answer -/

/-- A queued request or held arrival on the object's list, head first. -/
structure QEnt where
  ix : Nat
  op : Op
  held : Option W32 := none
  deriving DecidableEq, Repr

/-- The engine's answer: the status, the object after steps 1 and 2 of 03 R64, whether the request joins the
list, the entries granted in the order served, a user-kind arrival's release, the row's OUT. -/
structure KRes where
  status : Status := stOk
  obj : Obj
  queue : Bool := false
  grants : List Nat := []
  release : Bool := false
  out : Nat := 0
  deriving DecidableEq, Repr

/-- A refusal changes nothing (03 R65). -/
def refuse (o : Obj) (st : Status) : KRes := { status := st, obj := o }

/-- TRY of a TAKE (02 R34). -/
def tryBit (op : Op) : Bool := op.b.getLsbD 0

/-- A TAKE that cannot be granted at once (03 R80, R82, R84): refused with TRY, else queued. -/
def waitTake (o : Obj) (op : Op) : KRes :=
  if tryBit op then refuse o stKindReject else { obj := o, queue := true }

/-! ## SEMAPHORE and TOKENPOOL (03 R80, R81) -/

/-- The serving loop of R80: value left, entries granted, entries still queued. -/
def serveTokens : Nat → List QEnt → Nat × List Nat × List QEnt
  | v, [] => (v, [], [])
  | v, q :: r =>
    if q.op.a.toNat ≤ v then
      let (v', g, rest) := serveTokens (v - q.op.a.toNat) r
      (v', q.ix :: g, rest)
    else (v, [], q :: r)

/-- STATE, and for a TOKENPOOL the epoch, after a change (03 R80, R81). -/
def tokenState (o : Obj) (empty : Bool) : Obj :=
  if o.kind = kTokenPool then
    let st : Byte := if o.value = o.thresh then 2 else if empty then 0 else 1
    { o with state := st, epoch := if st = 2 ∧ o.state ≠ 2 then o.epoch + 1 else o.epoch }
  else { o with state := if empty then 0 else 1 }

/-- SEMAPHORE and TOKENPOOL. -/
def kindTokens (o : Obj) (q : List QEnt) (op : Op) : KRes :=
  let v := o.value.toNat
  let t := o.thresh.toNat
  let k := op.a.toNat
  let queued := o.state == 1
  if op.opcode = opTake then
    if t ≠ 0 ∧ k > t then refuse o stKindReject
    else if !queued && decide (k ≤ v) then { obj := tokenState { o with value := o.value - op.a } true }
    else if tryBit op then refuse o stKindReject
    else { obj := tokenState o false, queue := true }
  else if op.opcode = opGive ∨ op.opcode = opSignal then
    if v + k ≥ 2 ^ 64 ∨ (t ≠ 0 ∧ v + k > t) then refuse o stOverflow
    else
      let (v', g, rest) := serveTokens (v + k) q
      { obj := tokenState { o with value := BitVec.ofNat 64 v' } rest.isEmpty, grants := g }
  else if op.opcode = opSet then
    if queued then refuse o stKindReject
    else if t ≠ 0 ∧ op.a.toNat > t then refuse o stOverflow
    else { obj := tokenState { o with value := op.a } true }
  else if op.opcode = opCas then
    if queued then refuse o stKindReject
    else if t ≠ 0 ∧ op.b.toNat > t then refuse o stOverflow
    else if o.value = op.a then { obj := tokenState { o with value := op.b } true }
    else { obj := o }
  else refuse o stKindReject

/-! ## EVENT (03 R82) -/

/-- Set the event and serve the queue head. -/
def eventSet (o : Obj) (q : List QEnt) : KRes :=
  let o := if o.state = 0 then { o with state := 1, epoch := o.epoch + 1 } else o
  match q with
  | [] => { obj := o }
  | h :: _ => { obj := { o with state := 0 }, grants := [h.ix] }

/-- EVENT. -/
def kindEvent (o : Obj) (q : List QEnt) (op : Op) : KRes :=
  if op.opcode = opSignal then eventSet { o with value := o.value + op.a } q
  else if op.opcode = opSet then eventSet { o with value := op.a } q
  else if op.opcode = opTake then
    if op.a ≠ 1 then refuse o stKindReject
    else if o.state = 1 ∧ q.isEmpty then { obj := { o with state := 0 } }
    else waitTake o op
  else if op.opcode = opCas then
    if o.value = op.a then { obj := { o with value := op.b } } else { obj := o }
  else refuse o stKindReject

/-! ## FENCECTR (03 R83) -/

/-- Raise the counter, and the epoch with every increase. -/
def raiseTo (o : Obj) (v : W64) : Obj :=
  { o with value := v, epoch := if o.value.toNat < v.toNat then o.epoch + 1 else o.epoch }

/-- FENCECTR. -/
def kindFence (o : Obj) (op : Op) : KRes :=
  if op.opcode = opSignal then
    if o.value.toNat + op.a.toNat ≥ 2 ^ 64 then refuse o stOverflow
    else { obj := raiseTo o (o.value + op.a) }
  else if op.opcode = opSet then
    if op.a.toNat < o.value.toNat then refuse o stKindReject else { obj := raiseTo o op.a }
  else if op.opcode = opCas then
    if op.b.toNat < op.a.toNat then refuse o stKindReject
    else if o.value = op.a then { obj := raiseTo o op.b } else { obj := o }
  else refuse o stKindReject

/-! ## RING (03 R84) -/

/-- The four counters of a RING and its mark. -/
structure RingV where
  h : Nat
  c : Nat
  n : Nat
  f : Nat
  m : Nat
  deriving DecidableEq, Repr

/-- The counters of an object of kind RING. -/
def ringOf (o : Obj) : RingV :=
  let n := fld o.thresh.toNat 0 32
  { h := fld o.value.toNat 0 32, c := fld o.value.toNat 32 32, n, f := fld o.thresh.toNat 32 32
    m := n * 2 ^ (o.kflags.toNat % 16) }

/-- Write the counters back; STATE is AT_MARK exactly while h = M. -/
def ringPut (o : Obj) (r : RingV) : Obj :=
  { o with
    value := BitVec.ofNat 64 (r.h + 2 ^ 32 * r.c)
    thresh := BitVec.ofNat 64 (r.n + 2 ^ 32 * r.f)
    state := if r.h = r.m then 1 else 0 }

/-- Both conditions of a SIGNAL. -/
def ringRoom (r : RingV) (k : Nat) : Bool := decide (r.h + k ≤ r.n + r.f) && decide (r.h + k ≤ r.m)

/-- Grant heads of one class while `ok` holds. -/
def serveClass (ok : RingV → Nat → Bool) (upd : RingV → Nat → RingV) :
    RingV → List QEnt → RingV × List Nat × List QEnt
  | r, [] => (r, [], [])
  | r, q :: t =>
    if ok r q.op.a.toNat then
      let (r', g, rest) := serveClass ok upd (upd r q.op.a.toNat) t
      (r', q.ix :: g, rest)
    else (r, [], q :: t)

/-- Rounds of serving, each consumers first, until neither head can be granted. -/
def serveRing : Nat → RingV → List QEnt → List QEnt → RingV × List Nat
  | 0, r, _, _ => (r, [])
  | k + 1, r, cons, prod =>
    let (r, g1, cons) := serveClass (fun r k => decide (r.c + k ≤ r.h)) (fun r k => { r with c := r.c + k }) r cons
    let (r, g2, prod) := serveClass ringRoom (fun r k => { r with h := r.h + k }) r prod
    if g1.isEmpty ∧ g2.isEmpty then (r, [])
    else
      let (r, g) := serveRing k r cons prod
      (r, g1 ++ g2 ++ g)

/-- RING. -/
def kindRing (o : Obj) (q : List QEnt) (op : Op) : KRes :=
  let r := ringOf o
  let k := op.a.toNat
  let cons := q.filter (fun e => e.op.opcode == opTake)
  let prod := q.filter (fun e => e.op.opcode == opSignal)
  let serve := fun (r : RingV) (o : Obj) =>
    let (r, g) := serveRing (q.length + 1) r cons prod
    ({ obj := ringPut o r, grants := g } : KRes)
  if op.opcode = opSignal then
    if k > r.n then refuse o stKindReject
    else if prod.isEmpty && ringRoom r k then serve { r with h := r.h + k } o
    else { obj := o, queue := true }
  else if op.opcode = opTake then
    if k > r.n then refuse o stKindReject
    else if cons.isEmpty && decide (r.c + k ≤ r.h) then { obj := ringPut o { r with c := r.c + k } }
    else waitTake o op
  else if op.opcode = opGive then
    if r.f + k > r.c then refuse o stOverflow
    else if r.f + k = r.m then serve { r with h := 0, c := 0, f := 0 } { o with epoch := o.epoch + 1 }
    else serve { r with f := r.f + k } o
  else refuse o stKindReject

/-! ## MONOPAIR (03 R85) -/

/-- MONOPAIR. -/
def kindMono (o : Obj) (op : Op) : KRes :=
  let p := o.value.toNat
  let c := o.thresh.toNat
  let k := op.a.toNat
  let b := o.kflags.toNat + 1
  if op.opcode = opSignal then
    if p + k ≥ 2 ^ 64 ∨ p + k > c + b then refuse o stOverflow else { obj := { o with value := o.value + op.a } }
  else if op.opcode = opGive then
    if c + k > p then refuse o stOverflow
    else { obj := { o with thresh := o.thresh + op.a, epoch := o.epoch + 1 } }
  else refuse o stKindReject

/-! ## TICKETLOCK (03 R87) -/

/-- The next ticket and the ticket served. -/
def lockPut (o : Obj) (x s : BitVec 32) (st : Byte) : Obj := { o with value := s ++ x, state := st }

/-- TICKETLOCK; `who` is the requesting agent, none for a request that comes from no agent. -/
def kindLock (o : Obj) (q : List QEnt) (op : Op) (who : Option AgentId) : KRes :=
  let x : BitVec 32 := o.value.extractLsb' 0 32
  let s : BitVec 32 := o.value.extractLsb' 32 32
  if op.opcode = opTake then
    if op.a ≠ 1 then refuse o stKindReject
    else if o.state = 1 then
      if tryBit op then refuse o stKindReject else { obj := lockPut o (x + 1) s 1, queue := true }
    else { obj := { lockPut o (x + 1) s 1 with lastsig := op.agent } }
  else if op.opcode = opGive then
    if op.a ≠ 1 ∨ o.state = 0 ∨ who ≠ some o.lastsig then refuse o stKindReject
    else match q with
      | h :: _ => { obj := { lockPut o x (s + 1) 1 with lastsig := h.op.agent }, grants := [h.ix] }
      | [] => { obj := lockPut o x (s + 1) 0 }
  else refuse o stKindReject

/-! ## BARRIER: the target (03 R79) -/

/-- SET on a BARRIER. Arrivals are Couch.lean's. -/
def kindBarrierSet (o : Obj) (op : Op) : KRes :=
  let a := op.a.toNat
  if o.state ≠ 0 ∨ a ≥ 2 ^ 32 ∨ a = 0 ∨ a > 2 ^ 30 then refuse o stKindReject else { obj := { o with thresh := op.a } }

/-! ## User kinds (04) -/

/-- The event a request presents to a user kind (04 R91): event code, INVOKE code, X, Y. -/
structure UEv where
  ev : Nat
  code : Nat := 0
  x : Nat
  y : Nat := 0
  deriving DecidableEq, Repr

/-- The event of a request. -/
def uevOf (op : Op) : Option UEv :=
  let a := op.a.toNat
  let b := op.b.toNat
  match op.opcode.toNat with
  | 0x02 => some { ev := 0, x := a }
  | 0x03 => some { ev := 1, x := a }
  | 0x04 => some { ev := 2, x := a, y := b % 2 }
  | 0x05 => some { ev := 3, x := a }
  | 0x06 => some { ev := 4, x := a % 2 ^ 32, y := b % 2 ^ 32 }
  | 0x08 => some { ev := 5, x := a, y := b }
  | 0x12 => some { ev := 6, code := a % 256, x := b }
  | _ => none

/-- The left operand of a guard (04 R97). -/
def guardL (gl v t x : Nat) : Nat := match gl with
  | 0 => v | 1 => t | 2 => x | _ => v + x

/-- A constant of the kind's header. -/
def kconst (u : UKind) (i : Nat) : Nat := (u.cs.getD i 0).toNat

/-- The right operand of a guard (04 R97). -/
def guardR (u : UKind) (gr v t x y : Nat) : Nat := match gr with
  | 0 => t | 1 => x | 2 => y | 3 => v | n => kconst u (n - 4)

/-- The guard operations (04 R98). -/
def guardOp (gop l r : Nat) (qempty : Bool) (y epoch : Nat) : Bool := match gop with
  | 0 => true
  | 1 => l == r
  | 2 => l != r
  | 3 => decide (l < r)
  | 4 => decide (l ≤ r)
  | 5 => decide (l > r)
  | 6 => decide (l ≥ r)
  | 7 => l &&& r != 0
  | 8 => l &&& r == 0
  | 9 => qempty
  | 10 => !qempty
  | 11 => y % 2 ^ 32 == epoch
  | _ => false

/-- The value action (04 R99) on destination and source. -/
def valueOp (vop : Nat) (d s : W64) : W64 := match vop with
  | 1 => s
  | 2 => d + s
  | 3 => d - s
  | 4 => if d.toNat + s.toNat ≥ 2 ^ 64 then BitVec.allOnes 64 else d + s
  | 5 => if d.toNat < s.toNat then 0 else d - s
  | 6 => d &&& s
  | 7 => d ||| s
  | 8 => d ^^^ s
  | 9 => d &&& ~~~ s
  | 10 => if d.toNat < s.toNat then s else d
  | 11 => if d.toNat < s.toNat then d else s
  | 12 => 0
  | 13 => d + 1
  | _ => d

/-- A row matches the state, the event and its guard (04 R101). -/
def rowMatch (u : UKind) (o : Obj) (qempty : Bool) (e : UEv) (w : W64) : Bool :=
  let n := w.toNat
  let v := o.value.toNat
  let t := o.thresh.toNat
  fld n 0 4 == o.state.toNat && fld n 4 4 == e.ev && fld n 8 6 == e.code &&
    guardOp (fld n 16 4) (guardL (fld n 20 2) v t e.x) (guardR u (fld n 22 3) v t e.x e.y) qempty e.y o.epoch.toNat

/-- The row's value action, next state and epoch (04 R96, R101). -/
def rowApply (u : UKind) (o : Obj) (e : UEv) (w : W64) : Obj :=
  let n := w.toNat
  let src : W64 := match fld n 36 3 with
    | 0 => BitVec.ofNat 64 e.x | 1 => BitVec.ofNat 64 e.y | 2 => o.value | 3 => o.thresh
    | i => u.cs.getD (i - 4) 0
  let o := if fld n 39 1 = 1 then { o with thresh := valueOp (fld n 32 4) o.thresh src }
           else { o with value := valueOp (fld n 32 4) o.value src }
  { o with state := BitVec.ofNat 8 (fld n 28 4), epoch := if fld n 43 1 = 1 then o.epoch + 1 else o.epoch }

/-- Two requests of one class: same event, and for INVOKE the same code (04 R101). A held arrival is of none. -/
def sameClass (e : UEv) (q : QEnt) : Bool :=
  q.held.isNone && (match uevOf q.op with | some d => d.ev == e.ev && d.code == e.code | none => false)

/-- One event on a user-kind object (04 R101). -/
def kindUser (u : UKind) (o : Obj) (q : List QEnt) (op : Op) : KRes :=
  match uevOf op with
  | none => refuse o stKindReject
  | some e =>
    let trying := e.ev == 2 && e.y == 1
    if o.state.toNat ≥ u.nstates then refuse o stKindReject
    else if e.ev ≠ 4 ∧ q.any (sameClass e) then
      if trying then refuse o stKindReject else { obj := o, queue := true }
    else match u.rows.find? (rowMatch u o q.isEmpty e) with
      | none => refuse o stKindReject
      | some w =>
        let n := w.toNat
        let nact := fld n 40 3
        let resp := fld n 44 2
        if resp ≠ 0 then refuse o (if resp = 1 then stKindReject else stOverflow)
        else if nact = 1 ∧ trying then refuse o stKindReject
        else
          { obj := rowApply u o e w
            queue := nact == 1
            grants := if nact = 2 then (q.take 1).map (·.ix) else if nact = 3 then q.map (·.ix) else []
            release := e.ev == 4 && nact != 1
            out := fld n 48 8 }

/-! ## One event on an object (03 R78, R68) -/

/-- R68: a zero count or amount, except SIGNAL on EVENT. -/
def zeroRefused (o : Obj) (op : Op) : Bool :=
  op.a == 0 && (op.opcode == opTake || op.opcode == opGive || (op.opcode == opSignal && o.kind != kEvent))

/-- The kind engine on an event other than an arrival at a BARRIER or STEPAGREE. -/
def kindStep (ks : List UKind) (o : Obj) (q : List QEnt) (op : Op) (who : Option AgentId) : KRes :=
  if isBuiltin o.kind && (zeroRefused o op || op.opcode == opInvoke) then refuse o stKindReject
  else if o.kind = kSemaphore ∨ o.kind = kTokenPool then kindTokens o q op
  else if o.kind = kEvent then kindEvent o q op
  else if o.kind = kFenceCtr then kindFence o op
  else if o.kind = kRing then kindRing o q op
  else if o.kind = kMonoPair then kindMono o op
  else if o.kind = kTicketLock then kindLock o q op who
  else if o.kind = kBarrier then
    if op.opcode = opSet then kindBarrierSet o op else refuse o stKindReject
  else if isBuiltin o.kind then refuse o stKindReject
  else match ukindOf ks o.kind with
    | none => refuse o stKindReject
    | some u => kindUser u o q op

/-- Step 3 of 03 R64: LASTSIG takes the requester when steps 1 and 2 changed a field other than WHEAD and LASTSIG,
and never on a TICKETLOCK. -/
def setLastsig (before after : Obj) (who : Option AgentId) : Obj :=
  if after.kind = kTicketLock then after
  else match who with
    | none => after
    | some a => if { after with lastsig := before.lastsig } = before then after else { after with lastsig := a }

/-! ## Create (03 R75, 04 R113) -/

/-- Bytes of an object record as the image words hold them (03 R60), WHEAD given. -/
def packObj (o : Obj) (whead : Nat) : Image :=
  BitVec.ofNat 256 (o.kind.toNat + 2 ^ 8 * o.state.toNat + 2 ^ 16 * o.kflags.toNat + 2 ^ 27 * bit o.armed
    + 2 ^ 28 * bit o.wmark + 2 ^ 29 * bit o.shadow + 2 ^ 30 * bit o.diverged + 2 ^ 31 * bit o.priv
    + 2 ^ 32 * o.epoch.toNat + 2 ^ 64 * o.value.toNat + 2 ^ 128 * o.thresh.toNat + 2 ^ 192 * whead
    + 2 ^ 212 * o.lastsig.toNat + 2 ^ 242 * o.owner.toNat)

/-- FLAGS as PROBE shows it (03 R62). -/
def flagsOf (o : Obj) : Nat :=
  o.kflags.toNat + 2 ^ 11 * bit o.armed + 2 ^ 12 * bit o.wmark + 2 ^ 13 * bit o.shadow + 2 ^ 14 * bit o.diverged
    + 2 ^ 15 * bit o.priv

/-- The record an image describes (03 R60). -/
def unpackObj (w : Image) : Obj :=
  let n := w.toNat
  { kind := BitVec.ofNat 8 n, state := BitVec.ofNat 8 (fld n 8 8), kflags := BitVec.ofNat 8 (fld n 16 8)
    armed := n.testBit 27, wmark := n.testBit 28, shadow := n.testBit 29, diverged := n.testBit 30
    priv := n.testBit 31, epoch := BitVec.ofNat 32 (fld n 32 32), value := BitVec.ofNat 64 (fld n 64 64)
    thresh := BitVec.ofNat 64 (fld n 128 64), lastsig := BitVec.ofNat 30 (fld n 212 30)
    owner := BitVec.ofNat 12 (fld n 242 12) }

/-- Fields of an image that CREATE wants zero (03 R75): STATE, DIVERGED, WMARK, ARMED, the reserved FLAGS bits,
WHEAD, LASTSIG, RSVD. -/
def imageZeros (w : Image) : Bool :=
  let n := w.toNat
  fld n 8 8 == 0 && fld n 24 5 == 0 && fld n 30 1 == 0 && fld n 192 50 == 0 && fld n 254 2 == 0

/-- VALUE, THRESH and KFLAGS within the CREATE rule of the kind (03, per kind; 04 R113). -/
def createRule (ks : List UKind) (o : Obj) : Bool :=
  let v := o.value.toNat
  let t := o.thresh.toNat
  if o.kind = kBarrier ∨ o.kind = kStepAgree then
    o.kflags == 0 && v == 0 && decide (1 ≤ t) && decide (t ≤ 2 ^ 30)
  else if o.kind = kSemaphore then o.kflags == 0 && (t == 0 || decide (v ≤ t))
  else if o.kind = kTokenPool then o.kflags == 0 && decide (1 ≤ t) && decide (v ≤ t)
  else if o.kind = kEvent ∨ o.kind = kFenceCtr then o.kflags == 0 && t == 0
  else if o.kind = kRing then
    let r := ringOf o
    v == 0 && r.f == 0 && decide (1 ≤ r.n) && decide (r.m ≤ 2 ^ 31) && decide (o.kflags.toNat < 16)
  else if o.kind = kMonoPair then decide (t ≤ v) && decide (v ≤ t + o.kflags.toNat + 1)
  else if o.kind = kTicketLock then o.kflags == 0 && t == 0 && fld v 0 32 == fld v 32 32
  else match ukindOf ks o.kind with
    | none => false
    | some u =>
      o.kflags &&& ~~~ u.kfmask == 0 &&
        guardOp u.cgop (guardL u.cgl v t 0) (guardR u u.cgr v t 0 0) true 0 0

/-- STATE as CREATE sets it (03 R75). -/
def createState (ks : List UKind) (o : Obj) : Byte :=
  if o.kind = kTokenPool then (if o.value = o.thresh then 2 else 0)
  else match ukindOf ks o.kind with
    | some u => if isBuiltin o.kind then 0 else BitVec.ofNat 8 u.init
    | none => 0

end Sys2Proof.Machine
end

