-- ==== Sys2Proof/Machine/Reduce.lean ====
section
/-! DEFINITION. The reduction arithmetic: lane formats, exact accumulators, partials, merging, the result
(07 R164-R186). -/

namespace Sys2Proof.Machine

/-! ## Formats and operations -/

/-- A floating-point lane format (07 R169): exponent and fraction bits, bias, whether it has infinities. -/
structure FFmt where
  eb : Nat
  fb : Nat
  bias : Nat
  inf : Bool
  deriving DecidableEq, Repr

/-- The floating-point format of a code (07 R166, R169). -/
def ffmt (c : BitVec 4) : Option FFmt :=
  match c.toNat with
  | 1 => some ⟨8, 23, 127, true⟩
  | 2 => some ⟨5, 10, 15, true⟩
  | 3 => some ⟨8, 7, 127, true⟩
  | 4 => some ⟨5, 2, 15, true⟩
  | 5 => some ⟨4, 3, 7, false⟩
  | _ => none

/-- Lane width in bytes (07 R166); none for a reserved format. -/
def laneW (c : BitVec 4) : Option Nat :=
  match c.toNat with
  | 0 => some 8 | 1 => some 4 | 2 => some 2 | 3 => some 2 | 4 => some 1 | 5 => some 1 | _ => none

/-- A defined reduction operation (07 R165). -/
def redOpOk (o : Byte) : Bool := o.toNat ≤ 0x0B || (0x10 ≤ o.toNat && o.toNat ≤ 0x12)

/-- A pairing the table of 07 R165 lists. -/
def redPairOk (o : Byte) (c : BitVec 4) : Bool :=
  if o.toNat ≤ 0x0B then c == 0 else 0x10 ≤ o.toNat && o.toNat ≤ 0x12 && 1 ≤ c.toNat && c.toNat ≤ 5

/-- The lane description of an ARRIVE_R's operand B (07 R164). -/
def descOf (b : W64) : LaneDesc :=
  { op := b.extractLsb' 32 8, fmt := b.extractLsb' 40 4, cnt := b.extractLsb' 44 3 }

/-- Lane count. -/
def laneN (d : LaneDesc) : Nat := d.cnt.toNat + 1

/-- Bytes of burst data the lanes fill (07 R164). -/
def laneBytes (d : LaneDesc) : Nat := laneN d * (laneW d.fmt).getD 0

/-- Lane i of the burst data (07 R164). -/
def laneAt (d : LaneDesc) (data : BitVec 512) (i : Nat) : Nat :=
  let w := (laneW d.fmt).getD 0
  fld data.toNat (8 * w * i) (8 * w)

/-! ## One input -/

/-- A floating-point input taken apart (07 R170, R171, R173). -/
inductive FVal where
  | fin (neg : Bool) (mag : Nat)
  | inf (neg : Bool)
  | nan
  deriving DecidableEq, Repr

/-- The value of an encoding, its magnitude in steps of 2^-160 (07 R172, R173). -/
def fval (f : FFmt) (x : Nat) : FVal :=
  let frac := fld x 0 f.fb
  let e := fld x f.fb f.eb
  let neg := fld x (f.fb + f.eb) 1 == 1
  let top := 2 ^ f.eb - 1
  if f.inf && e == top then (if frac = 0 then .inf neg else .nan)
  else if !f.inf && e == top && frac == 2 ^ f.fb - 1 then .nan
  else if e = 0 then .fin neg (frac * 2 ^ (161 - f.bias - f.fb))
  else .fin neg ((frac + 2 ^ f.fb) * 2 ^ (160 + e - f.bias - f.fb))

/-- The order of 07 R178: by sign and magnitude, -0 below +0. -/
def fkey (f : FFmt) (x : Nat) : Int :=
  let mag := fld x 0 (f.fb + f.eb)
  if fld x (f.fb + f.eb) 1 = 1 then -1 - (mag : Int) else (mag : Int)

/-- Flags of a partial (07 R179). -/
def mkFlags (nan pinf ninf allnegz poison nocand : Bool) : Byte :=
  BitVec.ofNat 8 (bit nan + 2 * bit pinf + 4 * bit ninf + 8 * bit allnegz + 16 * bit poison + 32 * bit nocand)

/-- The partial of a single input (07 R173-R177, R180): `time` and `agent` make the key of FIRST_ID and LAST_ID. -/
def partialOf (d : LaneDesc) (x : Nat) (time : W64) (agent : AgentId) : Partial :=
  match ffmt d.fmt with
  | none =>
    match d.op.toNat with
    | 0x00 | 0x01 => { acc := (BitVec.ofNat 64 x).signExtend 320 }
    | 0x09 => { acc := if x = 0 then 0 else 1 }
    | 0x0A | 0x0B => { acc := BitVec.ofNat 320 (time.toNat + 2 ^ 64 * agent.toNat + 2 ^ 96 * (x % 2 ^ 32)) }
    | _ => { acc := BitVec.ofNat 320 x }
  | some f =>
    let v := fval f x
    let nonfin : Bool := match v with | .fin .. => false | _ => true
    let nf : W32 := if nonfin then 1 else 0
    if d.op = 0x10 then
      match v with
      | .fin neg m =>
        { acc := if neg then 0 - BitVec.ofNat 320 m else BitVec.ofNat 320 m
          nf, flags := mkFlags false false false (neg && m == 0) false false }
      | .inf neg => { nf, flags := mkFlags false (!neg) neg false false false }
      | .nan => { nf, flags := mkFlags true false false false false false }
    else
      match v with
      | .fin _ _ => { acc := BitVec.ofNat 320 x, nf }
      | .inf neg => { acc := BitVec.ofNat 320 x, nf, flags := mkFlags false (!neg) neg false false false }
      | .nan => { nf, flags := mkFlags true false false false false true }

/-- The zero fields of a lane record are zero (07 R179). -/
def partOk (d : LaneDesc) (p : Partial) : Bool :=
  let fl := p.flags.toNat
  decide (fl < 64) && (!fl.testBit 3 || d.op == 0x10) && (!fl.testBit 5 || d.op == 0x11 || d.op == 0x12) &&
    (if d.op = 0x00 ∨ d.op = 0x01 ∨ d.op = 0x09 ∨ d.op = 0x10 then true
    else if d.op = 0x0A ∨ d.op = 0x0B then p.nf == 0 && decide (p.acc.toNat < 2 ^ 128) && fld p.acc.toNat 94 2 == 0
    else decide (p.acc.toNat < 2 ^ 64))

/-! ## Merging (07 R180) -/

/-- The running operations of 07 R176, R178 on two 64-bit results. -/
def runOp (d : LaneDesc) (p q : Nat) : Nat :=
  let sp := (BitVec.ofNat 64 p).toInt
  let sq := (BitVec.ofNat 64 q).toInt
  match d.op.toNat with
  | 0x02 => if sp ≤ sq then p else q
  | 0x03 => if sp ≤ sq then q else p
  | 0x04 => min p q
  | 0x05 => max p q
  | 0x06 => p &&& q
  | 0x07 => p ||| q
  | 0x08 => p ^^^ q
  | 0x11 => match ffmt d.fmt with
    | some f => if fkey f p ≤ fkey f q then p else q
    | none => p
  | 0x12 => match ffmt d.fmt with
    | some f => if fkey f p ≤ fkey f q then q else p
    | none => p
  | _ => p

/-- Operations that keep an accumulator (07 R179, first column). -/
def isSum (o : Byte) : Bool := o = 0x00 || o = 0x01 || o = 0x09 || o = 0x10

/-- Key of an identity partial: time, then agent ID (07 R177). -/
def idKey (p : Partial) : Nat × Nat := (fld p.acc.toNat 0 64, fld p.acc.toNat 64 32)

/-- Key order: time first, then agent ID. -/
def idLt (a b : Nat × Nat) : Bool := decide (a.1 < b.1) || (a.1 == b.1 && decide (a.2 < b.2))

/-- Two partials of one lane merge, `q` entering after `p` (07 R180). -/
def mergeP (d : LaneDesc) (p q : Partial) : Partial :=
  let nocP := p.flags.getLsbD 5
  let nocQ := q.flags.getLsbD 5
  let acc : BitVec 320 :=
    if isSum d.op then p.acc + q.acc
    else if d.op = 0x0A then (if idLt (idKey q) (idKey p) then q.acc else p.acc)
    else if d.op = 0x0B then (if idLt (idKey q) (idKey p) then p.acc else q.acc)
    else if nocP then q.acc
    else if nocQ then p.acc
    else BitVec.ofNat 320 (runOp d p.acc.toNat q.acc.toNat)
  { acc
    nf := p.nf + q.nf
    flags := mkFlags (p.flags.getLsbD 0 || q.flags.getLsbD 0) (p.flags.getLsbD 1 || q.flags.getLsbD 1)
      (p.flags.getLsbD 2 || q.flags.getLsbD 2) (p.flags.getLsbD 3 && q.flags.getLsbD 3)
      (p.flags.getLsbD 4 || q.flags.getLsbD 4) (nocP && nocQ) }

/-- Lane by lane. -/
def mergeLanes (d : LaneDesc) : List Partial → List Partial → List Partial
  | p :: ps, q :: qs => mergeP d p q :: mergeLanes d ps qs
  | _, _ => []

/-- The partials of one arrival (07 R168: one input to each lane, whatever its weight). -/
def arrivalParts (d : LaneDesc) (data : BitVec 512) (time : W64) (agent : AgentId) : List Partial :=
  (List.range (laneN d)).map (fun i => partialOf d (laneAt d data i) time agent)

/-- Merge an arrival's or report's partials into lanes held, or open them. -/
def mergeInto (l : Option Lanes) (d : LaneDesc) (parts : List Partial) (rsv : Bool) : Lanes :=
  match l with
  | none => { desc := d, parts, rsv }
  | some l => { l with parts := mergeLanes l.desc l.parts parts }

/-! ## The result (07 R182-R185) -/

/-- The default NaN of a format (07 R169). -/
def defaultNaN (f : FFmt) : Nat :=
  if f.inf then (2 ^ f.eb - 1) * 2 ^ f.fb + 2 ^ (f.fb - 1) else 2 ^ (f.eb + f.fb) - 1

/-- Round a nonzero magnitude in steps of 2^-160 to the format, to nearest, ties to even, and say whether the
rounding overflowed (07 R182). -/
def roundTo (f : FFmt) (neg : Bool) (mag : Nat) : Nat × Bool :=
  let sub := 161 - f.bias - f.fb
  let q := max (mag.log2 - f.fb) sub
  let r := mag >>> q
  let rem := mag % 2 ^ q
  let up := decide (2 * rem > 2 ^ q) || (2 * rem == 2 ^ q && r % 2 == 1)
  let r := if up then r + 1 else r
  let (r, q) := if r = 2 ^ (f.fb + 1) then (2 ^ f.fb, q + 1) else (r, q)
  let e := if r < 2 ^ f.fb then 0 else q - sub + 1
  let frac := if r < 2 ^ f.fb then r else r - 2 ^ f.fb
  let top := 2 ^ f.eb - 1
  let sgn := bit neg * 2 ^ (f.eb + f.fb)
  if f.inf then
    if top ≤ e then (sgn + top * 2 ^ f.fb, true) else (sgn + e * 2 ^ f.fb + frac, false)
  else if top < e || (e == top && frac == 2 ^ f.fb - 1) then (sgn + top * 2 ^ f.fb + 2 ^ f.fb - 2, true)
  else (sgn + e * 2 ^ f.fb + frac, false)

/-- One lane finished at the home: its bits and OVF (07 R182, R183). -/
def finishLane (d : LaneDesc) (p : Partial) : Nat × Bool :=
  let fl := p.flags
  match ffmt d.fmt with
  | none =>
    if fl.getLsbD 4 then (0, false)
    else match d.op.toNat with
      | 0x01 =>
        let a := p.acc.toInt
        if a > 2 ^ 63 - 1 then (2 ^ 63 - 1, true)
        else if a < -2 ^ 63 then (2 ^ 63, true)
        else (p.acc.toNat % 2 ^ 64, false)
      | 0x0A | 0x0B =>
        (fld p.acc.toNat 64 30 + 2 ^ 32 * fld p.acc.toNat 96 32, false)
      | _ => (p.acc.toNat % 2 ^ 64, false)
  | some f =>
    if fl.getLsbD 4 then (defaultNaN f, false)
    else if d.op = 0x10 then
      if fl.getLsbD 0 || (fl.getLsbD 1 && fl.getLsbD 2) then (defaultNaN f, false)
      else if fl.getLsbD 1 then ((2 ^ f.eb - 1) * 2 ^ f.fb, false)
      else if fl.getLsbD 2 then (2 ^ (f.eb + f.fb) + (2 ^ f.eb - 1) * 2 ^ f.fb, false)
      else if p.acc = 0 then (if fl.getLsbD 3 then 2 ^ (f.eb + f.fb) else 0, false)
      else roundTo f p.acc.msb p.acc.toInt.natAbs
    else if fl.getLsbD 0 then (defaultNaN f, false)
    else (p.acc.toNat % 2 ^ 64, false)

/-- The result byte of one lane (07 R184, R186). -/
def laneByte (d : LaneDesc) (p : Partial) : Nat :=
  if p.flags.getLsbD 4 then 0xFF
  else bit (finishLane d p).2 * 128 + (if (ffmt d.fmt).isSome then min 127 p.nf.toNat else 0)

/-- The result word and the burst data of a finished epoch (07 R184, R185). -/
def finishAll (l : Lanes) : W64 × BitVec 512 :=
  let w := (laneW l.desc.fmt).getD 0
  let r := l.parts.foldl (fun (acc : Nat × Nat × Nat) p =>
    let (i, word, data) := acc
    (i + 1, word + laneByte l.desc p * 2 ^ (8 * i), data + (finishLane l.desc p).1 % 2 ^ (8 * w) * 2 ^ (8 * w * i)))
    (0, 0, 0)
  (BitVec.ofNat 64 r.2.1, BitVec.ofNat 512 r.2.2)

/-- A lane lost to an uncorrectable error (07 R186). -/
def poisonLane (p : Partial) : Partial := { p with flags := p.flags ||| 16 }

end Sys2Proof.Machine
end

