-- ==== Sys2Proof/Machine/Deliver.lean ====
section
/-! DEFINITION. Responses, notifications and releases: how each flit is built and how it reaches its agent
(02 R39-R42, 05 R133, R141, R142, 06 R148). -/

namespace Sys2Proof.Machine

/-- The agent a request comes from; none for a launcher post-operation and for a chained INVOKE that one began (10 R246,
04 R109). -/
def whoOf (op : Op) : Option AgentId := match op.src with
  | .post _ => none
  | .chainedPost => none
  | _ => some op.agent

/-- Operand B of an answer about an object (02 R40). -/
def objB (o : Obj) : W64 :=
  BitVec.ofNat 64 (o.epoch.toNat + 2 ^ 48 * o.state.toNat + 2 ^ 56 * o.kind.toNat)

/-! ## Responses -/

/-- The response flit to a request (02 R40). -/
def respFlit (op : Op) (st : Status) (a b : W64) (data : BitVec 512) : OutFlit :=
  { cls := 1, opcode := op.opcode, status := st, agent := op.agent, inc := op.inc, ctx := op.ctx
    handle := op.handle, seq := op.seq, a, b, data }

/-- Change the per-context counters of a context (14 R352). -/
def modCtxCnt (c : CtxId) (f : CtxCnt → CtxCnt) (s : State) : State :=
  { s with ctx := { s.ctx with cnt := tput {} s.ctx.cnt c.toNat (f (tgetD s.ctx.cnt c.toNat {})) } }

/-- Drop the first element that satisfies `p`. -/
def dropFirst (p : α → Bool) : List α → List α
  | [] => []
  | x :: r => if p x then r else x :: dropFirst p r

/-- The operation is the one a response answers. -/
def answersOp (f : OutFlit) (o : Op) : Bool :=
  o.opcode == f.opcode && o.agent == f.agent && o.inc == f.inc && o.ctx == f.ctx && o.handle == f.handle && o.seq == f.seq

/-! ### Issue order (02 R47)

Responses to one agent for requests on one handle in one context leave in issue order. A request that the object queued, a
member of a quire and a request that NORESP leaves unanswered hold nothing back (log entry 70). -/

/-- The request is the one a response answers. -/
def answersReq (src : Src) (f : OutFlit) (u : Unanswered) : Bool :=
  u.src == src && u.opcode == f.opcode && u.agent == f.agent && u.inc == f.inc && u.ctx == f.ctx && u.handle == f.handle &&
    u.seq == f.seq

/-- The request stands in the line of responses that a response belongs to. -/
def inLine (src : Src) (f : OutFlit) (u : Unanswered) : Bool :=
  u.src == src && u.agent == f.agent && u.ctx == f.ctx && u.handle == f.handle

/-- A line of responses up to the first request that still awaits its own: what stays, and what may leave. -/
def releaseLine (p : Unanswered → Bool) : List Unanswered → List Unanswered × List OutFlit
  | [] => ([], [])
  | u :: r =>
    if p u then match u.resp with
      | some f => ((releaseLine p r).1, f :: (releaseLine p r).2)
      | none => (u :: r, [])
    else (u :: (releaseLine p r).1, (releaseLine p r).2)

/-- A response leaves by the way its request came. -/
def respOut (src : Src) (f : OutFlit) (s : State) : State := match src with
  | .felt d => sendFrame d (.flit f) s
  | _ => push 2 f none s

/-- Send what a line no longer holds back. -/
def flushLine (src : Src) (f : OutFlit) (s : State) : State :=
  let r := releaseLine (inLine src f) s.hb.order
  r.2.foldl (fun s g => respOut src g s) { s with hb := { s.hb with order := r.1 } }

/-- Change the first element that satisfies `p`. -/
def modFirst (p : α → Bool) (f : α → α) : List α → List α
  | [] => []
  | x :: r => if p x then f x :: r else x :: modFirst p f r

/-- The response of a request: it leaves in its turn. -/
def respond (src : Src) (f : OutFlit) (s : State) : State :=
  let p := fun (u : Unanswered) => answersReq src f u && u.resp.isNone
  if s.hb.order.any p then
    flushLine src f { s with hb := { s.hb with order := modFirst p (fun u => { u with resp := some f }) s.hb.order } }
  else respOut src f s

/-- The opcodes whose requests name an object (02 R34). -/
def namesObject (o : Byte) : Bool :=
  o.toNat ≤ 0x14 && !(o ∈ [opNop, opMove, opQbegin, opQcommit, opQabort, opDisarm, opTraceMark])

/-- A request takes its place in the order of responses, if it names an object. -/
def noteOrder (src : Src) (opcode : Byte) (agent : AgentId) (inc : Byte) (ctx : CtxId) (handle : W32) (seq : BitVec 16)
    (s : State) : State :=
  if namesObject opcode then
    { s with hb := { s.hb with order := s.hb.order ++ [{ src, opcode, agent, inc, ctx, handle, seq }] } }
  else s

/-- A request leaves the order of responses: no response holds its place. -/
def leaveOrder (op : Op) (s : State) : State :=
  let f := respFlit op stOk 0 0 0
  let order := dropFirst (fun u => answersReq op.src f u && u.resp.isNone) s.hb.order
  flushLine op.src f { s with hb := { s.hb with order } }

/-- A response reaches the die that accepted the request: it waits for egress, and a status other than OK and
DIVERGED counts in the context's NACKS (14 R352). -/
def offerResp (f : OutFlit) (s : State) : State :=
  let s := respond .mesh f s
  if f.status = stOk ∨ f.status = stDiverged then s
  else modCtxCnt f.ctx (fun c => { c with nacks := c.nacks + 1 }) s

/-- Answer an operation (02 R39, R40, R45): the NACK counter of the status, and the response by the way the
operation came. NORESP suppresses an OK, except that a WATCH from another die is answered to that die, which
needs the index for its MIRROR (log entry 25). -/
def answerD (op : Op) (st : Status) (a b : W64) (data : BitVec 512) (s : State) : State :=
  let s := countStatus st s
  let f := respFlit op st a b data
  match op.src with
  | .mesh => if op.noresp && st == stOk then leaveOrder op s else offerResp f s
  | .felt d => if op.noresp && st == stOk && op.opcode != opWatch then leaveOrder op s else respond (.felt d) f s
  | .chained => s
  | .chainedPost => s
  | .post _ => s
  | .stepUnit => { s with step := { s.step with inbox := s.step.inbox ++ [f] } }

/-- Answer with the operands alone. -/
def answer (op : Op) (st : Status) (a b : W64) (s : State) : State := answerD op st a b 0 s

/-- Answer with zero operands. -/
def answerZ (op : Op) (st : Status) (s : State) : State := answer op st 0 0 s

/-! ## Notifications (02 R41, 05 R133-R142) -/

/-- The notification flit of a watch, from the object's fields (02 R41); SEQ is stamped at the target's die. -/
def notifFlit (o : Obj) (target : AgentId) (tinc : Byte) (ctx : CtxId) (handle : W32) (cookie : BitVec 16) : OutFlit :=
  { cls := 2, opcode := opWatch, agent := target, inc := tinc, ctx, handle, a := o.value
    b := BitVec.ofNat 64 (o.epoch.toNat + 2 ^ 32 * cookie.toNat + 2 ^ 48 * o.state.toNat + 2 ^ 56 * o.kind.toNat) }

/-- Stamp SEQ from the agent's notification count and put the notification in line (05 R133). -/
def stampNotif (f : OutFlit) (s : State) : State :=
  let i := localIx f.agent
  let n := tgetD s.ag.notif i 0
  push 1 { f with seq := n } none { s with ag := { s.ag with notif := tput 0 s.ag.notif i (n + 1) } }

/-- The stub, live or expired, of an agent and incarnation (05 R141, R142): the latest. -/
def stubFor (s : State) (live : Bool) (a : AgentId) (i : Byte) : Option Stub :=
  s.ag.stubs.reverse.find? (fun b => b.live == live && b.x == a && b.xi == i)

/-- A notification at its target's die (05 R133, R141, R142). A forwarded notification is counted once, and checked again
for its new target, at most once per stub. -/
def deliverNotif : Nat → OutFlit → State → State
  | 0, _, s => { s with wt := { s.wt with dropStale := sat16 s.wt.dropStale } }
  | k + 1, f, s =>
    if f.inc = incOf s f.agent then stampNotif f s
    else match stubFor s true f.agent f.inc with
      | some b => deliverNotif k { f with agent := b.y, inc := b.yi, fwd := true }
          (if f.fwd then s else { s with wt := { s.wt with fwd := sat16 s.wt.fwd } })
      | none =>
        if (stubFor s false f.agent f.inc).isSome then
          { s with wt := { s.wt with dropStub := sat16 s.wt.dropStub } }
        else { s with wt := { s.wt with dropStale := sat16 s.wt.dropStale } }

/-- Send a built notification to its target (05 R133, R134). -/
def sendNotif (f : OutFlit) (s : State) : State :=
  if dieOf f.agent = myDie s then deliverNotif 65 f s else sendFrame (dieOf f.agent) (.notify f) s

/-! ## Releases (02 R42, 07 R185) -/

/-- The release flit of an arrival. Operand A and the data are zero unless STATUS is OK. -/
def releaseFlit (op : Op) (st : Status) (epoch : W32) (word : W64) (data : BitVec 512) : OutFlit :=
  let two := op.opcode == opArriveR && decide (laneBytes (descOf op.b) > 32)
  { cls := 3, opcode := op.opcode, status := st, agent := op.agent, inc := op.inc, ctx := op.ctx
    handle := op.handle, seq := op.seq, a := if st = stOk then word else 0, b := epoch.setWidth 64
    data := if st = stOk then data else 0, two }

/-- Send a release by the way its arrival came; `pend` names the pending arrival that ends when it leaves. -/
def sendRelease (op : Op) (f : OutFlit) (pend : Option Nat) (s : State) : State :=
  match op.src with
  | .felt d => sendFrame d (.flit f) s
  | .stepUnit => { s with step := { s.step with inbox := s.step.inbox ++ [f] } }
  | .mesh => push 0 f pend s
  | _ => s

end Sys2Proof.Machine
end

