-- ==== Sys2Proof/Machine/Vat.lean ====
section
/-! DEFINITION. The object store: slots, the resolution of a read, update sequences, DIVERGED, third copies
(03 R60-R63, 13 R304-R310, R314-R317). -/

namespace Sys2Proof.Machine

/-! ## Slots -/

/-- The slot `n`. -/
def slotAt (s : State) (n : Nat) : Slot := tgetD s.vat.slots n {}

/-- Write the slot `n`. -/
def putSlot (n : Nat) (x : Slot) (s : State) : State :=
  { s with vat := { s.vat with slots := tput {} s.vat.slots n x } }

/-- The object of a resolved slot. -/
def objAt (s : State) (n : Nat) : Obj := (slotAt s n).a.obj

/-- The update sequence of a resolved slot. -/
def seqAt (s : State) (n : Nat) : BitVec 16 := (slotAt s n).a.seq

/-- The waiter list of a slot, head first (03 R63). -/
def listAt (s : State) (n : Nat) : List Nat := (slotAt s n).list

/-- WHEAD (03 R63): bits [15:0] the first entry, bit [16] set when the list is not empty. -/
def wheadAt (s : State) (n : Nat) : Nat := match listAt s n with
  | [] => 0
  | i :: _ => i % 65536 + 65536

/-- Write the object of both copies. -/
def putObj (n : Nat) (o : Obj) (s : State) : State :=
  let x := slotAt s n
  putSlot n { x with a := { x.a with obj := o }, b := { x.b with obj := o } } s

/-- Change the object in each copy, whatever the copies' check bits show (13 R304: a later read resolves them). -/
def modObj (n : Nat) (f : Obj → Obj) (s : State) : State :=
  let x := slotAt s n
  putSlot n { x with a := { x.a with obj := f x.a.obj }, b := { x.b with obj := f x.b.obj } } s

/-- Write the waiter list. -/
def putList (n : Nat) (l : List Nat) (s : State) : State := putSlot n { slotAt s n with list := l } s

/-- One up on the sequences of both copies (03 R61). -/
def bumpSeq (n : Nat) (s : State) : State :=
  let x := slotAt s n
  putSlot n { x with a := { x.a with seq := x.a.seq + 1 }, b := { x.b with seq := x.b.seq + 1 } } s

/-- The 32 bytes before a pass: object and WHEAD. -/
def bytesAt (s : State) (n : Nat) : Obj × Nat := (objAt s n, wheadAt s n)

/-- Raise the sequence if a bit of the 32 bytes changed since `before` (03 R61). -/
def bumpIf (n : Nat) (before : Obj × Nat) (s : State) : State := if bytesAt s n = before then s else bumpSeq n s

/-! ## Third copies (13 R314-R317) -/

/-- The dies that hold a third copy of slot `n`. -/
def holdersOf (s : State) (n : Nat) : List DieId := tgetD s.vat.holders n []

/-- Send a SHADOW_UPD to every holder; the frames' identities. -/
def shadowSend (n : Nat) (seq : BitVec 16) (sub : ShadowSub) (s : State) : List Nat × State :=
  (holdersOf s n).foldl (fun (acc : List Nat × State) d =>
    let (i, s) := sendFrameId d (.shadow (BitVec.ofNat 17 n) seq sub) acc.2
    (acc.1 ++ [i], s)) ([], s)

/-- Requests see no object in slot `n`: it holds a third copy for another die that is not live (13 R315), or this die
is a former primary and the object is SHADOW (13 R326). -/
def thirdDead (s : State) (n : Nat) : Bool := match tget s.vat.third n with
  | some t => !t.live
  | none => (objAt s n).shadow && !s.couch.steppedDown.isEmpty

/-! ## Resolving a read (13 R304) -/

/-- The outcome of reading a slot. -/
inductive Resolved where
  | ok (fresh : Bool)
  | fetch (both : Bool)
  | lost
  deriving DecidableEq, Repr

/-- A single-bit correction in any array (13, GS_RES_ECC; 14 R349). -/
def countCorr (s : State) : State := bumpAon 0x10 { s with res := { s.res with corr := sat16 s.res.corr } }

/-- Count what a read of one copy finds (13 R304, 14 R349). -/
def countCopy (c : Copy) (s : State) : State :=
  let s := if c.err.single then countCorr s else s
  if c.err.ue || c.err.seqUe then { s with res := { s.res with ue := sat16 s.res.ue } } else s

/-- Write one image and sequence to both copies. -/
def writeBoth (n : Nat) (o : Obj) (q : BitVec 16) (s : State) : State :=
  putSlot n { slotAt s n with a := { obj := o, seq := q }, b := { obj := o, seq := q } } s

/-- Track a newly DIVERGED object, eight at most (13 R309). -/
def trackDiverged (n : Nat) (s : State) : State :=
  if s.vat.told.any (fun t => t.slot == n) ∨ 8 ≤ s.vat.told.length then s
  else { s with vat := { s.vat with told := s.vat.told ++ [{ slot := n }] } }

/-- Mark a slot DIVERGED on copy A (13 R308). A sequence field that does not read takes the other copy's (R304). -/
def markDiverged (n : Nat) (s : State) : State :=
  let x := slotAt s n
  let q := if x.a.err.seqUe then x.b.seq else x.a.seq
  let s := logEvent 0x05 (some 0x05) (BitVec.ofNat 32 n) x.b.obj.value
    (BitVec.ofNat 64 (x.b.obj.epoch.toNat + 2 ^ 32 * x.b.obj.state.toNat)) s
  trackDiverged n (writeBoth n { x.a.obj with diverged := true } q s)

/-- The slot is LOST (13 R306). -/
def markLost (n : Nat) (s : State) : State :=
  let x := slotAt s n
  let s := logEvent 0x02 none (BitVec.ofNat 32 n) 2 0 s
  putSlot n { x with a := { x.a with err := {} }, b := { x.b with err := {} }, lost := true } s

/-- Resolve a read of slot `n` by the rows of 13 R304 in order. An unreadable sequence field beside a copy that is
not clean counts as unreadable data (log entry 26). -/
def resolve (n : Nat) (s : State) : Resolved × State :=
  let x := slotAt s n
  if x.lost then (.lost, s)
  else if x.a.err = {} ∧ x.b.err = {} ∧ x.a = x.b then (.ok false, s)
  else
    let s := countCopy x.b (countCopy x.a s)
    let badA := x.a.err.ue || (x.a.err.seqUe && (x.b.err.ue || x.b.err.seqUe))
    let badB := x.b.err.ue || (x.b.err.seqUe && (x.a.err.ue || x.a.err.seqUe))
    let sub := BitVec.ofNat 32 n
    let third := !(holdersOf s n).isEmpty
    let undecided := fun (s : State) =>
      if third then (Resolved.fetch false, s) else (.ok true, markDiverged n s)
    if badA && badB then
      if third then (.fetch true, s) else (.lost, markLost n s)
    else if badA then (.ok false, writeBoth n x.b.obj x.b.seq (logEvent 0x01 none sub 0 0 s))
    else if badB then (.ok false, writeBoth n x.a.obj x.a.seq (logEvent 0x01 none sub 1 0 s))
    else if x.a.err.seqUe || x.b.err.seqUe then
      if x.a.obj = x.b.obj then
        let q := if x.a.err.seqUe then x.b.seq else x.a.seq
        (.ok false, writeBoth n x.a.obj q (logEvent 0x01 none sub (if x.b.err.seqUe then 1 else 0) 0 s))
      else undecided s
    else if x.a.obj = x.b.obj ∧ x.a.seq = x.b.seq then (.ok false, writeBoth n x.a.obj x.a.seq s)
    else
      let d := (x.a.seq - x.b.seq).toNat
      let bySeq := fun (c : Copy) =>
        let s := logEvent 0x03 none sub (x.a.seq.setWidth 64) (x.b.seq.setWidth 64) s
        (Resolved.ok false, writeBoth n c.obj c.seq { s with res := { s.res with cmpSeq := sat16 s.res.cmpSeq } })
      if d = 0 ∨ d = 2 ^ 15 then undecided s
      else if d < 2 ^ 15 then bySeq x.a else bySeq x.b

/-- The unsigned median of three. -/
def median (a b c : BitVec w) : BitVec w :=
  if a.toNat ≤ b.toNat then (if b.toNat ≤ c.toNat then b else if a.toNat ≤ c.toNat then c else a)
  else (if a.toNat ≤ c.toNat then a else if b.toNat ≤ c.toNat then c else b)

/-- The value at least two hold, or the first when all differ. -/
def majority [DecidableEq α] (a b c : α) : α := if b = c then b else a

/-- The three-way choice (13 R305). FLAGS is one field. -/
def threeWay (a b c : Obj) : Obj :=
  let fl := fun (o : Obj) => flagsOf o
  let f := if fl b = fl c then b else a
  { kind := majority a.kind b.kind c.kind, state := majority a.state b.state c.state
    kflags := f.kflags, armed := f.armed, wmark := f.wmark, shadow := f.shadow, diverged := f.diverged
    priv := f.priv, epoch := median a.epoch b.epoch c.epoch, value := median a.value b.value c.value
    thresh := median a.thresh b.thresh c.thresh, lastsig := majority a.lastsig b.lastsig c.lastsig
    owner := majority a.owner b.owner c.owner }

/-- Start a third-copy fetch (13 R307). -/
def startFetch (n : Nat) (both : Bool) (s : State) : State :=
  if s.vat.fetch.any (fun f => f.slot == n) then s
  else
    let s := { s with vat := { s.vat with
      fetch := s.vat.fetch ++ [{ slot := n, from_ := holdersOf s n, got := [], both }] } }
    (shadowSend n (slotAt s n).a.seq .fetch s).2

/-- A slot whose third copy is being fetched. -/
def fetching (s : State) (n : Nat) : Bool := s.vat.fetch.any (fun f => f.slot == n)

/-- A read of a slot by no request: resolved, or its third copy fetched (13 R304, R312). -/
def readSlot (n : Nat) (s : State) : State :=
  if fetching s n then s
  else match resolve n s with
    | (.fetch both, s) => startFetch n both s
    | (.lost, s) => s
    | (.ok fresh, s) => if fresh then bumpSeq n s else s

/-! ## DIVERGED (13 R309, R310) -/

/-- Whether this agent is to be answered DIVERGED in place of OK, and the tracking after (13 R309). -/
def divergedTouch (n : Nat) (a : AgentId) (s : State) : Bool × State :=
  if !(objAt s n).diverged then (false, s)
  else
    let overflown := fun (s : State) => (true, { s with res := { s.res with toldOvf := true } })
    match s.vat.told.find? (fun t => t.slot == n) with
    | none => overflown s
    | some t =>
      if t.agents.contains a then (false, s)
      else if 64 ≤ t.agents.length then overflown s
      else (true, { s with vat := { s.vat with
        told := s.vat.told.map (fun u => if u.slot = n then { u with agents := u.agents ++ [a] } else u) } })

/-- Free a slot's tracking entry (13 R310). -/
def untrack (n : Nat) (s : State) : State :=
  { s with vat := { s.vat with told := s.vat.told.filter (fun t => t.slot != n) } }

/-- Replace OK by DIVERGED where 13 R309 says so. -/
def okOrDiverged (n : Nat) (op : Op) (s : State) : Status × State :=
  match whoOf op with
  | none => (stOk, s)
  | some a =>
    let (d, s) := divergedTouch n a s
    (if d then stDiverged else stOk, s)

/-! ## Kinds as loaded -/

/-- The user kinds that are defined now (04 R116, 13 R311). -/
def liveKinds (s : State) : List UKind := s.kt.kinds.filter (fun u => !s.kt.bad.contains u.code)

/-- A kind code that is neither built in nor a defined user kind. -/
def kindUnknown (s : State) (k : Byte) : Bool := !isBuiltin k && (ukindOf (liveKinds s) k).isNone

/-- A kind that is not defined, or a STATE that a user kind does not have (03 R72, 04 R107). -/
def kindUnfit (s : State) (o : Obj) : Bool :=
  kindUnknown s o.kind || (!isBuiltin o.kind && (ukindOf (liveKinds s) o.kind).any (fun u => decide (u.nstates ≤ o.state.toNat)))

/-- Log a slot with an unknown kind or state once (03 R72, 04 R107). -/
def logBadKind (n : Nat) (s : State) : State :=
  if s.vat.badLogged.contains n then s
  else
    let o := objAt s n
    logEvent 0x06 none (BitVec.ofNat 32 n) (BitVec.ofNat 64 (o.kind.toNat + 256 * o.state.toNat)) 0
      { s with vat := { s.vat with badLogged := insSorted n s.vat.badLogged } }

end Sys2Proof.Machine
end

