-- ==== Sys2Proof/Machine/Launch.lean ====
section
/-! DEFINITION. The launcher: firing, launching, disarming, MEMP failures (10), and the watch entries and waiter
lists its descriptors share with the watches (05 R121, R138). -/

namespace Sys2Proof.Machine

/-! ## Watch entries -/

/-- Entries in use (05 R138). -/
def watchUsed (s : State) : Nat := s.wt.entries.length

/-- A watch entry is free. -/
def entryFree (s : State) : Bool := decide (watchUsed s < 65536)

/-- Count a RETRY for lack of a watch entry (05 R138). -/
def countFull (s : State) : State := { s with wt := { s.wt with full := sat16 s.wt.full } }

/-- Write an entry at an index. -/
def putEntry (ix : Nat) (e : Entry) (s : State) : State :=
  let t := tset s.wt.entries ix e
  { s with wt := { s.wt with entries := t, peak := max s.wt.peak t.length } }

/-- Take the lowest free index for a new entry (05 R121). -/
def allocEntry (e : Entry) (s : State) : Nat × State :=
  let ix := lowestFreeFrom s.wt.entries 0
  (ix, putEntry ix e s)

/-- Drop from the paused walks what `p` names. -/
def unwalk (p : WalkItem → Bool) (s : State) : State :=
  { s with wt := { s.wt with walks := s.wt.walks.map (fun w => { w with items := w.items.filter (fun i => !p i) }) } }

/-- Free an entry; no paused walk tests it any more. -/
def freeEntry (ix : Nat) (s : State) : State :=
  unwalk (· == .entry ix) { s with wt := { s.wt with entries := terase s.wt.entries ix } }

/-- The entry at an index is an armed descriptor. -/
def isArmed (s : State) (ix : Nat) : Bool := match tget s.wt.entries ix with
  | some (.armed ..) => true
  | _ => false

/-- Link an entry at the tail of a slot's list. -/
def linkTail (n ix : Nat) (s : State) : State := putList n (listAt s n ++ [ix]) s

/-- Unlink an entry from a slot's list and free it. ARMED clears with the object's last descriptor (10 R243). -/
def unlink (n ix : Nat) (s : State) : State :=
  let s := freeEntry ix (putList n ((listAt s n).filter (· != ix)) s)
  if (objAt s n).armed && !(listAt s n).any (isArmed s) then modObj n (fun o => { o with armed := false }) s else s

/-- The queued requests and held arrivals of a slot, in order of joining. -/
def queueAt (s : State) (n : Nat) : List QEnt :=
  (listAt s n).filterMap (fun ix => match tget s.wt.entries ix with
    | some (.queued _ op h) => some { ix, op, held := h }
    | _ => none)

/-! ## MEMP requests -/

/-- Hand a request to MEMP, where it waits its turn (19 R439). -/
def mempAsk (r : MReq) (s : State) : State := { s with memp := { s.memp with waiting := s.memp.waiting ++ [r] } }

/-! ## Descriptors and queues -/

/-- Saturating add on a 16-bit RC counter. -/
def satAdd16 (n k : Nat) : Nat := min 0xFFFF (n + k)

/-- The launch queue `q`. -/
def lqAt (s : State) (q : Nat) : LQueue := s.la.queues.getD q {}

/-- Change a launch queue. -/
def modLq (q : Nat) (f : LQueue → LQueue) (s : State) : State :=
  { s with la := { s.la with queues := s.la.queues.modify q f } }

/-- Change a descriptor. -/
def modDesc (d : Nat) (f : Desc → Desc) (s : State) : State := { s with la := { s.la with descs := tmod s.la.descs d f } }

/-- Launcher store slots in use: descriptors and Watermark records (08 R196). -/
def storeUsed (s : State) : Nat := s.la.descs.length + s.wm.recs.length

/-- The lowest launcher-store slot that holds neither (log entry 18). -/
def storeFree (s : State) : Option Nat :=
  if storeUsed s < 8192 then
    (List.range 8192).find? (fun i => (tget s.la.descs i).isNone && (tget s.wm.recs i).isNone)
  else none

/-- The die does no new launcher work: halted, in BRACE, in SLEEP or entering it (10 R252). -/
def launcherStopped (s : State) : Bool :=
  s.pwr.halted || s.res.fatal || s.pwr.st == .brace || s.pwr.st == .sleep || s.pwr.sleep != .none

/-- PROD without the indices at its end that are still to be written (10 R252: a failed entry does not advance it; log entry 90). -/
def prodBack (gaps : List (W32 × Option Nat)) : Nat → W32 → W32
  | 0, p => p
  | n + 1, p => if gaps.any (fun g => g.1 == p - 1) then prodBack gaps n (p - 1) else p

/-- PROD of GS_LQ_PROD. -/
def lqProd (l : LQueue) : W32 := prodBack l.gaps l.gaps.length l.prod

/-- A ring index left by a discarded launch, which the next launch takes (log entry 90). -/
def lqFree (l : LQueue) : Option W32 := (l.gaps.find? (fun g => g.2.isNone)).map (·.1)

/-- The queue has free space (10 R239). -/
def lqSpace (l : LQueue) : Bool := (lqFree l).isSome || decide ((l.prod - l.cons).toNat < 2 ^ l.logsize.toNat)

/-- A failed launch of the descriptor is to write its entry again (10 R252). -/
def gapOf (s : State) (slot : Nat) : Bool := s.la.queues.any (fun l => l.gaps.any (fun g => g.2 == some slot))

/-- DBRETRY (10 R252). -/
def dbRetry (s : State) (q : Nat) : Bool := s.la.runs.any (fun r => r.queue == q && r.redo)

/-- A launch of the descriptor may be issued now (10 R245). NOQ writes no entry, and so needs no enabled queue (R242). -/
def canIssue (s : State) (d : Desc) : Bool :=
  let l := lqAt s d.queue
  !launcherStopped s && (d.noq || l.en) && !l.fault && lqSpace l

/-- A MEMP request of the launcher that is not issued now: its queue is faulted, or the launcher is stopped (10 R252). -/
def mempHeld (s : State) (r : MReq) : Bool :=
  let of_ := fun (d : Nat) => launcherStopped s || (tget s.la.descs d).any (fun e => (lqAt s e.queue).fault)
  match r.use with
  | .entry d _ => of_ d
  | .doorbell d _ => of_ d
  | .cons q => launcherStopped s || (lqAt s q).fault
  | _ => false

/-- The 64-byte entry (10 R247). -/
def launchEntry (s : State) (slot : Nat) (d : Desc) (idx : W32) (late : Bool) : BitVec 512 :=
  let o := objAt s d.slot
  let phase := (idx.toNat / 2 ^ (lqAt s d.queue).logsize.toNat) % 2 == 0
  BitVec.ofNat 512 (d.body.toNat + 2 ^ 256 * o.value.toNat + 2 ^ 320 * o.epoch.toNat + 2 ^ 352 * d.tag.toNat
    + 2 ^ 368 * slot + 2 ^ 384 * (now s).toNat + 2 ^ 448 * (d.launches + 1).toNat + 2 ^ 480 * d.pend
    + 2 ^ 510 * bit late + 2 ^ 511 * bit phase)

/-- Write a launch's entry at a ring index (10 R246 step 1). -/
def writeEntry (slot : Nat) (d : Desc) (idx : W32) (late : Bool) (s : State) : State :=
  let l := lqAt s d.queue
  let addr : W64 := (l.base ++ (0 : BitVec 6)) + BitVec.ofNat 64 (64 * (idx.toNat % 2 ^ l.logsize.toNat))
  let s := mempAsk { use := .entry slot idx, wr := true, size := 2, addr, data := launchEntry s slot d idx late } s
  let s := modDesc slot (fun d => { d with launches := d.launches + 1 }) s
  { s with la := { s.la with
    runs := s.la.runs ++ [{ desc := slot, queue := d.queue, stage := .entry, idx, late }] } }

/-- Start a launch (10 R246): write the entry, or, with NOQ, go to the post-operation. -/
def startLaunch (slot : Nat) (late : Bool) (s : State) : State :=
  match tget s.la.descs slot with
  | none => s
  | some d =>
    if d.noq then
      { s with la := { s.la with
        runs := s.la.runs ++ [{ desc := slot, queue := d.queue, stage := .post, idx := 0, acked := true, late }]
        posts := s.la.posts ++ [slot] } }
    else
      match lqFree (lqAt s d.queue) with
      | some idx => writeEntry slot d idx late (modLq d.queue (fun l => { l with gaps := l.gaps.filter (fun g => g.1 != idx) }) s)
      | none => writeEntry slot d (lqAt s d.queue).prod late (modLq d.queue (fun l => { l with prod := l.prod + 1 }) s)

/-- A firing becomes pending (10 R245, R247). -/
def firePending (slot : Nat) (d : Desc) (s : State) : State :=
  if d.pend = 0xFFFF then { s with la := { s.la with drop := sat16 s.la.drop } }
  else
    let s := modDesc slot (fun d => { d with pend := d.pend + 1 }) s
    modLq d.queue (fun l => if l.pending.contains slot then l else { l with pending := l.pending ++ [slot] }) s

/-- A descriptor fires (10 R245). A ONCE descriptor fires no more. -/
def fireDesc (slot : Nat) (s : State) : State :=
  match tget s.la.descs slot with
  | none => s
  | some d =>
    if d.dead then s
    else
      let s := if d.cond.getLsbD 3 then modDesc slot (fun d => { d with dead := true }) s else s
      if d.pend = 0 && !gapOf s slot && canIssue s d then startLaunch slot false s else firePending slot d s

/-- Free a descriptor's slot and answer the DISARM that waits for it (10 R249). -/
def freeDesc (slot : Nat) (s : State) : State :=
  match tget s.la.descs slot with
  | none => s
  | some d =>
    let s := { s with la := { s.la with descs := terase s.la.descs slot } }
    match d.disarm with
    | some op => answerZ op stOk s
    | none => s

/-- A launch of the descriptor is in progress. -/
def launching (s : State) (slot : Nat) : Bool := s.la.runs.any (fun r => r.desc == slot)

/-- Discard the pending launches of a descriptor and count them (10 R249, R251). -/
def dropPending (slot : Nat) (s : State) : State :=
  match tget s.la.descs slot with
  | none => s
  | some d =>
    let s := modDesc slot (fun d => { d with pend := 0, dead := true }) s
    let back := ((lqAt s d.queue).gaps.filter (fun g => g.2 == some slot)).length
    let s := modLq d.queue (fun l => { l with
      pending := l.pending.filter (· != slot)
      gaps := l.gaps.map (fun g => if g.2 = some slot then (g.1, none) else g) }) s
    { s with la := { s.la with drop := satAdd16 s.la.drop (d.pend + back) } }

/-- Disarm without a launch (10 R249, R251): a launch already started completes, and the slot is freed then. The
watch entry is the caller's to unlink. -/
def disarmDesc (slot : Nat) (by_ : Option Op) (s : State) : State :=
  let s := modDesc slot (fun d => { d with disarm := by_ }) (dropPending slot s)
  if launching s slot then s else freeDesc slot s

/-- A descriptor is armed: its entry is still on a list. -/
def descArmed (s : State) (slot : Nat) : Bool := match tget s.la.descs slot with
  | none => false
  | some d => match tget s.wt.entries d.entry with
    | some (.armed _ k) => k == slot
    | _ => false

/-- A launch ends (10 R246 step 4): the run goes, and a ONCE or disarmed descriptor is freed. -/
def endLaunch (slot : Nat) (p : Launch → Bool) (s : State) : State :=
  let s := { s with la := { s.la with runs := dropFirst p s.la.runs, done := sat16 s.la.done } }
  match tget s.la.descs slot with
  | none => s
  | some d =>
    if d.dead && d.pend == 0 && !launching s slot && !gapOf s slot then
      let s :=
        if descArmed s slot then
          let before := bytesAt s d.slot
          bumpIf d.slot before (unlink d.slot d.entry s)
        else s
      freeDesc slot s
    else s

/-- The doorbell value (10 R241). -/
def doorbellValue (d : Desc) (idx : W32) : W32 := if d.dbProd then idx + 1 else d.dbValue

/-- Issue the doorbells of a queue that may go: every entry of the queue up to this one acknowledged (10 R246). -/
def issueDoorbells (q : Nat) (s : State) : State :=
  s.la.runs.foldl (fun s r =>
    if r.queue = q ∧ r.stage = .doorbellWait ∧ !(lqAt s q).fault ∧ !launcherStopped s then
      let before := fun (i : W32) => decide ((r.idx - i).toNat < 2 ^ 31)
      let earlier := s.la.runs.any (fun e => e.queue == q && e.stage == .entry && before e.idx) ||
        (lqAt s q).gaps.any (fun g => before g.1)
      if earlier then s
      else match tget s.la.descs r.desc with
        | none => s
        | some d =>
          let l := lqAt s q
          let s := mempAsk { use := .doorbell r.desc r.idx, wr := true, size := 0, addr := l.db ++ (0 : BitVec 2)
                             data := (doorbellValue d r.idx).setWidth 512 } s
          { s with la := { s.la with runs := s.la.runs.map (fun e => if e = r then { e with stage := .doorbell } else e) } }
    else s) s

/-- After the writes of a launch: the post-operation, or the end (10 R246). -/
def afterWrites (r : Launch) (s : State) : State :=
  match tget s.la.descs r.desc with
  | none => { s with la := { s.la with runs := dropFirst (· == r) s.la.runs } }
  | some d =>
    if d.postEn then
      { s with la := { s.la with
        runs := s.la.runs.map (fun e => if e = r then { e with stage := .post } else e)
        posts := s.la.posts ++ [r.desc] } }
    else endLaunch r.desc (· == r) s

/-- A queue faults (10 R252). -/
def lqFault (q : Nat) (ty : BitVec 2) (timeout : Bool) (slot : Nat) (addr : W64) (s : State) : State :=
  let s := modLq q (fun l => { l with fault := true }) s
  let s := { s with la := { s.la with
    faultValid := true, faultType := ty, faultTimeout := timeout, faultQueue := BitVec.ofNat 4 q
    faultSlot := BitVec.ofNat 13 slot } }
  let w : W32 := BitVec.ofNat 32 (2 ^ 31 + 2 ^ 29 * ty.toNat + 2 ^ 28 * bit timeout + 2 ^ 24 * q + slot)
  logEvent 0x0A (some 0x02) w addr 0 s

/-- Put a failed index in its place among the others. -/
def gapIn (g : W32 × Option Nat) : List (W32 × Option Nat) → List (W32 × Option Nat)
  | [] => [g]
  | h :: r => if (h.1 - g.1).toNat < 2 ^ 31 then g :: h :: r else h :: gapIn g r

/-- An entry write ends, `ok` or failed (10 R246, R252). The launch that failed goes back, its PEND as it was. -/
def entryDone (slot : Nat) (idx : W32) (ok timeout : Bool) (addr : W64) (s : State) : State :=
  match s.la.runs.find? (fun r => r.desc == slot && r.stage == .entry && r.idx == idx) with
  | none => s
  | some r =>
    if ok then
      match tget s.la.descs slot with
      | none => s
      | some d =>
        let r' := { r with acked := true, stage := if d.dbEn then LStage.doorbellWait else r.stage }
        let s := { s with la := { s.la with runs := s.la.runs.map (fun e => if e = r then r' else e) } }
        let s := if d.dbEn then s else afterWrites r' s
        issueDoorbells r.queue s
    else
      let s := { s with la := { s.la with runs := dropFirst (· == r) s.la.runs } }
      let s := modDesc slot (fun d => { d with launches := d.launches - 1 }) s
      let s := modLq r.queue (fun l => { l with gaps := gapIn (idx, some slot) l.gaps }) s
      lqFault r.queue 0 timeout slot addr s

/-- A doorbell write ends (10 R246, R252). -/
def doorbellDone (slot : Nat) (idx : W32) (ok timeout : Bool) (addr : W64) (s : State) : State :=
  match s.la.runs.find? (fun r => r.desc == slot && r.stage == .doorbell && r.idx == idx) with
  | none => s
  | some r =>
    if ok then
      let r' := { r with redo := false }
      afterWrites r' { s with la := { s.la with runs := s.la.runs.map (fun e => if e = r then r' else e) } }
    else
      let s := { s with la := { s.la with
        runs := s.la.runs.map (fun e => if e = r then { e with stage := .doorbellWait, redo := true } else e) } }
      lqFault r.queue 1 timeout slot addr s

/-- Write again the first entry of a queue that failed, at its index and with LATE = 1 (10 R252). -/
def issueAgain (q : Nat) (s : State) : State :=
  match (lqAt s q).gaps.find? (fun g => g.2.isSome) with
  | some (idx, some k) => match tget s.la.descs k with
    | some d => writeEntry k d idx true (modLq q (fun l => { l with gaps := l.gaps.filter (fun g => g.1 != idx) }) s)
    | none => s
  | _ => s

/-- An entry of the queue that failed may be written again. -/
def mayAgain (s : State) (q : Nat) : Bool :=
  let l := lqAt s q
  l.en && !l.fault && !launcherStopped s && l.gaps.any (fun g => g.2.isSome)

/-- Issue the first pending launch of a queue that may go (10 R245, R247): one entry, then the next descriptor's
turn. A launch that failed goes first (R252). -/
def issuePending (q : Nat) (s : State) : State :=
  if mayAgain s q then issueAgain q s
  else
  match (lqAt s q).pending.find? (fun k => match tget s.la.descs k with
    | some d => canIssue s d
    | none => false) with
  | none => s
  | some k =>
    let s := modDesc k (fun d => { d with pend := d.pend - 1 }) s
    let left := match tget s.la.descs k with
      | some d => d.pend
      | none => 0
    let s := modLq q (fun l =>
      let r := l.pending.filter (· != k)
      { l with pending := if left = 0 then r else r ++ [k] }) s
    startLaunch k true s

end Sys2Proof.Machine
end

