-- ==== Sys2Proof/Machine/Watermark.lean ====
section
/-! DEFINITION. Watermarks on objects and on the block's own queues (08 R196-R209). -/

namespace Sys2Proof.Machine

/-! ## Records on objects -/

/-- The level a record watches (08 R197). Held arrivals of a user kind are no queued requests. -/
def wmLevel (s : State) (n : Nat) (src : Bool) : Nat :=
  let o := objAt s n
  let v := o.value.toNat
  if src then ((queueAt s n).filter (fun q => q.held.isNone)).length
  else if o.kind = kBarrier ∨ o.kind = kStepAgree then v % 2 ^ 32
  else if o.kind = kRing then (ringOf o).h - (ringOf o).f
  else if o.kind = kMonoPair then v - o.thresh.toNat
  else if o.kind = kTicketLock then (o.value.extractLsb' 0 32 - o.value.extractLsb' 32 32 : BitVec 32).toNat
  else v

/-- SIDE from a level (08 R198). -/
def wmSide (hen len : Bool) (h l cur : Nat) : Side :=
  if hen && decide (h ≤ cur) then .above else if len && decide (cur ≤ l) then .below else .between

/-- SIDE as a code. -/
def sideCode : Side → Nat
  | .below => 0 | .between => 1 | .above => 2

/-- Write a record. -/
def putRec (i : Nat) (r : WmRec) (s : State) : State := { s with wm := { s.wm with recs := tset s.wm.recs i r } }

/-- The payload of a notice built at a level (08 R202). -/
def wmPayload (i : Nat) (r : WmRec) (cur : Nat) (delayed : Bool) : BitVec 512 :=
  BitVec.ofNat 512 (r.peak + 2 ^ 64 * r.trough + 2 ^ 128 * cur + 2 ^ 192 * r.up + 2 ^ 208 * r.dn
    + 2 ^ 224 * (sideCode r.side + 4 * bit r.src + 8 * bit delayed + 16 * bit (r.up == 0xFFFF || r.dn == 0xFFFF))
    + 2 ^ 240 * i)

/-- Build a notice from an object's fields and level, and clear the record's state (08 R199, R200, R202). -/
def wmNotice (i : Nat) (r : WmRec) (delayed : Bool) (o : Obj) (cur : Nat) (s : State) : State :=
  let f := { notifFlit o r.target r.tinc r.ctx r.handle r.cookie with
    wm := true, data := wmPayload i r cur delayed }
  let r := { r with up := 0, dn := 0, latch := false, peak := cur, trough := cur
                    notices := r.notices + 1, holdoff := r.hold != 0 }
  sendNotif f (bumpAon 0x13 (putRec i r s))

/-- The test of a record in step 4 of a pass (08 R198, R199). -/
def wmCross (r : WmRec) (cur : Nat) : WmRec :=
  let h := r.h.toNat
  let l := r.l.toNat
  let up := r.hen && decide (r.level < h) && decide (h ≤ cur)
  let dn := r.len && decide (l < r.level) && decide (cur ≤ l)
  { r with
    up := if up then satInc 0xFFFF r.up else r.up, dn := if dn then satInc 0xFFFF r.dn else r.dn
    peak := max r.peak cur, trough := min r.trough cur, level := cur, latch := r.latch || up || dn
    side := wmSide r.hen r.len h l cur }

/-- Test one record of an object at a level (08 R198, R200). -/
def wmTest (i : Nat) (o : Obj) (cur : Nat) (s : State) : State :=
  match tget s.wm.recs i with
  | none => s
  | some r =>
    let r := wmCross r cur
    if r.latch && !r.holdoff then wmNotice i r false o cur s else putRec i r s

/-- The records of an object, each with its level now. -/
def wmItems (s : State) (n : Nat) : List WalkItem :=
  if (objAt s n).wmark then
    (s.wm.recs.filter (fun e => e.2.slot == n)).map (fun e => .record e.1 (wmLevel s n e.2.src))
  else []

/-- Free a record without a notice. -/
def wmFree (i : Nat) (s : State) : State :=
  unwalk (fun x => match x with
    | .record k _ => k == i
    | .entry _ => false) { s with wm := { s.wm with recs := terase s.wm.recs i } }

/-- Free the records of an object without a notice (08 R204). -/
def wmFreeAll (n : Nat) (s : State) : State :=
  { s with wm := { s.wm with recs := s.wm.recs.filter (fun e => e.2.slot != n) } }

/-! ## Block queues (08 R205, R206) -/

/-- One test of a block queue's Watermark: the record after, and whether it crossed. -/
def qwmStep (q : Qwm) (unit cur : Nat) : Qwm × Bool :=
  let h := q.high.toNat * unit
  let l := q.low.toNat * unit
  let up := q.hen && decide (q.prev < h) && decide (h ≤ cur)
  let dn := q.len && decide (l < q.prev) && decide (cur ≤ l)
  let q := { q with
    prev := cur, peak := max q.peak (min 255 (cur / unit)), side := wmSide q.hen q.len h l cur
    up := q.up || up, dn := q.dn || dn, cross := if up || dn then satInc 255 q.cross else q.cross }
  (q, up || dn)

/-- Test block queue `n`, which stands at level `cur` (08 R206). -/
def qwmTest (n unit cur : Nat) (s : State) : State :=
  let (q, x) := qwmStep (s.wm.q.getD n {}) unit cur
  let s := { s with wm := { s.wm with q := s.wm.q.set n q } }
  if x then assertSource (0x10 + n) (bumpAon 0x13 s) else s

end Sys2Proof.Machine
end

