-- ==== Sys2Proof/Machine/Watches.lean ====
section
/-! DEFINITION. Watches: conditions, firing, registration, freeing (05 R119-R132, R144). -/

namespace Sys2Proof.Machine

/-- A condition other than EPOCH holds on an object (05 R124). -/
def condHolds (cond : BitVec 4) (c : W64) (o : Obj) : Bool :=
  match cond.toNat % 8 with
  | 0 => decide (c.toNat ≤ o.value.toNat)
  | 1 => o.value == c
  | 2 => o.value != c
  | 3 => o.value &&& c == c
  | 4 => o.value &&& c == 0
  | 5 => o.state.toNat == c.toNat % 256
  | _ => false

/-- The test of a watch (05 R125, R126): whether it fires, and HELD and the reference after. -/
def condTest (cond : BitVec 4) (c : W64) (held : Bool) (ref : W32) (o : Obj) : Bool × Bool × W32 :=
  if cond.toNat % 8 = 6 then
    if o.epoch ≠ ref then (true, held, o.epoch) else (false, held, ref)
  else
    let r := condHolds cond c o
    (r && !held, r, ref)

/-- ONCE (05 R124). -/
def isOnce (cond : BitVec 4) : Bool := cond.getLsbD 3

/-- The first reference epoch of a condition (05 R124). -/
def firstRef (cond : BitVec 4) (c : W64) : W32 := if cond.toNat % 8 = 6 then c.setWidth 32 else 0

/-- The index by which the target's die knows a watch: its own, or of a watch that a taker keeps for the failed home the
index it had there (log entry 81). -/
def freedIndex (s : State) (ix : Nat) : BitVec 16 := match tget s.wt.entries ix with
  | some (.standby _ _ i) => i
  | _ => BitVec.ofNat 16 ix

/-- Tell the target's die that a watch is freed (05 R131). -/
def sendFreed (idx : BitVec 16) (w : Watch) (s : State) : State :=
  if dieOf w.target = myDie s then s else sendFrame (dieOf w.target) (.freed idx w.target) s

/-- Free a watch: unlink it and tell a remote target's die (05 R131). -/
def freeWatch (ix : Nat) (w : Watch) (s : State) : State := sendFreed (freedIndex s ix) w (unlink w.slot ix s)

/-- The notification of a watch from the object's fields. -/
def watchNotif (o : Obj) (w : Watch) : OutFlit := notifFlit o w.target w.tinc w.ctx w.handle w.cookie

/-- Test one watch against the object's fields; the entry is rewritten, or freed when a ONCE fires (05 R125-R127).
`wrap` puts the watch back into its entry. True when the entry was freed. -/
def testWatch (ix : Nat) (w : Watch) (wrap : Watch → Entry) (o : Obj) (s : State) : Bool × State :=
  let (fires, held, ref) := condTest w.cond w.comparand w.held w.ref o
  if fires then
    let s := sendNotif (watchNotif o w) s
    if isOnce w.cond then (true, freeWatch ix w s) else (false, putEntry ix (wrap { w with held, ref }) s)
  else (false, if held = w.held ∧ ref = w.ref then s else putEntry ix (wrap { w with held, ref }) s)

/-- Test one descriptor (10 R245). -/
def testDesc (slot : Nat) (o : Obj) (s : State) : State :=
  match tget s.la.descs slot with
  | none => s
  | some d =>
    let (fires, held, ref) := condTest d.cond d.comparand d.held d.ref o
    let s := modDesc slot (fun d => { d with held, ref }) s
    if fires then fireDesc slot s else s

/-- Test one item of a walk against the fields its pass left; the home index of a ONCE watch that it frees. -/
def walkItem (n : Nat) (o : Obj) (i : WalkItem) (s : State) : List Nat × State := match i with
  | .record k level => ([], wmTest k o level s)
  | .entry ix => match tget s.wt.entries ix with
    | some (.watch w) =>
      let (f, s) := testWatch ix w .watch o s
      (if f then [ix] else [], s)
    | some (.standby w h i) =>
      if (tget s.vat.third n).any (·.live) then ([], (testWatch ix w (fun w => .standby w h i) o s).2) else ([], s)
    | some (.armed _ d) => ([], testDesc d o s)
    | _ => ([], s)

/-- Test the items of a walk in order until the notification buffer is full (05 R137): what is left, and the ONCE watches
freed. -/
def walkItems (n : Nat) (o : Obj) : List WalkItem → State → List WalkItem × List Nat × State
  | [], s => ([], [], s)
  | i :: r, s =>
    if 256 ≤ notifWaiting s then (i :: r, [], s)
    else
      let (f, s) := walkItem n o i s
      let (left, fs, s) := walkItems n o r s
      (left, f ++ fs, s)

/-- Run a walk as far as it goes. Its frees belong to its pass: they raise the sequence once at most (03 R61), and the copy
holders learn of them (13 R316). -/
def runWalk (w : ListWalk) (s : State) : State :=
  let n := w.slot
  let before := bytesAt s n
  let (left, freed, s) := walkItems n w.obj w.items s
  let moved := decide (bytesAt s n ≠ before)
  let s := if w.bumped then s else bumpIf n before s
  let s := freed.foldl (fun s ix => (shadowSend n (seqAt s n) (.watchFree (BitVec.ofNat 16 ix)) s).2) s
  if left.isEmpty then s
  else { s with wt := { s.wt with walks := s.wt.walks ++ [{ w with items := left, bumped := w.bumped || moved }] } }

/-- A walk waits for the earlier walk of its object (05 R136). -/
def joinWalk (w : ListWalk) (s : State) : State :=
  if s.wt.walks.any (fun v => v.slot == w.slot) then { s with wt := { s.wt with walks := s.wt.walks ++ [w] } }
  else runWalk w s

/-- Step 4 of 03 R64: test every watch and descriptor on the list against the final fields, in list order, then
the Watermark records (05 R136; 08 R198). `bumped`: the pass has raised the sequence. -/
def testAll (n : Nat) (bumped : Bool) (s : State) : State :=
  joinWalk { slot := n, obj := objAt s n, bumped, items := (listAt s n).map .entry ++ wmItems s n } s

/-- The paused walks go on (05 R137). -/
def resumeWalks (s : State) : State :=
  s.wt.walks.foldl (fun s w => joinWalk w s) { s with wt := { s.wt with walks := [] } }

/-- The watches and MIRRORs on an agent's chain, in the order of their indices (05 R123). -/
def chainOf (s : State) (a : AgentId) : List (Nat × Entry) :=
  s.wt.entries.filter (fun e => match e.2 with
    | .watch w => w.target == a
    | .mirror w _ _ _ => w.target == a
    | _ => false)

/-- A die speaks for a home: it is that die, or has taken a role of it over (13 R321). -/
def speaksFor (s : State) (d home : DieId) : Bool :=
  d == home || s.couch.takers.any (fun t => t.primary == home && t.taker == d)

/-- The entry is the MIRROR of a watch of index `idx` at a home that `p` accepts. -/
def isMirror (p : DieId → Bool) (idx : BitVec 16) : Entry → Bool
  | .mirror _ h (some i) _ => p h && i == idx
  | _ => false

/-- The MIRROR of a home die and index (05 R131), or of the home that the die has taken over (log entry 81). -/
def mirrorAt (s : State) (home : DieId) (idx : BitVec 16) : Option Nat :=
  ((s.wt.entries.find? (fun e => isMirror (· == home) idx e.2)).or
    (s.wt.entries.find? (fun e => isMirror (speaksFor s home) idx e.2))).map (·.1)

/-- Free the MIRROR of a home die and index. -/
def freeMirror (home : DieId) (idx : BitVec 16) (s : State) : State :=
  match mirrorAt s home idx with
  | some ix => freeEntry ix s
  | none => s

end Sys2Proof.Machine
end

