-- ==== Sys2Proof/Machine/Mirrors.lean ====
section
/-! DEFINITION. MIRRORs and what waits for their home index: a MOVE, an agent reset (05 R122, R131, R140, R144). -/

namespace Sys2Proof.Machine

/-- Some WATCH of an old incarnation is still unanswered (05 R140 step 4). -/
def unanswered (s : State) (a : AgentId) (i : Byte) : Bool := s.wt.entries.any (fun e => match e.2 with
  | .mirror w _ none _ => w.target == a && w.tinc == i
  | _ => false)

/-- Answer every MOVE whose walk and acknowledgements are done (05 R140 step 5), and end every finished watch release
(05 R144). -/
def movesDone (s : State) : State :=
  s.ag.moves.foldl (fun s m =>
    if m.wait.isEmpty && !unanswered s m.x m.xi then
      answerZ m.op stOk { s with ag := { s.ag with
        moves := s.ag.moves.filter (· ≠ m)
        stubs := s.ag.stubs.map (fun b => if b.live ∧ b.x = m.x ∧ b.xi = m.xi then { b with started := true } else b) } }
    else s)
    { s with ag := { s.ag with
      resets := s.ag.resets.filter (fun r => !r.wait.isEmpty || unanswered s r.agent r.inc) } }

/-- Send a RETARGET for a MIRROR and aim it at the new target (05 R140 step 3). -/
def retargetMirror (m : Mv) (ix : Nat) (w : Watch) (home : DieId) (idx : BitVec 16) (op : Op) (s : State) : State :=
  let s := putEntry ix (.mirror { w with target := m.y, tinc := m.yi } home (some idx) op) s
  let s := { s with ag := { s.ag with moves := s.ag.moves.map (fun n =>
    if n.x = m.x ∧ n.xi = m.xi then { n with wait := n.wait ++ [(home, idx)] } else n) } }
  sendFrame home (.retarget idx m.xi m.yi m.x m.y) s

/-- Send an UNWATCH_RST for a MIRROR and free it (05 R144). -/
def unwatchMirror (a : AgentId) (inc : Byte) (ix : Nat) (home : DieId) (idx : BitVec 16) (s : State) : State :=
  let s := { s with ag := { s.ag with resets := s.ag.resets.map (fun r =>
    if r.agent = a ∧ r.inc = inc then { r with wait := r.wait ++ [(home, idx)] } else r) } }
  sendFrame home (.unwatchRst idx inc a) (freeEntry ix s)

/-- A MIRROR has learned its home index: a MOVE or a reset that waited for it goes on. -/
def mirrorKnown (ix : Nat) (s : State) : State :=
  match tget s.wt.entries ix with
  | some (.mirror w home (some idx) op) =>
    match s.ag.moves.find? (fun m => m.x == w.target && m.xi == w.tinc) with
    | some m => retargetMirror m ix w home idx op s
    | none =>
      if s.ag.resets.any (fun r => r.agent == w.target && r.inc == w.tinc)
      then unwatchMirror w.target w.tinc ix home idx s else s
  | _ => s

/-- A forwarded WATCH is registered at its home: its MIRROR learns the home index (05 R122). -/
def mirrorLearn (ix : Nat) (idx : BitVec 16) (s : State) : State :=
  match tget s.wt.entries ix with
  | some (.mirror w h none op) => mirrorKnown ix (putEntry ix (.mirror w h (some idx) op) s)
  | _ => s

end Sys2Proof.Machine
end

