-- ==== Sys2Proof/Machine/Couch.lean ====
section
/-! DEFINITION. The combining tree: arrivals at an object and at a die's record, reports, roles, releases and
refusals (06 R145-R159, 07 R179-R188, 13 R321, R322). -/

namespace Sys2Proof.Machine

/-! ## Topology (18 R416, R417; 06 R145) -/

/-- The package-role die of a package. -/
def pkgDieOf (s : State) (p : Nat) : DieId := BitVec.ofNat 20 (p * 16 + s.boot.topo.pkgDie)

/-- Hosts of the package role of a package: primary, then shadow. -/
def pkgHosts (s : State) (p : Nat) : List DieId :=
  let t := s.boot.topo
  pkgDieOf s p :: (if t.pkgShadow < 16 then [BitVec.ofNat 20 (p * 16 + t.pkgShadow)] else [])

/-- This die's package. -/
def myPkg (s : State) : Nat := pkgOf (myDie s)

/-- The partner of a package, where this die's table tells: of its own package, of its parent, of a package whose role it
shadows (06 R145; 18 R416, R417). Otherwise a free value (log entry 27). -/
def partnerOf (s : State) (p : Nat) : Nat :=
  let t := s.boot.topo
  if p = myPkg s then t.partner
  else if t.tier ≠ 3 ∧ p = t.parent then t.ppartner
  else if t.recs.any (fun r => r.shadow && r.package == p) then myPkg s
  else Config.partner p

/-- Hosts of the relay or root role of a package; in a domain of one package the package role's shadow die is the shadow
(06 R146). -/
def relayHosts (s : State) (p : Nat) : List DieId :=
  let q := partnerOf s p
  if p = q then pkgHosts s p else [pkgDieOf s p, pkgDieOf s q]

/-- The relay and root roles that this die hosts: those of its topology table, and in a domain of one package the system
root, which is hosted with the package role and which the table cannot list, a root without a child (06 R145, R146;
18 R417). -/
def rolesHere (s : State) : List RoleDef :=
  let t := s.boot.topo
  let p := myPkg s
  let root := fun (sh : Bool) => { role := 3, shadow := sh, package := p, parent := p, children := [] : RoleDef }
  if t.packages = 1 then
    if (pkgHosts s p).head? = some (myDie s) then [root false]
    else if (pkgHosts s p).contains (myDie s) then [root true] else []
  else t.recs

/-- After a TAKEOVER everything of a role goes to the taker alone (13 R321). `relay` says which kind of role. -/
def hostsNow (s : State) (relay : Bool) (hosts : List DieId) : List DieId :=
  match hosts with
  | [] => []
  | p :: _ =>
    match s.couch.takers.find? (fun t => t.primary == p && (t.role != 0) == relay) with
    | some t => [t.taker]
    | none => hosts

/-- This die serves the package role of its package: as its primary, unless it stepped down, or as its taker. -/
def servesPkg (s : State) : Bool :=
  let d := myDie s
  let p := pkgDieOf s (myPkg s)
  if p = d then !s.couch.steppedDown.contains (0, d)
  else s.couch.takers.any (fun t => t.role == 0 && t.primary == p && t.taker == d)

/-- This die serves the role of a record. -/
def servesRole (s : State) (r : RoleDef) : Bool :=
  let d := myDie s
  if r.shadow then s.couch.takers.any (fun t => t.role != 0 && t.primary == pkgDieOf s r.package && t.taker == d)
  else !s.couch.steppedDown.any (fun x => x.1 != 0 && x.2 == d)

/-- Who serves the relay or root role of a package (06 R154, 13 R321). -/
def roleHosts (s : State) (p : Nat) : List DieId := hostsNow s true (relayHosts s p)

/-! ## Resources (06 R148, 07 R187) -/

/-- Pending arrivals and combining records on this die (06 R148). -/
def barPend (s : State) : Nat := s.couch.pend.length + s.couch.recs.length

/-- Every set of lanes held: objects, die records, role records. -/
def lanesHeld (s : State) : List Lanes :=
  s.couch.objs.filterMap (fun e => e.2.lanes) ++ s.couch.recs.filterMap (·.lanes) ++ s.couch.roles.filterMap (·.lanes)

/-- Slots held from the reserve. -/
def rsvUsed (s : State) : Nat := ((lanesHeld s).filter (·.rsv)).length

/-- Slots in use. -/
def redUsed (s : State) : Nat := (lanesHeld s).length

/-- A slot beyond the reserve is free (07 R187). A lowered reserve shrinks as its slots are freed. -/
def redFree (s : State) : Bool :=
  decide (redUsed s - rsvUsed s < 1024 - max s.couch.roleRsv.toNat (rsvUsed s))

/-- The slot that a record of a package, relay or root role may take: from the reserve first, then an unreserved one
(07 R187). With all 1,024 in use there is none, also where a ROLE_RSV just raised asks for more than is left: the slots
that other holders have stay theirs until freed (log entry 71). -/
def redFreeRole (s : State) : Option Bool :=
  if 1024 ≤ redUsed s then none
  else if rsvUsed s < s.couch.roleRsv.toNat then some true
  else if redFree s then some false else none

/-- Count an ARRIVE_R answered RETRY for lack of a slot. -/
def countRedAgent (s : State) : State := { s with couch := { s.couch with redFullAgent := sat16 s.couch.redFullAgent } }

/-- Count a report refused for lack of a slot. -/
def countRedRole (s : State) : State := { s with couch := { s.couch with redFullRole := sat16 s.couch.redFullRole } }

/-- Count a frame discarded under 13 R322. -/
def countDup (s : State) : State := { s with res := { s.res with dup := sat16 s.res.dup } }

/-- Count a RETRY for the limit of 06 R148. -/
def countBarFull (s : State) : State := { s with couch := { s.couch with barFull := sat16 s.couch.barFull } }

/-- Keep a pending arrival (06 R148); its identity. -/
def keepPend (op : Op) (slot : Option Nat) (epoch : W32) (weight : Nat) (s : State) : Nat × State :=
  let n := s.couch.nextId
  (n, { s with couch := { s.couch with
    nextId := n + 1, pend := s.couch.pend ++ [{ id := n, op, slot, epoch, weight }] } })

/-! ## Arrivals -/

/-- What arrives: weight, epoch, ARRIVE_R or ARRIVE, the lane description and partials. -/
structure Arrival where
  weight : Nat
  epoch : W32
  desc : Option LaneDesc
  parts : List Partial
  deriving DecidableEq, Repr

/-- The arrival a request makes. -/
def arrivalOf (op : Op) : Arrival :=
  let w := fld op.a.toNat 0 32
  let e : W32 := op.b.setWidth 32
  if op.opcode = opArriveR then
    let d := descOf op.b
    { weight := w, epoch := e, desc := some d, parts := arrivalParts d op.data op.time op.agent }
  else { weight := w, epoch := e, desc := none, parts := [] }

/-- The arrival a REPORT makes (06 R150). -/
def arrivalOfRep (r : Rep) : Arrival := { weight := r.weight.toNat, epoch := r.epoch, desc := r.desc, parts := r.parts }

/-- The form of 08 R194: U_MAX, one I64 lane. -/
def stepForm (d : Option LaneDesc) : Bool := d == some { op := 0x05, fmt := 0, cnt := 0 }

/-- Lane 0 of the partials as a number. -/
def lane0 (p : List Partial) : Nat := match p with
  | [] => 0
  | x :: _ => x.acc.toNat % 2 ^ 64

/-- A completed epoch; `down` when a report counted in it, so that the release goes down the tree. -/
structure Done where
  epoch : W32
  lanes : Bool
  word : W64
  data : BitVec 512
  down : Bool := false
  deriving DecidableEq, Repr

/-- The count c of a BARRIER or STEPAGREE. -/
def countOf (o : Obj) : Nat := fld o.value.toNat 0 32

/-- VALUE with a new count; a STEPAGREE keeps g. -/
def withCount (o : Obj) (c : Nat) : Obj :=
  { o with value := BitVec.ofNat 64 (c + 2 ^ 32 * fld o.value.toNat 32 32) }

/-- No reduction slot is free to a holder: `role` where it is the record of a role (07 R187). -/
def noRedSlot (s : State) (role : Bool) : Bool := if role then (redFreeRole s).isNone else !redFree s

/-- The check of an arrival at a BARRIER or STEPAGREE, rows in table order (03 R79, R86); `role` for a report, where the
object is the record of the package or root role (07 R187). -/
def objCheck (s : State) (n : Nat) (o : Obj) (x : Arrival) (role : Bool := false) : Status :=
  let c := countOf o
  let t := o.thresh.toNat
  let held := (tgetD s.couch.objs n {}).lanes
  let noSlot := x.desc.isSome && held.isNone && noRedSlot s role
  if o.kind = kStepAgree then
    if !stepForm x.desc || decide (63 < lane0 x.parts) then stKindReject
    else if x.epoch ≠ o.epoch then stKindReject
    else if noSlot then stRetry
    else if c + x.weight > t then stOverflow
    else stOk
  else
    if x.epoch ≠ o.epoch then stKindReject
    else if o.state = (if x.desc.isSome then 1 else 2) then stKindReject
    else if c + x.weight > t then stOverflow
    else if noSlot then stRetry
    else if (match held, x.desc with | some l, some d => l.desc != d | _, _ => false) then stKindReject
    else stOk

/-- The grant time of 16 R390, read in the pass that completes the epoch. -/
def grantTime (s : State) : W64 := now s + BitVec.ofNat 64 (s.step.lead.toNat * 8000)

/-- Count the results of 07 GS_RED_RESULT. -/
def countResult (l : Lanes) (s : State) : State :=
  let isF := (ffmt l.desc.fmt).isSome
  let nf := isF && l.parts.any (fun p => p.nf != 0)
  let ov := l.parts.any (fun p => (finishLane l.desc p).2 && !p.flags.getLsbD 4)
  { s with couch := { s.couch with
    redNonfin := if nf then sat16 s.couch.redNonfin else s.couch.redNonfin
    redOvf := if ov then sat16 s.couch.redOvf else s.couch.redOvf } }

/-- The slot in which a holder opens its lanes: from the reserve or not (07 R187). -/
def slotRsv (s : State) (role : Bool) : Bool := role && (redFreeRole s).getD false

/-- Count an arrival that passed its check (03 R79, R86): the count, STATE and the lanes. -/
def objRaise (n : Nat) (x : Arrival) (role : Bool) (s : State) : State :=
  let o := objAt s n
  let a := tgetD s.couch.objs n {}
  let lanes := match x.desc with
    | some d => some (mergeInto a.lanes d x.parts (slotRsv s role))
    | none => a.lanes
  let st : Byte := if o.kind = kStepAgree then 1 else if x.desc.isSome then 2 else 1
  let s := putObj n { withCount o (countOf o + x.weight) with state := st } s
  { s with couch := { s.couch with objs := tset s.couch.objs n { a with lanes } } }

/-- The epoch completes once the count has reached the threshold (03 R79, R86; 07 R182): its result, and the object
after. -/
def objComplete (n : Nat) (s : State) : Option Done × State :=
  let o := objAt s n
  let a := tgetD s.couch.objs n {}
  if countOf o < o.thresh.toNat then (none, s)
  else
    let e := o.epoch
    let (done, o', s) : Done × Obj × State := match a.lanes with
      | none => ({ epoch := e, lanes := false, word := 0, data := 0 }, withCount o 0, s)
      | some l =>
        let s := countResult l s
        let (word, data) := finishAll l
        if o.kind = kStepAgree then
          let g := lane0 l.parts % 64
          ({ epoch := e, lanes := true, word, data := data + BitVec.ofNat 512 (2 ^ 64 * (grantTime s).toNat) },
            { o with value := BitVec.ofNat 64 (2 ^ 32 * g) }, s)
        else ({ epoch := e, lanes := true, word, data }, withCount o 0, s)
    let s := putObj n { o' with state := 0, epoch := e + 1 } s
    (some { done with down := !a.kids.isEmpty }, { s with couch := { s.couch with
      objs := tset s.couch.objs n { a with lanes := none, prev := a.kids, kids := [] } } })

/-- Count one arrival as an event of its own. -/
def objCount (n : Nat) (x : Arrival) (role : Bool) (s : State) : Option Done × State := objComplete n (objRaise n x role s)

/-- Remember a context and handle by which frames down the tree name the object. -/
def setIdent (n : Nat) (c : CtxId) (h : W32) (s : State) : State :=
  let a := tgetD s.couch.objs n {}
  if a.idents.contains (c, h) then s
  else { s with couch := { s.couch with objs := tset s.couch.objs n { a with idents := a.idents ++ [(c, h)] } } }

/-! ## Releases on this die -/

/-- Release the pending arrivals that satisfy `p`: `first` ahead of the others, the others in the order counted
(06 R153). -/
def releasePends (p : PendArr → Bool) (first : Option Nat) (st : Status) (epoch : W32) (word : W64)
    (data : BitVec 512) (s : State) : State :=
  let hit := s.couch.pend.filter (fun a => p a && !a.leaving)
  let order := hit.filter (fun a => some a.id == first) ++ hit.filter (fun a => some a.id != first)
  order.foldl (fun s a =>
    let pend :=
      if a.op.src = .mesh then s.couch.pend.map (fun b => if b.id = a.id then { b with leaving := true } else b)
      else s.couch.pend.filter (fun b => b.id != a.id)
    let s := { s with couch := { s.couch with pend } }
    sendRelease a.op (releaseFlit a.op st epoch word data) (some a.id) s) s

/-- The arrivals counted in the combining record of a handle. -/
def ofRec (c : CtxId) (h : W32) (a : PendArr) : Bool := a.slot.isNone && a.op.ctx == c && a.op.handle == h

/-- The latest epoch completed for a handle, for the takeover's resend (13 R319). -/
def keepDone (d : Completed) (s : State) : State :=
  { s with couch := { s.couch with
    done := s.couch.done.filter (fun e =>
      !(e.slot == d.slot && e.relay == d.relay && e.pkg == d.pkg && e.ctx == d.ctx && e.handle == d.handle)) ++ [d] } }

/-! ## Down the tree -/

/-- Scope of a handle (03 R69). -/
def scopeOf (h : W32) : Nat := fld h.toNat 28 4

/-- DMASK of a translation (11 R263). -/
def dmaskOf (x : Xl) : Nat := if x.w0.getLsbD 1 then fld x.w1.toNat 32 16 else 0

/-- The dies DMASK names in this package, ascending. -/
def dmaskDies (s : State) (x : Xl) : List DieId :=
  ((List.range 16).filter (fun i => (dmaskOf x).testBit i)).map (fun i => BitVec.ofNat 20 (myPkg s * 16 + i))

/-- Every die of this package (06 R150: the participants the topology table names). -/
def pkgDies (s : State) : List DieId :=
  (List.range s.boot.topo.dies).map (fun i => BitVec.ofNat 20 (myPkg s * 16 + i))

/-- `first` ahead of the others (06 R153). -/
def firstOf [DecidableEq α] (first : Option α) (l : List α) : List α :=
  match first with
  | none => l
  | some f => if l.contains f then f :: l.filter (· ≠ f) else l

/-- The arrival counted last in the combining record of a handle. -/
def lastOfRec (s : State) (c : CtxId) (h : W32) : Option Nat := ((s.couch.pend.filter (ofRec c h)).getLast?).map (·.id)

/-- Close the die record and release or refuse its arrivals, `first` ahead of the others (06 R152, R153). -/
def closeDieRec (c : CtxId) (h : W32) (first : Option Nat) (st : Status) (epoch : W32) (word : W64) (data : BitVec 512)
    (s : State) : State :=
  let s := { s with couch := { s.couch with recs := s.couch.recs.filter (fun r => !(r.ctx == c && r.handle == h)) } }
  releasePends (ofRec c h) first st epoch word data s

/-- A frame to each die of a list, or its effect here for this die itself. -/
def toDies (l : List DieId) (b : Body) (here : State → State) (s : State) : State :=
  l.foldl (fun s d => if d = myDie s then here s else sendFrame d b s) s

/-- The die record of a handle here is open for an epoch. -/
def dieRecOpen (s : State) (c : CtxId) (h : W32) (e : W32) : Bool :=
  s.couch.recs.any (fun r => r.ctx == c && r.handle == h && r.epoch == e)

/-- Release at this die's own record, if open for the epoch. `led`: the arrival that completed the record completed
the epoch, and goes first (06 R153, log entry 66). -/
def releaseHere (c : CtxId) (h : W32) (d : Done) (led : Bool) (s : State) : State :=
  if dieRecOpen s c h d.epoch then
    closeDieRec c h (if led then lastOfRec s c h else none) stOk d.epoch d.word d.data s
  else s

/-- The RELEASE frame of a completed epoch. -/
def releaseBody (c : CtxId) (h : W32) (d : Done) : Body := .release h c stOk d.epoch d.lanes d.word d.data

/-- Close the package record here and release its dies (06 R153), first the die whose report completed it where that
report completed the epoch (`led`). A shadow's record closes silently (06 R159). -/
def releasePkg (c : CtxId) (h : W32) (d : Done) (led : Bool) (s : State) : State :=
  match s.couch.roles.find? (fun r => !r.relay && r.ctx == c && r.handle == h && r.epoch == d.epoch) with
  | none => s
  | some r =>
    let s := { s with couch := { s.couch with roles := s.couch.roles.filter (· ≠ r) } }
    let s := keepDone { slot := none, pkg := r.pkg, ctx := c, handle := h, epoch := d.epoch, lanes := d.lanes
                        word := d.word, data := d.data, x := r.x } s
    let first : Option DieId := if led then some (BitVec.ofNat 20 (myPkg s * 16 + r.last)) else none
    if r.shadow then s
    else toDies (firstOf first (dmaskDies s r.x)) (releaseBody c h d) (releaseHere c h d (first == some (myDie s))) s

/-- The children of a relay or root role, its own package among them, ascending. -/
def kidsOf (def_ : RoleDef) : List Nat := (def_.package :: def_.children).foldl (fun l p => insSorted p l) []

/-- The hosts of a child's role: of the package role for its own package and for a leaf, else of the child's relay role
(06 R145, R154). A relay-2's children are relay-1; which of the root's are relays its table does not tell (log entry 27). -/
def childHosts (s : State) (def_ : RoleDef) (p : Nat) : List DieId :=
  if p ≠ def_.package && (def_.role == 2 || (def_.role == 3 && Config.relayPkg p)) then roleHosts s p
  else hostsNow s false (pkgHosts s p)

/-- A frame to every host of a child's role but this die (06 R154). -/
def toChild (def_ : RoleDef) (p : Nat) (b : Body) (s : State) : State :=
  ((childHosts s def_ p).filter (· != myDie s)).foldl (fun s k => sendFrame k b s) s

/-- Release the children of a relay or root role, this package's own record among them; a copy goes to the shadow
host of each (06 R153, R154, R476). -/
def releaseKids (def_ : RoleDef) (c : CtxId) (h : W32) (d : Done) (first : Option Nat) (s : State) : State :=
  (firstOf first (kidsOf def_)).foldl (fun s p =>
    let s := toChild def_ p (releaseBody c h d) s
    if p = myPkg s then releasePkg c h d (first == some p) s else s) s

/-- The definition of the relay role of a package that this die hosts (18 R417). -/
def relayDef (s : State) (p : Nat) : Option RoleDef := (rolesHere s).find? (fun q => q.role != 3 && q.package == p)

/-- The root role that this die serves. -/
def rootHere (s : State) : Option RoleDef := (rolesHere s).find? (fun q => q.role == 3 && servesRole s q)

/-- Close every relay record here that is open for the epoch; one that is served releases its children (06 R153). A
shadow's closes silently (06 R159). -/
def releaseRelay (c : CtxId) (h : W32) (d : Done) (s : State) : State :=
  let open_ := s.couch.roles.filter (fun r => r.relay && r.ctx == c && r.handle == h && r.epoch == d.epoch)
  open_.foldl (fun s r =>
    let s := { s with couch := { s.couch with roles := s.couch.roles.filter (· ≠ r) } }
    let s := keepDone { slot := none, relay := true, pkg := r.pkg, ctx := c, handle := h, epoch := d.epoch
                        lanes := d.lanes, word := d.word, data := d.data, x := r.x } s
    if r.shadow then s
    else match relayDef s r.pkg with
      | none => s
      | some q => releaseKids q c h d (some r.last) s) s

/-- Releases down the tree from an object that completed (06 R153): package scope to the dies of the package,
system scope to the root's children and its own package record. -/
def releaseFromObj (c : CtxId) (h : W32) (d : Done) (first : Option DieId) (s : State) : State :=
  if scopeOf h = 3 then
    toDies (firstOf first (pkgDies s)) (releaseBody c h d) (releaseHere c h d (first == some (myDie s))) s
  else if scopeOf h = 4 then
    match rootHere s with
    | none => releasePkg c h d first.isSome s
    | some q => releaseKids q c h d (first.map pkgOf) s
  else s

/-- A RELEASE frame taken in (06 R153-R155, 13 R322): every record here open for the epoch closes; none open means
the frame is a duplicate. -/
def takeRelease (c : CtxId) (h : W32) (d : Done) (s : State) : State :=
  if dieRecOpen s c h d.epoch ∨ s.couch.roles.any (fun r => r.ctx == c && r.handle == h && r.epoch == d.epoch) then
    releaseHere c h d true (releasePkg c h d true (releaseRelay c h d s))
  else countDup s

/-! ## Refusals (06 R152) -/

/-- Refuse the die record here. -/
def refuseHere (c : CtxId) (h : W32) (st : Status) (e : W32) (s : State) : State := closeDieRec c h none st e 0 0 s

/-- The dies of this package that a refusal of its record goes to: those DMASK names, or every die where no
translation is at hand, and the role's shadow (06 R152; 13 R324). -/
def refusedDies (s : State) (x : Option Xl) : List DieId :=
  let l := match x with
    | some x => dmaskDies s x
    | none => pkgDies s
  l ++ ((hostsNow s false (pkgHosts s (myPkg s))).filter (fun d => !l.contains d && d != myDie s))

/-- Refuse the package record here and the dies below it. -/
def refusePkg (c : CtxId) (h : W32) (st : Status) (e : W32) (x : Option Xl) (s : State) : State :=
  let r := s.couch.roles.find? (fun r => !r.relay && r.ctx == c && r.handle == h)
  let s := { s with couch := { s.couch with
    roles := s.couch.roles.filter (fun r => !(!r.relay && r.ctx == c && r.handle == h)) } }
  let serve := match r with
    | some r => !r.shadow
    | none => servesPkg s
  if serve then
    toDies (refusedDies s ((r.map (·.x)).orElse (fun _ => x))) (.refusal h c st e) (refuseHere c h st e) s
  else s

/-- Refuse the packages of a role's subtree. -/
def refuseKids (def_ : RoleDef) (c : CtxId) (h : W32) (st : Status) (e : W32) (s : State) : State :=
  (kidsOf def_).foldl (fun s p =>
    if p = myPkg s then refusePkg c h st e none s else toChild def_ p (.refusal h c st e) s) s

/-- A refusal from the package role that shadows here only answers this die's own report when the shadow's record has
not counted that report (06 R152, R154; log entry 67). -/
def ownReportOnly (s : State) (src : DieId) (c : CtxId) (h : W32) : Bool :=
  pkgOf src == myPkg s && s.couch.roles.any (fun r => !r.relay && r.ctx == c && r.handle == h && r.shadow
    && (dmaskOf r.x).testBit ((myDie s).toNat % 16) && !r.kids.contains ((myDie s).toNat % 16))

/-- A refusal from above taken in by the roles of this package here: the relay with its subtree, which may hold
records although the relay has none yet, or the package role. -/
def refuseRoles (c : CtxId) (h : W32) (st : Status) (e : W32) (s : State) : State :=
  match relayDef s (myPkg s) with
  | none => refusePkg c h st e none s
  | some q =>
    if servesRole s q then
      refuseKids q c h st e { s with couch := { s.couch with
        roles := s.couch.roles.filter (fun r => !(r.relay && r.pkg == q.package && r.ctx == c && r.handle == h)) } }
    else refusePkg c h st e none s

/-- A REFUSAL frame taken in. One from a die of this package answers the die's own record, or the package record that
it shadows. -/
def takeRefusal (src : DieId) (c : CtxId) (h : W32) (st : Status) (e : W32) (s : State) : State :=
  let s := { s with couch := { s.couch with
    done := s.couch.done.filter (fun d => !(d.slot.isNone && d.ctx == c && d.handle == h)) } }
  if scopeOf h ≠ 4 ∨ ownReportOnly s src c h then refuseHere c h st e s
  else if pkgOf src = myPkg s then refuseHere c h st e (if servesPkg s then s else refusePkg c h st e none s)
  else refuseHere c h st e (refuseRoles c h st e s)

/-- Refuse one report to the child that sent it: a die of this package, or a package. -/
def refuseReport (c : CtxId) (h : W32) (st : Status) (e : W32) (stage : Nat) (src : DieId) (x : Xl) (s : State) : State :=
  if src = myDie s then
    if stage = 0 then refuseHere c h st e s else refusePkg c h st e (some x) s
  else if pkgOf src = myPkg s then sendFrame src (.refusal h c st e) s
  else match (rolesHere s).find? (fun d => (kidsOf d).contains (pkgOf src)) with
    | some d => toChild d (pkgOf src) (.refusal h c st e) s
    | none => sendFrame src (.refusal h c st e) s

/-- Refuse everything below an object that is removed (03 R77, 11 R270). -/
def refuseAll (c : CtxId) (h : W32) (st : Status) (e : W32) (s : State) : State :=
  if scopeOf h = 3 then toDies (pkgDies s) (.refusal h c st e) (refuseHere c h st e) s
  else if scopeOf h = 4 then
    match rootHere s with
    | none => refusePkg c h st e none s
    | some q => refuseKids q c h st e s
  else s

/-! ## Up the tree -/

/-- The REPORT frame of a record. -/
def reportBody (c : CtxId) (h : W32) (e : W32) (w : W32) (l : Option Lanes) : Body :=
  .report h c e w (l.map (·.desc)) (match l with | some l => l.parts | none => [])

/-- Send a report to each host of a role; one hosted here goes round with its stage (06 R154, R476). -/
def reportTo (hosts : List DieId) (stage : Nat) (b : Body) (s : State) : State :=
  hosts.foldl (fun s d =>
    if d = myDie s then { s with felt := { s.felt with loop := s.felt.loop ++ [(stage, b)] } } else sendFrame d b s) s

/-- A die record that has reached SHARE reports to the package role of its package (06 R149, R154). -/
def reportDie (r : DieRec) (s : State) : State :=
  reportTo (hostsNow s false (pkgHosts s (myPkg s))) 0 (reportBody r.ctx r.handle r.epoch (BitVec.ofNat 32 r.count) r.lanes) s

/-- A complete package record reports to the relay or root above it (06 R145, R150). -/
def reportPkg (r : RoleRec) (s : State) : State :=
  let t := s.boot.topo
  reportTo (roleHosts s (if t.tier = 0 ∧ t.packages ≠ 1 then t.parent else myPkg s)) 1 (reportBody r.ctx r.handle r.epoch r.weight r.lanes) s

/-- A complete relay record reports to its parent. -/
def reportRelay (def_ : RoleDef) (r : RoleRec) (s : State) : State :=
  reportTo (roleHosts s def_.parent) 2 (reportBody r.ctx r.handle r.epoch r.weight r.lanes) s

/-! ## An arrival at this die's combining record (06 R149) -/

/-- SHARE of a translation (11 R263). -/
def shareOf (x : Xl) : Nat := fld x.w1.toNat 0 31

/-- The die record of a handle. -/
def dieRec (s : State) (c : CtxId) (h : W32) : Option DieRec := s.couch.recs.find? (fun r => r.ctx == c && r.handle == h)

/-- The object a translation names is homed here and is a STEPAGREE. Elsewhere a die cannot know the kind, and the
rows for a STEPAGREE are the home's (log entry 28). -/
def knownStep (s : State) (x : Xl) : Bool :=
  fld x.w0.toNat 25 20 == (myDie s).toNat && (objAt s (fld x.w0.toNat 8 17)).kind == kStepAgree

/-- The checks of 06 R149, in order. -/
def recCheck (s : State) (x : Xl) (op : Op) (a : Arrival) : Status :=
  if knownStep s x && op.ctx != 0 then stPerm
  else if knownStep s x && (!stepForm a.desc || decide (63 < lane0 a.parts)) then stKindReject
  else match dieRec s op.ctx op.handle with
  | none =>
    if shareOf x < a.weight then stOverflow
    else if a.desc.isSome && !redFree s then stRetry
    else stOk
  | some r =>
    if a.epoch ≠ r.epoch then stKindReject
    else if r.count + a.weight > shareOf x then stOverflow
    else if r.opcode ≠ op.opcode then stKindReject
    else if (match r.lanes, a.desc with | some l, some d => l.desc != d | _, _ => false) then stKindReject
    else stOk

/-- The limit of 06 R148 leaves room for an arrival at the record of a handle, and for the record. -/
def barRoom (s : State) (c : CtxId) (h : W32) : Bool :=
  decide (barPend s + (if (dieRec s c h).isNone then 2 else 1) ≤ 4096)

/-- The answer to an arrival at a die record, by the rows of 06 R149 with the limit of R148 in the RETRY place of
02 R44. -/
def recAdmit (x : Xl) (op : Op) (a : Arrival) (s : State) : Status × State :=
  let st := recCheck s x op a
  if st = stPerm then (st, s)
  else if !barRoom s op.ctx op.handle then (stRetry, countBarFull s)
  else if st = stRetry then (st, countRedAgent s)
  else (st, s)

/-- Count an arrival in the die record, opening it if need be; at SHARE the record reports (06 R149). -/
def recCount (x : Xl) (op : Op) (a : Arrival) (s : State) : State :=
  let old := (dieRec s op.ctx op.handle).getD
    { ctx := op.ctx, handle := op.handle, epoch := a.epoch, count := 0, opcode := op.opcode, lanes := none, x }
  let lanes := match a.desc with
    | some d => some (mergeInto old.lanes d a.parts false)
    | none => old.lanes
  let r := { old with count := old.count + a.weight, lanes, reported := old.count + a.weight == shareOf x }
  let recs :=
    if (dieRec s op.ctx op.handle).isNone then s.couch.recs ++ [r]
    else s.couch.recs.map (fun q => if q.ctx = op.ctx ∧ q.handle = op.handle then r else q)
  let s := { s with couch := { s.couch with recs } }
  let s := if fld x.w0.toNat 25 20 = (myDie s).toNat then setIdent (fld x.w0.toNat 8 17) op.ctx op.handle s else s
  let s := (keepPend op none a.epoch a.weight s).2
  if r.reported then reportDie r s else s

end Sys2Proof.Machine
end

