-- ==== Sys2Proof/Machine/Pass.lean ====
section
/-! DEFINITION. One operation at its object: the checks at the home, the pass through the kind engine in the order
of 03 R64, and its answer (02 R40, R44; 03; 04 R101-R112; 05 R119-R129; 10 R242, R243). -/

namespace Sys2Proof.Machine

/-- What steps 1 to 3 of a pass leave to be answered and finished. -/
structure PassOut where
  status : Status
  a : W64 := 0
  b : W64 := 0
  data : BitVec 512 := 0
  /-- The request was queued: no answer now. -/
  queued : Bool := false
  grants : List (Op × Option W32) := []
  self : Bool := false
  done : Option Done := none
  first : Option Nat := none
  kid : Option DieId := none
  newEntry : Option Nat := none
  walk : Bool := false
  bumped : Bool := false
  out : Nat := 0
  fids : List Nat := []
  deriving DecidableEq, Repr

/-- A refusal by the kind: the fields unchanged (02 R40). -/
def kindOut (st : Status) (o : Obj) : PassOut := { status := st, a := o.value, b := objB o }

/-- A refusal with zero operands. -/
def bareOut (st : Status) : PassOut := { status := st }

/-! ## Evaluation: steps 1 to 3 of 03 R64 -/

/-- READ (03 R68). -/
def evalRead (n : Nat) (s : State) : PassOut × State :=
  let o := objAt s n
  ({ status := stOk, a := o.value, b := objB o }, s)

/-- Full view of a PRIVILEGED object (17 R408). -/
def fullView (s : State) (ctx : CtxId) : Bool :=
  s.sec.st == .openAuth && s.sec.grant.getLsbD 2 && ctx == 0

/-- The agent a list entry shows in PROBE, and whether it is a queued request (03 R89). A held arrival of a user kind is
shown as a queued request, and an armed descriptor, which names no agent, is passed over (log entry 76). -/
def probeAgent (s : State) (ix : Nat) : Option (AgentId × Bool) := match tget s.wt.entries ix with
  | some (.watch w) => some (w.target, false)
  | some (.standby w _ _) => some (w.target, false)
  | some (.queued _ op _) => some (op.agent, true)
  | _ => none

/-- The PROBE payload (03 R89). -/
def probePayload (s : State) (n : Nat) : BitVec 512 :=
  let o := objAt s n
  let es := (listAt s n).filterMap (probeAgent s)
  let shown := es.take 5
  let (_, qs, ags) := shown.foldl (fun (acc : Nat × Nat × Nat) e =>
    (acc.1 + 1, acc.2.1 + bit e.2 * 2 ^ acc.1, acc.2.2 + e.1.toNat * 2 ^ (32 * acc.1))) (0, 0, 0)
  BitVec.ofNat 512 (es.length + 2 ^ 32 * o.lastsig.toNat + 2 ^ 64 * flagsOf o
    + 2 ^ 80 * (shown.length + 8 * qs) + 2 ^ 96 * ags)

/-- PROBE (03 R89, R90). -/
def evalProbe (op : Op) (n : Nat) (s : State) : PassOut × State :=
  let o := objAt s n
  if o.priv && !fullView s op.ctx then ({ status := stOk, a := o.value, data := BitVec.ofNat 512 (2 ^ 88) }, s)
  else ({ status := stOk, a := o.value, b := objB o, data := probePayload s n }, s)

/-- The watch a WATCH request describes (02 R34, 05 R121). -/
def watchOf (op : Op) (n : Nat) : Watch :=
  let b := op.b.toNat
  let cond := BitVec.ofNat 4 b
  { slot := n, cond, comparand := op.a, target := BitVec.ofNat 30 (b / 2 ^ 32), tinc := BitVec.ofNat 8 (b / 256)
    cookie := BitVec.ofNat 16 (b / 2 ^ 16), ctx := op.ctx, handle := op.handle, ref := firstRef cond op.a }

/-- A standby watch that a redirected WATCH names (13 R324). -/
def standbyMatch (s : State) (n : Nat) (w : Watch) : Option (BitVec 16) :=
  (listAt s n).findSome? (fun ix => match tget s.wt.entries ix with
    | some (.standby v _ i) =>
      if v.target = w.target ∧ v.tinc = w.tinc ∧ v.cookie = w.cookie ∧ v.cond = w.cond ∧ v.comparand = w.comparand
      then some i else none
    | _ => none)

/-- WATCH (05 R121, R125, R138; 09 R220 with a reserved entry): the entry is linked, and tested once the answer is
built. -/
def evalWatch (op : Op) (n : Nat) (res : Option Nat) (s : State) : PassOut × State :=
  let w := watchOf op n
  match standbyMatch s n w with
  | some i => ({ status := stOk, a := i.setWidth 64, b := objB (objAt s n) }, s)
  | none =>
    if res.isNone && !entryFree s then (bareOut stRetry, countFull s)
    else
      let before := bytesAt s n
      let (ix, s) : Nat × State := match res with
        | some ix => (ix, putEntry ix (.watch w) s)
        | none => allocEntry (.watch w) s
      let s := bumpIf n before (linkTail n ix s)
      let sub := ShadowSub.watchAdd (BitVec.ofNat 16 ix) w.comparand (w.cond.setWidth 8) w.tinc w.cookie w.target w.ctx w.handle
      let (fids, s) := shadowSend n (seqAt s n) sub s
      ({ status := stOk, a := BitVec.ofNat 64 ix, b := objB (objAt s n), newEntry := some ix
         bumped := decide (bytesAt s n ≠ before), fids }, s)

/-- The live watch an UNWATCH names on this object (05 R129); on a taker a standby watch goes by its home's index. -/
def unwatchTarget (s : State) (n : Nat) (idx : Nat) : Option (Nat × Watch) :=
  let here := (listAt s n).findSome? (fun ix => match tget s.wt.entries ix with
    | some (.standby w _ i) => if i.toNat = idx then some (ix, w) else none
    | _ => none)
  match here with
  | some r => some r
  | none => match tget s.wt.entries idx with
    | some (.watch w) => if w.slot = n then some (idx, w) else none
    | _ => none

/-- UNWATCH (05 R129). -/
def evalUnwatch (op : Op) (n : Nat) (s : State) : PassOut × State :=
  match unwatchTarget s n (op.a.toNat % 65536) with
  | none => (bareOut stBadHandle, s)
  | some (ix, w) =>
    if w.ctx ≠ op.ctx then (bareOut stPerm, s)
    else
      let before := bytesAt s n
      let s := bumpIf n before (freeWatch ix w s)
      let (fids, s) := shadowSend n (seqAt s n) (.watchFree (BitVec.ofNat 16 ix)) s
      ({ status := stOk, a := (objAt s n).value, b := objB (objAt s n), fids }, s)

/-- The descriptor of an ARM (10 R241). -/
def descOfArm (op : Op) (n entry : Nat) : Desc :=
  let d := op.data.toNat
  let cond := BitVec.ofNat 4 op.b.toNat
  { queue := fld d 0 4, dbEn := d.testBit 8, dbProd := d.testBit 9, postEn := d.testBit 10, postGive := d.testBit 11
    noq := d.testBit 12, tag := BitVec.ofNat 16 (d / 2 ^ 16), postSlot := fld d 32 17
    dbValue := BitVec.ofNat 32 (d / 2 ^ 64), postAmount := BitVec.ofNat 32 (d / 2 ^ 96)
    body := BitVec.ofNat 256 (d / 2 ^ 256), ctx := op.ctx, handle := op.handle, slot := n, entry, cond, comparand := op.a
    ref := firstRef cond op.a }

/-- ARM (10 R242, R243). -/
def evalArm (op : Op) (n : Nat) (s : State) : PassOut × State :=
  let d := descOfArm op n 0
  let o := objAt s n
  let l := lqAt s d.queue
  if !d.noq && (!l.en || (op.ctx != 0 && op.ctx != l.ctx)) then (bareOut stPerm, s)
  else if o.priv && op.ctx != 0 then (bareOut stPerm, s)
  else match storeFree s with
    | none => (bareOut stRetry, s)
    | some slot =>
      if !entryFree s then (bareOut stRetry, countFull s)
      else
        let before := bytesAt s n
        let (ix, s) := allocEntry (.armed n slot) s
        let s := { s with la := { s.la with descs := tset s.la.descs slot (descOfArm op n ix) } }
        let s := putObj n { objAt s n with armed := true } (linkTail n ix s)
        let s := bumpIf n before s
        ({ status := stOk, a := BitVec.ofNat 64 slot, b := objB (objAt s n), newEntry := some ix, bumped := true }, s)

/-- The refusal of an ARRIVE or ARRIVE_R at a BARRIER or STEPAGREE, if any, with what it counts (03 R79, R86; 06 R148). -/
def arriveRefused (op : Op) (n : Nat) (s : State) : Option PassOut × State :=
  let o := objAt s n
  if o.kind = kStepAgree ∧ op.opcode ≠ opArriveR then (some (kindOut stKindReject o), s)
  else if o.kind = kStepAgree ∧ op.ctx ≠ 0 then (some (bareOut stPerm), s)
  else if 4096 ≤ barPend s then (some (bareOut stRetry), countBarFull s)
  else
    let st := objCheck s n o (arrivalOf op)
    if st = stRetry then (some (bareOut stRetry), countRedAgent s)
    else if st ≠ stOk then (some (kindOut st o), s)
    else (none, s)

/-- Take in an arrival that passed its checks: it is pending, and the count and the lanes hold it. Its number. -/
def takeArrive (op : Op) (n : Nat) (s : State) : Nat × State :=
  let x := arrivalOf op
  let (id, s) := keepPend op (some n) x.epoch x.weight s
  (id, objRaise n x false (setIdent n op.ctx op.handle s))

/-- End the event of arrivals that were taken in (06 R147): the epoch completes if they reach the threshold, LASTSIG is the
last one's, and the sequence rises once. `before` is the object before them. -/
def endArrive (last : Op) (id n : Nat) (before : Obj × Nat) (s : State) : PassOut × State :=
  let (done, s) := objComplete n s
  let s := bumpIf n before (putObj n (setLastsig before.1 (objAt s n) (whoOf last)) s)
  let o := objAt s n
  ({ status := stOk, a := o.value, b := objB o, done, first := some id, walk := true, bumped := true }, s)

/-- Count one arrival that passed its checks as an event of its own (03 R79, R86). -/
def countArrive (op : Op) (n : Nat) (s : State) : PassOut × State :=
  let before := bytesAt s n
  let (id, s) := takeArrive op n s
  endArrive op id n before s

/-- ARRIVE and ARRIVE_R at a BARRIER or STEPAGREE, alone (03 R79, R86; 06 R148). -/
def evalArrive (op : Op) (n : Nat) (s : State) : PassOut × State :=
  match arriveRefused op n s with
  | (some out, s) => (out, s)
  | (none, s) => countArrive op n s

/-- Take the granted entries off the list (03 R66). -/
def takeGrants (n : Nat) (g : List Nat) (s : State) : List (Op × Option W32) × State :=
  g.foldl (fun (acc : List (Op × Option W32) × State) ix =>
    match tget acc.2.wt.entries ix with
    | some (.queued _ op h) => (acc.1 ++ [(op, h)], unlink n ix acc.2)
    | _ => acc) ([], s)

/-- An event on any other kind (03 R64 steps 1-3, 04 R101). `noQueue`: nothing may be queued (09 R218, 20 R450). -/
def evalKind (noQueue : Bool) (op : Op) (n : Nat) (s : State) : PassOut × State :=
  let o := objAt s n
  let ks := liveKinds s
  let r := kindStep ks o (queueAt s n) op (whoOf op)
  if r.status ≠ stOk then (kindOut r.status o, s)
  else if r.queue && noQueue then (kindOut stKindReject o, s)
  else if r.queue && !entryFree s then (bareOut stRetry, countFull s)
  else
    let before := bytesAt s n
    let held := if op.opcode = opArrive then some o.epoch else none
    let (grants, s) := takeGrants n r.grants (putObj n (setLastsig o r.obj (whoOf op)) s)
    let s := if r.queue then
        let (ix, s) := allocEntry (.queued n op held) s
        linkTail n ix s
      else s
    let s := bumpIf n before s
    let o' := objAt s n
    let (fids, s) := if op.opcode = opSet then shadowSend n (seqAt s n) (.set op.a) s else ([], s)
    ({ status := stOk, a := if op.opcode = opCas then o.value else o'.value, b := objB o'
       queued := r.queue && held.isNone, grants, self := r.release, walk := true
       bumped := decide (bytesAt s n ≠ before), out := r.out, fids }, s)

/-- A request that is an arrival at a BARRIER or STEPAGREE. -/
def treeArrival (o : Obj) (op : Op) : Bool := isTreeKind o.kind && (op.opcode == opArrive || op.opcode == opArriveR)

/-- The operation at a resolved object its requester may act on. The first request that an unknown kind or state refuses
writes the slot's one log entry; READ and PROBE, which are carried out, write none (03 R72, 04 R107; log entry 72). -/
def evalObj (noQueue : Bool) (res : Option Nat) (op : Op) (n : Nat) (s : State) : PassOut × State :=
  let o := objAt s n
  if op.opcode = opRead then evalRead n s
  else if op.opcode = opProbe then evalProbe op n s
  else if kindUnfit s o then (kindOut stKindReject o, logBadKind n s)
  else if op.opcode = opWatch then evalWatch op n res s
  else if op.opcode = opUnwatch then evalUnwatch op n s
  else if op.opcode = opArm then evalArm op n s
  else if treeArrival o op then evalArrive op n s
  else evalKind noQueue op n s

/-! ## Finishing: grants, releases, step 4, outputs -/

/-- Answer the requests a pass granted, in the order served (03 R64, 04 R105). -/
def sendGrants (n : Nat) (g : List (Op × Option W32)) (s : State) : State :=
  g.foldl (fun s e =>
    match e.2 with
    | some ep => sendRelease e.1 (releaseFlit e.1 stOk ep 0 0) none s
    | none =>
      let o := objAt s n
      let (st, s) := okOrDiverged n e.1 s
      answer e.1 st o.value (objB o) s) s

/-- Release a completed epoch at its object (06 R153): the arrivals made here, then the frames down the tree, which
go out when the epoch counted a report, under each context and handle by which the object is known below, the completing
one's first. -/
def releaseObj (n : Nat) (d : Done) (first : Option Nat) (kid : Option DieId) (by_ : CtxId × W32) (s : State) : State :=
  let s := releasePends (fun a => a.slot == some n && a.epoch == d.epoch) first stOk d.epoch d.word d.data s
  (firstOf (some by_) (tgetD s.couch.objs n {}).idents).foldl (fun s i =>
    let s := keepDone { slot := some n, ctx := i.1, handle := i.2, epoch := d.epoch, lanes := d.lanes, word := d.word
                        data := d.data, x := { w0 := 0 } } s
    if d.down then releaseFromObj i.1 i.2 d (if i = by_ then kid else none) s else s) s

/-- Finish a pass: grants, releases, then the test of the watches (03 R64). -/
def finishPass (op : Op) (n : Nat) (o : PassOut) (s : State) : State :=
  let s := sendGrants n o.grants s
  let s := if o.self then sendRelease op (releaseFlit op stOk (objAt s n).epoch 0 0) none s else s
  let s := match o.done with
    | some d => releaseObj n d o.first o.kid (op.ctx, op.handle) s
    | none => s
  if o.walk then testAll n o.bumped s
  else match o.newEntry with
    | none => s
    | some ix => joinWalk { slot := n, obj := objAt s n, bumped := o.bumped, items := [.entry ix] } s

/-- The linked slot of a kind (04 R109): the signed offset LINKOFF. -/
def linkSlot (n : Nat) (off : BitVec 18) : Nat := (((n : Int) + off.toInt) % 131072).toNat

/-- Act on a row's OUT after the pass (04 R108, R109, R111). -/
def doOut (op : Op) (n : Nat) (out : Nat) (s : State) : State :=
  if out = 0 then s
  else if op.src = .chained ∨ op.src = .chainedPost then { s with kt := { s.kt with chainCut := sat16 s.kt.chainCut } }
  else
    let o := objAt s n
    match ukindOf (liveKinds s) o.kind with
    | none => s
    | some u =>
      if out = 0x40 then irqUser u.irqsrc.toNat s
      else
        let c : Chain := { target := linkSlot n u.linkoff, ecode := BitVec.ofNat 6 out, x := o.value, ctx := o.owner
                           agent := whoOf op, origin := some op }
        { s with hb := { s.hb with chains := s.hb.chains ++ [c] } }

/-- Answer an operation from its pass; the answer to a SET, WATCH or UNWATCH on an object with third copies waits
until their holders have it (13 R316). In place of OK the answer may be DIVERGED; its operands are those of the OK then,
so that a WATCH or ARM learns its index (log entry 73). -/
def answerPass (op : Op) (n : Nat) (o : PassOut) (s : State) : State :=
  if o.queued then leaveOrder op s
  else
    let (st, s) := if o.status = stOk then okOrDiverged n op s else (o.status, s)
    if o.fids.isEmpty then answerD op st o.a o.b o.data s
    else { s with vat := { s.vat with
      heldResp := s.vat.heldResp ++ [{ fids := o.fids, op, out := respFlit op st o.a o.b o.data }] } }

/-! ## The checks at the home (02 R44 steps 5 to 10) -/

/-- STATE of a context here (11 R254). -/
def ctxState (s : State) (c : CtxId) : CtxState := (tgetD s.ctx.tab c.toNat {}).state

/-- Requests a halted die still carries out (02 R43). -/
def haltExempt (opc : Byte) : Bool := opc == opNop || opc == opRead || opc == opProbe

/-- Requests that BRACE refuses (16 R381). -/
def braceRefused (opc : Byte) : Bool := opc == opQbegin || opc == opQop || opc == opQcommit || opc == opArm

/-- The refusals of 02 R44 steps 5 to 7. -/
def stateGate (s : State) (opc : Byte) (c : CtxId) : Option Status :=
  if (s.pwr.halted || s.res.fatal) && (s.res.fatal || !haltExempt opc) then some stHalted
  else if s.pwr.st = .brace && braceRefused opc then some stBraced
  else if ctxState s c ≠ .live then some stDeckleGone
  else none

/-- An operation from elsewhere than a MESH port is checked again where it acts (04 R110, 10 R246, 11 R254, 16 R386). -/
def homeGate (op : Op) (s : State) : Option Status :=
  match op.src with
  | .mesh => none
  | .stepUnit => none
  | _ => stateGate s op.opcode op.ctx

/-- The OWNER check (11 R257). -/
def ownerOk (o : Obj) (c : CtxId) : Bool := c == 0 || c == o.owner

/-- Home die, slot and COMB of a translation (11 R260). -/
def xlHome (x : Xl) : DieId := BitVec.ofNat 20 (fld x.w0.toNat 25 20)
def xlSlot (x : Xl) : Nat := fld x.w0.toNat 8 17
def xlComb (x : Xl) : Bool := x.w0.getLsbD 1

/-- An arrival by this translation is combined in this die's record: COMB = 1, and the object is not one that this die, as its
home, knows to be neither BARRIER nor STEPAGREE (04 R94, 06 R149; log entry 28). -/
def combines (s : State) (x : Xl) : Bool :=
  xlComb x && (xlHome x != myDie s || isTreeKind (objAt s (xlSlot x)).kind)

/-- The home's checks on an arrival at the record of an object homed on this die (03 R72, 11 R257). -/
def recHome (s : State) (x : Xl) (op : Op) : Option Status :=
  if xlHome x ≠ myDie s then none
  else if (slotAt s (xlSlot x)).lost then some stKindReject
  else if (objAt s (xlSlot x)).kind = 0 then some stBadHandle
  else if !ownerOk (objAt s (xlSlot x)) op.ctx then some stPerm
  else none

/-- The operands of an answer to an arrival at a die record (02 R40): the object's fields where it is homed here,
otherwise values that this die cannot know, in the form that R40 gives them (log entry 30). -/
def recOperands (x : Xl) (s : State) : W64 × W64 × State :=
  if xlHome x = myDie s then ((objAt s (xlSlot x)).value, objB (objAt s (xlSlot x)), s)
  else
    let (a, s) := unstated s
    let (b, s) := unstated s
    (a, b &&& 0xFFFF0000FFFFFFFF, s)

/-- A quire's lock on a slot (09 R222). -/
def lockOn (s : State) (t : Target) : Option Lock := s.qu.locks.find? (fun l => l.target == t)

/-- A quire's lock, a third-copy fetch or a job that still waits for one keeps operations off a target (09 R222,
13 R307; 01 R17). -/
def blocked (s : State) (t : Target) : Bool :=
  (lockOn s t).isSome || s.qu.held.any (fun h => h.target == t) || (match t with
    | .slot n => fetching s n
    | .record _ _ => false)

/-- Hold a job on a target (09 R222, 13 R307). -/
def hold (t : Target) (j : Job) (s : State) : State :=
  { s with qu := { s.qu with held := s.qu.held ++ [{ target := t, job := j }] } }

/-! ## Arrivals of one cycle at one slot (06 R147) -/

/-- A pass after its evaluation: one raise of the sequence, the answer, grants, releases, the walk, the outputs. `fresh`:
the read of the slot marked it DIVERGED in this pass (03 R61, 13 R308). -/
def endPass (op : Op) (n : Nat) (fresh : Bool) (out : PassOut) (s : State) : State :=
  let s := if fresh && !out.bumped then bumpSeq n s else s
  let s := answerPass op n out s
  doOut op n out.out (finishPass op n { out with bumped := out.bumped || fresh } s)

/-- The arrivals that have been taken in at a slot in this cycle enter it as one event: each is answered in grant order,
then the epoch's releases and the walk follow. -/
def enterSlot (e : Entering) (s : State) : State :=
  match e.arrs.getLast? with
  | none => s
  | some l =>
    let (out, s) := endArrive l.op l.id e.slot (e.obj, e.whead) s
    let s := e.arrs.foldl (fun s c => answerPass c.op e.slot out s) s
    finishPass l.op e.slot out s

/-- The arrivals taken in enter the slots that `p` names. -/
def enterSlots (p : Nat → Bool) (s : State) : State :=
  let go := s.couch.entering.filter (fun e => p e.slot)
  go.foldl (fun s e => enterSlot e s)
    { s with couch := { s.couch with entering := s.couch.entering.filter (fun e => !p e.slot) } }

/-- Every arrival taken in enters its slot. -/
def enterAll (s : State) : State := enterSlots (fun _ => true) s

/-- An arrival at a resolved BARRIER or STEPAGREE: checked against the count that the arrivals of this cycle before it
left, and taken in with them or refused (06 R147; log entry 74). -/
def joinArrive (op : Op) (n : Nat) (fresh : Bool) (s : State) : State :=
  match arriveRefused op n s with
  | (some out, s) => endPass op n fresh out s
  | (none, s) =>
    let e : Entering := (s.couch.entering.find? (fun e => e.slot == n)).getD
      { slot := n, obj := objAt s n, whead := wheadAt s n, arrs := [] }
    let (id, s) := takeArrive op n s
    { s with couch := { s.couch with
      entering := s.couch.entering.filter (fun e => e.slot != n) ++ [{ e with arrs := e.arrs ++ [{ op, id }] }] } }

/-- The pass of an operation that was granted on slot `n` of this die (01 R14, R17; 02 R44; 13 R304). A taker answers BAD_HANDLE
where its copy is not live; an object of its own in the slot is acted on (13 R321; log entry 79). -/
def objectPass (op : Op) (n : Nat) (s : State) : State :=
  let s := if op.opcode = opArrive ∨ op.opcode = opArriveR then s else enterSlots (· == n) s
  if op.opcode ≠ opProbe ∧ blocked s (.slot n) then hold (.slot n) (.op op n) s
  else if thirdDead s n then answerZ op stBadHandle s
  else match resolve n s with
    | (.fetch both, s) => hold (.slot n) (.op op n) (startFetch n both s)
    | (.lost, s) =>
      if op.opcode = opProbe then answerD op stOk 0 0 (BitVec.ofNat 512 (2 ^ 88)) s
      else answerZ op stKindReject s
    | (.ok fresh, s) =>
      let o := objAt s n
      if o.kind = 0 then answerZ op stBadHandle s
      else if !ownerOk o op.ctx then answerZ op stPerm s
      else if treeArrival o op then joinArrive op n fresh s
      else
        let (out, s) := evalObj false none op n s
        endPass op n fresh out s

/-- An operation granted on slot `n` of this die. A held one restarts at its pass, its checks at the grant behind it
(09 R222, 11 R269). -/
def objectOp (op : Op) (n : Nat) (s : State) : State := match homeGate op s with
  | some st => answerZ op st s
  | none => objectPass op n s

/-- A chained INVOKE granted in slot 0 (04 R109-R111; 20 R450). It comes from the agent of the operation that began it, and
from none where a post-operation did (10 R246). One that finds a LOST slot or a kind that is not defined counts as a miss
(log entry 75). -/
def chainOp (c : Chain) (s : State) : State :=
  let miss := fun (s : State) => { s with kt := { s.kt with chainMiss := sat16 s.kt.chainMiss } }
  let n := c.target
  let s := enterSlots (· == n) s
  let c := if c.granted then c else { c with granted := true, gate := stateGate s opInvoke c.ctx }
  if blocked s (.slot n) then hold (.slot n) (.chain c) s
  else if thirdDead s n then miss s
  else match resolve n s with
    | (.fetch both, s) => hold (.slot n) (.chain c) (startFetch n both s)
    | (.lost, s) => miss s
    | (.ok fresh, s) =>
      let o := objAt s n
      if isBuiltin o.kind ∨ o.kind = 0 ∨ kindUnknown s o.kind ∨ o.owner ≠ c.ctx then miss s
      else
        let op : Op := { opcode := opInvoke, agent := c.agent.getD 0, ctx := c.ctx, a := c.ecode.setWidth 64, b := c.x
                         src := if c.agent.isSome then .chained else .chainedPost }
        match c.gate with
        | some st => answerZ op st s
        | none =>
          let (out, s) := evalObj false none op n s
          endPass op n fresh out s

/-- The pass of a launcher post-operation on its slot (10 R246, 20 R450): delivered only where the object's OWNER is the
descriptor's context. -/
def postPass (op : Op) (n : Nat) (s : State) : State :=
  let miss := fun (s : State) => { s with la := { s.la with postMiss := sat16 s.la.postMiss } }
  let s := enterSlots (· == n) s
  if blocked s (.slot n) then hold (.slot n) (.op op n) s
  else if thirdDead s n then miss s
  else match resolve n s with
    | (.fetch both, s) => hold (.slot n) (.op op n) (startFetch n both s)
    | (.lost, s) => miss s
    | (.ok fresh, s) =>
      let o := objAt s n
      if o.kind = 0 ∨ o.owner ≠ op.ctx then miss s
      else
        let (out, s) := evalObj true none op n s
        endPass op n fresh out s

/-- A launcher post-operation granted on its slot. -/
def postRun (op : Op) (n : Nat) (s : State) : State := match stateGate s op.opcode op.ctx with
  | some st => answerZ op st s
  | none => postPass op n s

/-- The post-operation of a descriptor. -/
def postOf (d : Desc) (slot : Nat) : Op :=
  { opcode := if d.postGive then opGive else opSignal, agent := 0, ctx := d.ctx
    a := d.postAmount.setWidth 64, src := .post slot }

/-- An operation at its slot, a post-operation or any other. -/
def slotOp (op : Op) (n : Nat) (s : State) : State := match op.src with
  | .post _ => postRun op n s
  | _ => objectOp op n s

/-- An operation that was held on its slot, restarted. -/
def slotAgain (op : Op) (n : Nat) (s : State) : State := match op.src with
  | .post _ => postPass op n s
  | _ => objectPass op n s

end Sys2Proof.Machine
end

