-- ==== Sys2Proof/Machine/ObjCmd.lean ====
section
/-! DEFINITION. Creating, destroying and removing objects (03 R73-R77, R88; 04 R113; 11 R257, R270; 13 R306, R314). -/

namespace Sys2Proof.Machine

/-! ## The chain of a context (11 R257) -/

/-- Change a context entry. -/
def modCtx (c : Nat) (f : CtxEntry → CtxEntry) (s : State) : State :=
  { s with ctx := { s.ctx with tab := tput {} s.ctx.tab c (f (tgetD s.ctx.tab c {})) } }

/-- A slot joins its OWNER's chain at the tail. -/
def chainJoin (c : CtxId) (n : Nat) (s : State) : State := modCtx c.toNat (fun e => { e with chain := e.chain ++ [n] }) s

/-- A slot leaves every chain. -/
def chainLeave (n : Nat) (s : State) : State :=
  { s with ctx := { s.ctx with tab := s.ctx.tab.map (fun e => (e.1, { e.2 with chain := e.2.chain.filter (· != n) })) } }

/-! ## Removing an object (03 R76, R77) -/

/-- Write the slot as DESTROY does: KIND 0x00 and every other field zero, in both copies. -/
def clearSlot (n : Nat) (s : State) : State :=
  let q := (slotAt s n).a.seq + 1
  let s := putSlot n { a := { seq := q }, b := { seq := q } } s
  let s := wmFreeAll n (untrack n (chainLeave n s))
  { s with
    wt := { s.wt with walks := s.wt.walks.filter (fun w => w.slot != n) }
    vat := { s.vat with
      holders := terase s.vat.holders n, third := terase s.vat.third n, badLogged := s.vat.badLogged.filter (· != n) }
    couch := { s.couch with objs := terase s.couch.objs n, done := s.couch.done.filter (fun d => d.slot != some n) } }

/-- Free one list entry of an object that is removed (03 R77): a queued request is answered, a held arrival
released, a watch freed without a notification, a descriptor disarmed without a launch. -/
def dropEntry (n ix : Nat) (st : Status) (s : State) : State :=
  match tget s.wt.entries ix with
  | some (.queued _ op none) => answerZ op st (unlink n ix s)
  | some (.queued _ op (some e)) => sendRelease op (releaseFlit op st e 0 0) none (unlink n ix s)
  | some (.watch w) => freeWatch ix w s
  | some (.armed _ d) => disarmDesc d none (unlink n ix s)
  | _ => unlink n ix s

/-- Every context and handle by which the object of a slot homed here is known below: of its arrivals and reports, and of
the records here that are open for it. -/
def identsOf (s : State) (n : Nat) : List (CtxId × W32) :=
  let mine := fun (x : Xl) => xlHome x == myDie s && xlSlot x == n
  ((tgetD s.couch.objs n {}).idents ++ (s.couch.recs.filter (fun r => mine r.x)).map (fun r => (r.ctx, r.handle))
    ++ (s.couch.roles.filter (fun r => mine r.x)).map (fun r => (r.ctx, r.handle))).eraseDups

/-- Remove an object with the status given (03 R77, 11 R270); DESTROY_FORCE and CLEAR refuse down the tree, under each
context and handle by which the object is known there (06 R155; log entry 78). -/
def removeObj (n : Nat) (st : Status) (down : Bool) (s : State) : State :=
  let e := (objAt s n).epoch
  let idents := identsOf s n
  let s := (listAt s n).foldl (fun s ix => dropEntry n ix st s) s
  let s := releasePends (fun a => a.slot == some n) none st e 0 0 s
  let s := if down then idents.foldl (fun s i => refuseAll i.1 i.2 st e s) s else s
  let s := (shadowSend n (seqAt s n + 1) .destroy s).2
  clearSlot n s

/-! ## CREATE (03 R75, R88; 04 R113; 11 R257; 13 R314) -/

/-- The shadow hosts of the roles this die hosts as primary, on other dies (13 R314), less those lost (R325). -/
def shadowHosts (s : State) : List DieId :=
  let me := myDie s
  let pk := if pkgDieOf s (myPkg s) = me ∧ servesPkg s then (pkgHosts s (myPkg s)).drop 1 else []
  let rl := if (rolesHere s).any (fun r => !r.shadow && servesRole s r) then (relayHosts s (myPkg s)).drop 1 else []
  ((pk ++ rl).filter (fun d => d != me && !s.vat.lostHolders.contains d)).eraseDups

/-- Whether a requested PRIV is allowed (03 R88, 17 R407, 18 R418). -/
def privAllowed (s : State) (a : Acc) : Bool :=
  s.boot.policy.privCreate && (match a.rq with
    | .regp => a.ctx == 0
    | .sq0 => true
    | .sq1 => true
    | .regacc => false)

/-- The checks of CREATE after SLOT_USED, as ERR (03 R74, R75). No debugger creates a PRIVILEGED object (17 R407, R408). -/
def createErr (s : State) (c : ObjCmd) : Nat :=
  let o := unpackObj c.image
  let forced := o.owner == 0 || o.kind == kStepAgree
  if kindUnknown s o.kind then 3
  else if !imageZeros c.image || !createRule (liveKinds s) o then 4
  else if ctxState s o.owner ≠ .live then 4
  else if c.acc.rq == .regacc && (o.priv || forced) then 4
  else if o.priv && !forced && !privAllowed s c.acc then 4
  else if o.shadow && (!isTreeKind o.kind || (shadowHosts s).isEmpty) then 4
  else 0

/-- The object CREATE makes. -/
def createObj (s : State) (c : ObjCmd) : Obj :=
  let o := unpackObj c.image
  { o with state := createState (liveKinds s) o, priv := o.priv || o.owner == 0 || o.kind == kStepAgree }

/-- CREATE that passed its checks. -/
def doCreate (c : ObjCmd) (s : State) : State :=
  let o := createObj s c
  let s := putSlot c.slot { a := { obj := o }, b := { obj := o } } s
  let s := chainJoin o.owner c.slot s
  if o.shadow then
    let s := { s with vat := { s.vat with holders := tset s.vat.holders c.slot (shadowHosts s) } }
    (shadowSend c.slot 0 (.create false (packObj o 0)) s).2
  else s

/-- DESTROY's OBJ_BUSY (03 R74); an object only DESTROY_FORCE clears counts as busy (log entry 29). -/
def destroyBusy (s : State) (n : Nat) : Bool :=
  let o := objAt s n
  !(listAt s n).isEmpty || o.armed || (slotAt s n).lost || kindUnknown s o.kind ||
    (isTreeKind o.kind && (o.state != 0 || s.couch.pend.any (fun a => a.slot == some n && !a.leaving)))

/-- The words FETCH returns (03 R74, 17 R408): copy A, of which REGACC without PRIV sees only VALUE of a PRIVILEGED
object. -/
def fetchImage (s : State) (n : Nat) (a : Acc) : Image :=
  let x := slotAt s n
  let w := packObj x.a.obj (wheadAt s n)
  if a.rq = .regacc ∧ x.a.obj.priv ∧ !fullView s 0 then BitVec.ofNat 256 (x.a.obj.value.toNat * 2 ^ 64) else w

/-- A command ends with ERR (03 R73, R76). -/
def endObjCmd (err : Nat) (s : State) : State :=
  { s with vat := { s.vat with
    cmdBusy := false, cmdErr := BitVec.ofNat 3 err, reject := if err = 0 then s.vat.reject else sat16 s.vat.reject } }

/-- One object command on its slot (03 R74-R77). A copy in standby is no object to DESTROY (20 R453, log entry 41). -/
def runObjCmd (c : ObjCmd) (s : State) : State :=
  let n := c.slot
  if blocked s (.slot n) then hold (.slot n) (.cmd c) s
  else match c.cmd.toNat with
    | 4 => endObjCmd 0 { s with vat := { s.vat with w := fetchImage s n c.acc } }
    | k =>
      match resolve n s with
      | (.fetch both, s) => hold (.slot n) (.cmd c) (startFetch n both s)
      | (r, s) =>
        let refuse := fun (e : Nat) => endObjCmd e (if r = .ok true then bumpSeq n s else s)
        let used := (objAt s n).kind != 0 || (slotAt s n).lost
        let standby := (tget s.vat.third n).any (fun t => !t.live)
        if k = 1 then
          if used then refuse 1
          else
            let e := createErr s c
            if e = 0 then endObjCmd 0 (doCreate c s) else refuse e
        else if !used ∨ standby then refuse 2
        else if k = 2 then
          if destroyBusy s n then refuse 5 else endObjCmd 0 (removeObj n stBadHandle false s)
        else endObjCmd 0 (removeObj n stBadHandle true s)

/-- A write to GS_OBJ_CMD that is served (03 R73, R76): ignored while BUSY; the registers are copied and a defined
command waits for its grant; a reserved one ends BADCMD with none. -/
def objCommand (a : Acc) (cmd : BitVec 3) (s : State) : State :=
  if s.vat.cmdBusy ∨ cmd = 0 then s
  else if 5 ≤ cmd.toNat then endObjCmd 6 s
  else
    let c : ObjCmd := { cmd, slot := s.vat.objSlot.toNat, image := s.vat.w, acc := a }
    { s with vat := { s.vat with cmdBusy := true }, hb := { s.hb with regq := s.hb.regq ++ [.obj c] } }

end Sys2Proof.Machine
end

