-- ==== Sys2Proof/Machine/WmCmd.lean ====
section
/-! DEFINITION. The Watermark commands (08 R196, R201, R204, R207-R209). -/

namespace Sys2Proof.Machine

/-- The record an image describes (08 R207), at the level it starts from (R199). -/
def wmOfImage (w : BitVec 256) (level : Nat) : WmRec :=
  let n := w.toNat
  let hen := n.testBit 145
  let len := n.testBit 146
  let h : W64 := w.extractLsb' 0 64
  let l : W64 := w.extractLsb' 64 64
  { slot := fld n 128 17, src := n.testBit 147, hen, len, h, l, ctx := w.extractLsb' 148 12
    target := w.extractLsb' 160 30, tinc := w.extractLsb' 192 8, cookie := w.extractLsb' 200 16
    hold := w.extractLsb' 216 8, handle := w.extractLsb' 224 32, peak := level, trough := level, level
    side := wmSide hen len h.toNat l.toNat level }

/-- The target lies in this die's package and the reserved bits of W5 are zero (08 R207). -/
def wmTargetOk (s : State) (w : BitVec 256) : Bool :=
  fld w.toNat 190 2 == 0 && pkgOf (dieOf (w.extractLsb' 160 30)) == myPkg s

/-- The rules of 08 R207. -/
def wmFieldOk (s : State) (w : BitVec 256) (r : WmRec) : Bool :=
  (r.hen || r.len) && (!(r.hen && r.len) || decide (r.l.toNat < r.h.toNat)) && wmTargetOk s w &&
    r.ctx == (objAt s r.slot).owner

/-- ERR of an ATTACH: the first check that fails, in the order of the codes (log entry 38). -/
def wmAttachErr (s : State) (w : BitVec 256) (r : WmRec) : Nat :=
  if (storeFree s).isNone then 1
  else if (slotAt s r.slot).lost || (objAt s r.slot).kind == 0 then 2
  else if !wmFieldOk s w r then 3
  else if s.wm.recs.any (fun e => e.2.slot == r.slot && e.2.src == r.src) then 4
  else if (objAt s r.slot).priv && r.ctx != 0 then 5
  else 0

/-- A command ends with ERR (08 R208). -/
def endWmCmd (err : Nat) (s : State) : State :=
  { s with wm := { s.wm with cmdBusy := false, cmdErr := BitVec.ofNat 3 err } }

/-- ATTACH on a resolved slot; a level already beyond a bound builds one notice (08 R201). `fresh`: the read marked the
slot DIVERGED in this pass (13 R308). -/
def wmAttach (w : BitVec 256) (n : Nat) (fresh : Bool) (s : State) : State :=
  let r := wmOfImage w 0
  let e := wmAttachErr s w r
  let refuse := fun (e : Nat) => endWmCmd e (if fresh then bumpSeq n s else s)
  if e ≠ 0 then refuse e
  else match storeFree s with
    | none => refuse 1
    | some i =>
      let r := wmOfImage w (wmLevel s n r.src)
      let before := bytesAt s n
      let s := putObj n { objAt s n with wmark := true } s
      let s := if fresh then bumpSeq n s else bumpIf n before s
      let s := putRec i r { s with wm := { s.wm with index := BitVec.ofNat 13 i } }
      endWmCmd 0 (if r.side = .between then s else wmNotice i r false (objAt s n) r.level s)

/-- DETACH (08 R196, R204): WMARK clears with the object's last record. -/
def wmDetach (i n : Nat) (s : State) : State :=
  let s := wmFree i s
  if s.wm.recs.any (fun e => e.2.slot == n) then s
  else
    let s := readSlot n s
    let before := bytesAt s n
    bumpIf n before (modObj n (fun o => { o with wmark := false }) s)

/-- The record state READ returns (08 R209). -/
def wmState (r : WmRec) : BitVec 256 :=
  BitVec.ofNat 256 (r.peak + 2 ^ 64 * r.trough + 2 ^ 128 * r.level + 2 ^ 192 * r.up + 2 ^ 208 * r.dn
    + 2 ^ 224 * r.notices.toNat + 2 ^ 240 * bit r.latch + 2 ^ 241 * bit r.holdoff + 2 ^ 242 * sideCode r.side)

/-- RETARGET: W5 and W6 alone, the record's state kept (08 R207). -/
def wmRetarget (w : BitVec 256) (i : Nat) (r : WmRec) (s : State) : State :=
  if !wmTargetOk s w then endWmCmd 3 s
  else
    endWmCmd 0 (putRec i { r with
      target := w.extractLsb' 160 30, tinc := w.extractLsb' 192 8, cookie := w.extractLsb' 200 16
      hold := w.extractLsb' 216 8 } s)

/-- One Watermark command on its slot (08 R208). -/
def runWmCmd (c : WmCmd) (s : State) : State :=
  if c.cmd = 1 then
    let n := (wmOfImage c.image 0).slot
    if blocked s (.slot n) then hold (.slot n) (.wm c) s
    else match resolve n s with
      | (.fetch both, s) => hold (.slot n) (.wm c) (startFetch n both s)
      | (r, s) => wmAttach c.image n (r = .ok true) s
  else match tget s.wm.recs c.idx with
    | none => endWmCmd 7 s
    | some r =>
      if blocked s (.slot r.slot) then hold (.slot r.slot) (.wm c) s
      else if c.cmd = 2 then endWmCmd 0 (wmDetach c.idx r.slot s)
      else if c.cmd = 3 then endWmCmd 0 { s with wm := { s.wm with w := wmState r } }
      else wmRetarget c.image c.idx r s

/-- A write to GS_WM_CMD that is served. -/
def wmCommand (cmd : BitVec 3) (idx : BitVec 13) (s : State) : State :=
  if s.wm.cmdBusy then s
  else
    let s := { s with wm := { s.wm with index := idx } }
    if cmd = 0 then s
    else if 5 ≤ cmd.toNat then endWmCmd 6 s
    else
      let c : WmCmd := { cmd, idx := idx.toNat, image := s.wm.w }
      { s with wm := { s.wm with cmdBusy := true }, hb := { s.hb with regq := s.hb.regq ++ [.wm c] } }

/-- A record's holdoff ends (08 R200). -/
def wmHoldoffEnd (i : Nat) (s : State) : State :=
  match tget s.wm.recs i with
  | none => s
  | some r =>
    if !r.holdoff then s
    else if r.latch then wmNotice i { r with holdoff := false } true (objAt s r.slot) (wmLevel s r.slot r.src) s
    else putRec i { r with holdoff := false } s

end Sys2Proof.Machine
end

