-- ==== Sys2Proof/Machine/Quire.lean ====
section
/-! DEFINITION. Quires: records, prepare and apply passes, locks, tickets, coordinators (09). -/

namespace Sys2Proof.Machine

/-! ## Records (09 R210-R216) -/

/-- The key of a quire of this die. -/
def keyOf (s : State) (q : Nat) : QKey := { die := myDie s, qid := BitVec.ofNat 9 q }

/-- Change a quire record. -/
def modQRec (q : Nat) (f : QRec → QRec) (s : State) : State := { s with qu := { s.qu with recs := tmod s.qu.recs q f } }

/-- The ticket order of 09 R224. -/
def tktLt (a b : Ticket) : Bool :=
  decide (a.time.toNat < b.time.toNat) || (a.time == b.time && decide (a.agent.toNat < b.agent.toNat))

/-- The quire that a request names, held open by its AGENT, INC and CTX (09 R211). -/
def qHeld (s : State) (op : Op) : Option (Nat × QRec) :=
  let q := fld op.a.toNat 0 9
  match tget s.qu.recs q with
  | some r => if r.state = .opened ∧ r.agent = op.agent ∧ r.inc = op.inc ∧ r.ctx = op.ctx then some (q, r) else none
  | none => none

/-- What an ended quire does to its agent's ticket hold (09 R225). -/
def ticketEnd (r : QRec) (cause : Nat) (s : State) : State :=
  let i := localIx r.agent
  if cause = 6 ∨ cause = 7 then
    if (tget s.ag.hold i).isNone then { s with ag := { s.ag with hold := tset s.ag.hold i r.ticket } } else s
  else if tget s.ag.hold i = some r.ticket then { s with ag := { s.ag with hold := terase s.ag.hold i } }
  else s

/-- Count for the BRACE summary (16 R383): quires ended by BRACE itself, and those that ran on. -/
def braceCount (r : QRec) (cause : Nat) (s : State) : State :=
  if s.pwr.bphase ≠ .bracing then s
  else
    let p := s.pwr
    if r.state = .opened then
      if cause = 0xC then { s with pwr := { p with braceAborts := p.braceAborts + 1 } } else s
    else if cause = 0 then { s with pwr := { p with braceCommits := p.braceCommits + 1 } }
    else { s with pwr := { p with braceAborts3 := p.braceAborts3 + 1 } }

/-- End a quire, committed when `cause` is 0 (09 R225, R238): free the record, count it. -/
def endRec (q : Nat) (r : QRec) (cause pos : Nat) (s : State) : State :=
  let s := braceCount r cause (ticketEnd r cause s)
  let u := { s.qu with recs := terase s.qu.recs q }
  { s with qu := if cause = 0 then { u with commits := sat16 u.commits }
      else { u with aborts := sat16 u.aborts, lastCause := BitVec.ofNat 4 cause, lastPos := BitVec.ofNat 4 pos
                    lastQid := BitVec.ofNat 9 q, lastAgent := r.agent } }

/-- Abort a quire held open (09 R214-R216): every recorded QOP is answered QUIRE_ABORTED. -/
def abortOpen (q : Nat) (r : QRec) (cause : Nat) (s : State) : State :=
  endRec q r cause 0 (r.members.foldl (fun s m => answerZ m.op stQuireAborted s) s)

/-- Abort every quire held open that satisfies `p`, in ascending quire ID (02 R59, 11 R270, 16 R380). -/
def abortAllOpen (p : QRec → Bool) (cause : Nat) (s : State) : State :=
  s.qu.recs.foldl (fun s e => if e.2.state = .opened ∧ p e.2 then abortOpen e.1 e.2 cause s else s) s

/-- QBEGIN (09 R212, R224, R225). The held ticket is drawn unless a quire that drew it still runs (log entry 33). -/
def qbegin (op : Op) (s : State) : State :=
  if 512 ≤ s.qu.recs.length ∨ 6144 ≤ memberCount s then answerZ op stRetry s
  else
    let q := lowestFreeFrom s.qu.recs 0
    let i := localIx op.agent
    let held := match tget s.ag.hold i with
      | some t => if s.qu.recs.any (fun e => e.2.ticket == t) then none else some t
      | none => none
    let (t, s) : Ticket × State := match held with
      | some t => (t, s)
      | none =>
        let time := match tget s.ag.lastTicket i with
          | some l => if (now s).toNat ≤ l.toNat then l + 1 else now s
          | none => now s
        ({ time, agent := op.agent }, { s with ag := { s.ag with lastTicket := tset s.ag.lastTicket i time } })
    let r : QRec := { agent := op.agent, inc := op.inc, ctx := op.ctx, count := fld op.a.toNat 0 5, ticket := t }
    answer op stOk (BitVec.ofNat 64 q) 0 { s with qu := { s.qu with recs := tset s.qu.recs q r } }

/-- A QOP refused (09 R214): any status but RETRY ends the quire it names, if held open, with cause MEMBER. -/
def qopRefuse (op : Op) (st : Status) (a : W64) (s : State) : State :=
  let s := if st = stRetry then s else match qHeld s op with
    | some (q, r) => abortOpen q r 2 s
    | none => s
  answer op st a 0 s

/-- Position and inner opcode of a QOP (02 R34). -/
def qopPos (op : Op) : Nat := fld op.a.toNat 12 4
def qopInner (op : Op) : Byte := BitVec.ofNat 8 (op.a.toNat / 2 ^ 16)

/-- The checks of 09 R213 before translation: the status and operand A of a refusal. -/
def qopPosition (op : Op) (r : QRec) : Option W64 :=
  if r.count ≤ qopPos op ∨ r.members.any (fun m => m.pos == qopPos op) then some 140
  else if qopInner op = opWatch ∧ qopPos op + 1 ≠ r.count then some 144
  else none

/-- Insert a member in position order. -/
def insMember (m : Member) : List Member → List Member
  | [] => [m]
  | n :: r => if m.pos < n.pos then m :: n :: r else n :: insMember m r

/-- Record a QOP whose translation passed (09 R213, R221). The quire and the position are looked at again, since a
walk may have come between. -/
def qopRecord (op : Op) (x : Xl) (s : State) : State :=
  match qHeld s op with
  | none => answerZ op stQuireAborted s
  | some (q, r) =>
    match qopPosition op r with
    | some a => qopRefuse op stRsvdNz a s
    | none =>
      if 6144 ≤ memberCount s then answerZ op stRetry s
      else
        let inner := qopInner op
        let s := if inner = opArrive ∧ xlHome x = myDie s then readSlot (xlSlot x) s else s
        let combined := inner == opArrive && combines s x
        let home := if combined then myDie s else xlHome x
        let m : Member := { pos := qopPos op, inner, op, slot := xlSlot x, home, x, combined
                            a := op.data.extractLsb' 0 64, b := op.data.extractLsb' 64 64 }
        leaveOrder op (modQRec q (fun r => { r with members := insMember m r.members }) s)

/-- QABORT (09 R216). -/
def qabort (op : Op) (s : State) : State :=
  match qHeld s op with
  | none => answerZ op stQuireAborted s
  | some (q, r) => answerZ op stOk (abortOpen q r 1 s)

/-! ## Levels, coordinators and where their frames go (09 R229, R230) -/

/-- The homes of a quire, without repeats, in position order. -/
def recHomes (r : QRec) : List DieId := (r.members.map (·.home)).eraseDups

/-- The packages of some dies, rising. -/
def pkgsOf (l : List DieId) : List Nat := l.foldl (fun a d => insSorted (pkgOf d) a) []

/-- The package at the lowest node of the system tree whose subtree holds `pk` (09 R229), where this die's table
tells: its own node; the root of a domain with no relays; its parent beside itself. Otherwise a free value (log entry
31). -/
def coordNode (s : State) (pk : List Nat) : Nat :=
  let t := s.boot.topo
  let own := myPkg s
  let kids := match t.recs.find? (fun r => !r.shadow && r.package == own) with
    | some r => r.children
    | none => []
  if pk.contains own && (t.tier == 3 || pk.all (fun p => p == own || kids.contains p)) then own
  else if t.tier == 3 && t.packages == kids.length + 1 && decide (2 ≤ pk.length) then own
  else if t.tier != 3 && pk.contains own && pk.contains t.parent && pk.all (fun p => p == own || kids.contains p || p == t.parent)
  then t.parent
  else Config.treeNode pk

/-- Coordinator and its shadow of a level, for the package whose role it is. -/
def coordHosts (s : State) (level pkg : Nat) : List DieId :=
  if level ≤ 1 then hostsNow s false (pkgHosts s pkg) else roleHosts s pkg

/-- The dies to which a home sends for the coordinator of a quire of a level (09 R230). -/
def voteHosts (s : State) (level : Nat) (c : DieId) : List DieId :=
  if s.couch.takers.any (fun t => t.taker == c) then [c] else (c :: coordHosts s level (pkgOf c)).eraseDups

/-- Send one frame to several dies. -/
def sendAll (l : List DieId) (b : Body) (s : State) : State := l.foldl (fun s d => sendFrame d b s) s

/-! ## The end of a quire at its origin (09 R234) -/

/-- The member whose NO aborted the quire: of the home whose vote decided, the one that it answered with a status of its
own (log entry 34). -/
def culprit (s : State) (r : QRec) : Option Nat :=
  if r.blame = some (myDie s) then match r.no with
    | some (c, p) => if c = r.cause then some p else none
    | none => none
  else (r.members.find? (fun m => some m.home == r.blame && (match m.ans with
      | some a => a.status != stQuireAborted
      | none => false))).map (·.pos)

/-- A member's answer when its quire ends (09 R217-R222, R234; 13 R325). -/
def memberAnswer (s : State) (r : QRec) (m : Member) : Status × W64 × W64 :=
  match m.ans with
  | none => if r.failed.contains m.home then (stRetry, 0, 0) else (stQuireAborted, 0, 0)
  | some a =>
    if r.state = .committed ∨ culprit s r = some m.pos then (a.status, a.a, a.b) else (stQuireAborted, 0, 0)

/-- A WATCH is registered: answered OK, or DIVERGED in its place (02 R43). -/
def registered (st : Status) : Bool := st == stOk || st == stDiverged

/-- Build the responses of a decided quire that waits for no more QDONE (09 R215, R234). The MIRROR of a WATCH that was not
registered goes. -/
def finishRec (q : Nat) (s : State) : State :=
  match tget s.qu.recs q with
  | none => s
  | some r =>
    if (r.state = .committed ∨ r.state = .aborted) ∧ r.wait.isEmpty then
      let s := r.members.foldl (fun s m =>
        let (st, a, b) := memberAnswer s r m
        let s := match m.mirror with
          | some ix => if r.state = .committed && m.ans.any (fun x => registered x.status) then s else freeEntry ix s
          | none => s
        answer m.op st a b s) s
      let s := match r.commit with
        | some op => answerZ op (if r.state = .committed then stOk else stQuireAborted) s
        | none => s
      movesDone (endRec q r (if r.state = .committed then 0 else r.cause.toNat) ((culprit s r).getD 0) s)
    else s

/-- A home's QDONE at the origin (09 R234): answers, and the home index of a MIRROR. -/
def recDone (q : Nat) (src : DieId) (ans : List QAnswer) (s : State) : State :=
  match tget s.qu.recs q with
  | none => s
  | some r =>
    if r.state = .opened ∨ r.got.contains src then s
    else
      let members := r.members.map (fun m =>
        if m.home = src then { m with ans := ans.find? (fun a => a.pos.toNat == m.pos) } else m)
      let s := modQRec q (fun r => { r with members, got := r.got ++ [src], wait := r.wait.filter (· != src) }) s
      let s := members.foldl (fun s m => match m.mirror, m.ans with
        | some ix, some a =>
          if m.home == src && registered a.status then mirrorLearn ix (a.a.setWidth 16) s else s
        | _, _ => s) s
      finishRec q s

/-- The stream to a die is DOWN. -/
def isDown (s : State) (d : DieId) : Bool := match streamTo s d with
  | some t => t.st == .down
  | none => false

/-- Give up waiting for a failed home (13 R325). -/
def recFail (q : Nat) (d : DieId) (s : State) : State :=
  match tget s.qu.recs q with
  | none => s
  | some r =>
    if (r.state = .committed ∨ r.state = .aborted) ∧ r.wait.contains d then
      let s := modQRec q (fun r => { r with wait := r.wait.filter (· != d), failed := r.failed ++ [d] }) s
      finishRec q (logEvent 0x13 none (BitVec.ofNat 32 q) (d.setWidth 64) 0 s)
    else s

/-- The decision reaches the origin (09 R233, R234): on an abort it waits for the homes that voted, of which the last is the
one whose vote decided (log entry 34). -/
def recDecide (q : Nat) (abort : Bool) (cause : BitVec 4) (voted : List DieId) (s : State) : State :=
  match tget s.qu.recs q with
  | none => s
  | some r =>
    if r.state ≠ .preparing then s
    else
      let wait := (recHomes r).filter (fun d => !r.got.contains d && (!abort || voted.contains d))
      let blame := if abort then voted.getLast? else none
      let s := modQRec q (fun r => { r with state := if abort then .aborted else .committed, cause, wait, blame }) s
      wait.foldl (fun s d => if isDown s d then recFail q d s else s) (finishRec q s)

/-! ## Prepare and apply passes at a home (09 R217-R222) -/

/-- A quire at this home. -/
def homeAt (s : State) (key : QKey) : Option HomeQ := s.qu.homes.find? (fun h => h.key == key)

/-- Change a quire at this home. -/
def modHome (key : QKey) (f : HomeQ → HomeQ) (s : State) : State :=
  { s with qu := { s.qu with homes := s.qu.homes.map (fun h => if h.key = key then f h else h) } }

/-- Change a member of a quire at this home. -/
def modMember (key : QKey) (pos : Nat) (f : HMember → HMember) (s : State) : State :=
  modHome key (fun h => { h with members := h.members.map (fun m => if m.pos = pos then f m else m) }) s

/-- Release a quire's lock on a target. -/
def unlockTarget (key : QKey) (t : Target) (s : State) : State :=
  { s with qu := { s.qu with locks := s.qu.locks.filter (fun l => !(l.key == key && l.target == t)) } }

/-- An ARRIVE at an object that uses the combining tree. -/
def isArrival (s : State) (m : HMember) : Bool := m.op.opcode == opArrive && isTreeKind (objAt s m.slot).kind

/-- A member's transition, by itself (09 R217). -/
def memberEval (m : HMember) (s : State) : PassOut × State :=
  match m.target with
  | .record _ _ => ({ status := stOk }, recCount m.x m.op (arrivalOf m.op) s)
  | .slot n => if isArrival s m then countArrive m.op n s else evalObj true m.entry m.op n s

/-- The fields that the members already prepared will leave: a scratch copy of the state (log entry 15). -/
def scratchOf (h : HomeQ) (s : State) : State :=
  h.members.foldl (fun t m => if m.done && !m.refused then (memberEval m t).2 else t) s

/-- Keep from a scratch pass what its refusal counted and logged. -/
def keepCounts (t s : State) : State :=
  { s with res := t.res, irq := t.irq, pins := t.pins, vat := { s.vat with badLogged := t.vat.badLogged }
           wt := { s.wt with full := t.wt.full }, couch := { s.couch with barFull := t.couch.barFull } }

/-- The outcome of a prepare pass. -/
inductive Prep where
  | yes (entry : Option Nat)
  | no (cause : BitVec 4) (st : Status) (a b : W64)
  /-- The pass waits, for the lock of the quire named or for a fetch. -/
  | park (on : Option QKey)
  deriving DecidableEq, Repr

/-- The cause of a NO with a status (09 R238). -/
def noOf (st : Status) (a b : W64) : Prep := .no (if st = stRetry then 8 else 4) st a b

/-- Prepare a WATCH member: reserve its entry (09 R220). -/
def prepWatch (h : HomeQ) (m : HMember) (n : Nat) (t s : State) : Prep × State :=
  if kindUnfit t (objAt t n) then
    (noOf stKindReject (objAt t n).value (objB (objAt t n)), logBadKind n s)
  else if !entryFree s then (noOf stRetry 0 0, countFull s)
  else
    let (ix, s) := allocEntry (.reserved h.key m.pos) s
    (.yes (some ix), s)

/-- Prepare a member on a slot (09 R217-R219, 20 R454). -/
def prepSlot (h : HomeQ) (m : HMember) (n : Nat) (s : State) : Prep × State :=
  if fetching s n then (.park none, s)
  else match resolve n s with
    | (.fetch both, s) => (.park none, startFetch n both s)
    | (.lost, s) => (noOf stKindReject 0 0, s)
    | (.ok fresh, s) =>
      let s := if fresh then bumpSeq n s else s
      if thirdDead s n ∨ (objAt s n).kind = 0 then (noOf stBadHandle 0 0, s)
      else if !ownerOk (objAt s n) m.op.ctx then (noOf stPerm 0 0, s)
      else
        let t := scratchOf h s
        if m.op.opcode = opWatch then prepWatch h m n t s
        else
          let (out, t') := if isArrival t m then evalArrive m.op n t else evalObj true none m.op n t
          if out.status ≠ stOk then (noOf out.status out.a out.b, keepCounts t' s)
          else if m.op.opcode = opCas ∧ out.a ≠ m.op.a then
            let (st, s) := okOrDiverged n m.op s
            (.no 5 st out.a out.b, s)
          else (.yes none, s)

/-- Prepare an ARRIVE member at this die's combining record (09 R221). -/
def prepRecord (h : HomeQ) (m : HMember) (s : State) : Prep × State :=
  match recHome s m.x m.op with
  | some st => (noOf st 0 0, s)
  | none =>
    let t := scratchOf h s
    let (st, t') := recAdmit m.x m.op (arrivalOf m.op) t
    if st = stOk then (.yes none, s)
    else if st = stKindReject ∨ st = stOverflow then
      let (a, b, s) := recOperands m.x s
      (noOf st a b, s)
    else (noOf st 0 0, keepCounts t' s)

/-- A home that prepares nothing more (09, Cases): halted, in BRACE, or the context not live. -/
def homeVeto (s : State) (c : CtxId) : Option (BitVec 4) :=
  if s.pwr.halted || s.res.fatal then some 0xD
  else if s.pwr.st = .brace then some 0xC
  else if ctxState s c ≠ .live then some 0xB
  else none

/-- A member's prepare pass under its lock. -/
def prepBody (h : HomeQ) (m : HMember) (s : State) : Prep × State := match m.target with
  | .slot n => prepSlot h m n s
  | .record _ _ => prepRecord h m s

/-- The answers of a home (09 R234): each member's own on a COMMIT; on an ABORT that of the home's NO, if it carries the
cause decided. -/
def homeAnswers (h : HomeQ) : List QAnswer :=
  h.members.map (fun m =>
    let keep := match h.decision with
      | some (false, _) => true
      | some (true, c) => h.no == some (c, m.pos)
      | none => false
    if keep then { pos := BitVec.ofNat 4 m.pos, status := m.status, a := m.ra, b := m.rb }
    else { pos := BitVec.ofNat 4 m.pos, status := stQuireAborted, a := 0, b := 0 })

/-- End a quire at this home: locks, waiting passes and unused reservations go, QDONE is sent (09 R234). -/
def homeEnd (key : QKey) (s : State) : State :=
  match homeAt s key with
  | none => s
  | some h =>
    let s := { s with
      wt := { s.wt with entries := s.wt.entries.filter (fun e => match e.2 with
        | .reserved k _ => k != key
        | _ => true) }
      hb := { s.hb with link := s.hb.link.filter (fun l => match l with
        | .quire k _ => k != key
        | _ => true) }
      qu := { s.qu with
        homes := s.qu.homes.filter (fun g => g.key != key)
        locks := s.qu.locks.filter (fun l => l.key != key)
        parked := s.qu.parked.filter (fun p => p.key != key) } }
    if key.die = myDie s then recDone key.qid.toNat (myDie s) (homeAnswers h) s
    else sendFrame key.die (.qdone key (homeAnswers h)) s

/-- Record a member's answer. -/
def setAnswer (key : QKey) (pos : Nat) (st : Status) (a b : W64) (s : State) : State :=
  modMember key pos (fun m => { m with applied := true, status := st, ra := a, rb := b }) s

/-- The Watermark records of an object are tested in every apply pass (08 R198); the notice waits for the last pass on the
object (09 R223, log entry 32). -/
def wmLatch (n : Nat) (s : State) : State :=
  s.wm.recs.foldl (fun s e => if e.2.slot = n then putRec e.1 (wmCross e.2 (wmLevel s n e.2.src)) s else s) s

/-- The apply pass of a member on its slot (09 R217, R223). `last`: no later member is on the slot, so the watches
are tested now (log entry 32). The output event waits for the other members (04 R112), and the answer for the third copies
(13 R316). -/
def applySlot (key : QKey) (m : HMember) (n : Nat) (again last : Bool) (s : State) : Bool × State :=
  if fetching s n then (false, s)
  else match resolve n s with
    | (.fetch both, s) => (false, startFetch n both s)
    | (.lost, s) => (true, setAnswer key m.pos stKindReject 0 0 s)
    | (.ok fresh, s) =>
      if (objAt s n).kind = 0 then (true, setAnswer key m.pos stDeckleGone 0 0 s)
      else
        let (out, s) := memberEval m s
        let s := if fresh && !out.bumped then bumpSeq n s else s
        let (st, s) := if out.status = stOk then okOrDiverged n m.op s else (out.status, s)
        let s := setAnswer key m.pos st out.a out.b s
        let s := modMember key m.pos (fun m => { m with out := out.out }) s
        let s := modHome key (fun h => { h with fids := h.fids ++ out.fids }) s
        let s := if last then s else wmLatch n s
        (true, finishPass m.op n { out with
          bumped := out.bumped || fresh, walk := last && (out.walk || again)
          newEntry := if last then out.newEntry else none } s)

/-- A member's apply pass, and the release of its lock in the last one on its target. -/
def applyOne (key : QKey) (h : HomeQ) (m : HMember) (s : State) : Bool × State :=
  let again := h.members.any (fun k => decide (k.pos < m.pos) && k.target == m.target)
  let last := !h.members.any (fun k => decide (m.pos < k.pos) && k.target == m.target)
  let (fin, s) : Bool × State := match m.target with
    | .slot n => applySlot key m n again last s
    | .record _ _ =>
      if ctxState s m.op.ctx ≠ .live then (true, setAnswer key m.pos stDeckleGone 0 0 s)
      else
        let s := (memberEval m s).2
        let (a, b, s) := recOperands m.x s
        (true, setAnswer key m.pos stOk a b s)
  (fin, if fin && last then unlockTarget key m.target s else s)

/-- Park a pass of a quire at this home (09 R226). -/
def parkPass (key : QKey) (pos : Nat) (on : Option QKey) (s : State) : State :=
  { s with qu := { s.qu with parked := s.qu.parked ++ [{ key, pos, on }] } }

/-- The passes of a home go to the die arbiter as LINK operations, in position order (09 R229). -/
def presentPasses (h : HomeQ) (s : State) : State :=
  { s with hb := { s.hb with link := s.hb.link ++ h.members.map (fun m => .quire h.key m.pos) } }

/-- Every member is applied: the output events go out (04 R112), and the quire ends here once the third copies have what it
changed (13 R316). -/
def applyEnd (key : QKey) (s : State) : State :=
  match homeAt s key with
  | none => s
  | some h =>
    if h.members.all (·.applied) then
      let s := h.members.foldl (fun s m => doOut m.op m.slot m.out s) s
      if h.fids.isEmpty then homeEnd key s else s
    else s

/-- The SHADOW_UPD frames that a home's answers wait for are acknowledged (13 R316, R325). -/
def homesAcked (fid : Nat) (s : State) : State :=
  let hit := s.qu.homes.filter (fun h => h.fids.contains fid)
  hit.foldl (fun s h =>
    let s := modHome h.key (fun h => { h with fids := h.fids.filter (· != fid) }) s
    if h.fids.all (· == fid) && h.members.all (·.applied) && h.decision.isSome then homeEnd h.key s else s) s

/-- A home acts on the first decision for a key (09 R232, R234). -/
def homeDecide (key : QKey) (abort : Bool) (cause : BitVec 4) (s : State) : State :=
  match homeAt s key with
  | none => s
  | some h =>
    if h.decision.isSome then s
    else
      let s := modHome key (fun h => { h with decision := some (abort, cause) }) s
      if abort then homeEnd key s
      else presentPasses h { s with qu := { s.qu with
        locks := s.qu.locks.map (fun l => if l.key = key then { l with decided := true } else l) } }

/-- A die-level decision (09 R229, R236): origin and home are this die, and its vote decided but for a wound. -/
def decideDie (key : QKey) (abort : Bool) (cause : BitVec 4) (s : State) : State :=
  homeDecide key abort cause (recDecide key.qid.toNat abort cause [myDie s] s)

/-- The quire is one of this die at die level. -/
def isDieLevel (s : State) (key : QKey) : Bool :=
  key.die == myDie s && (match tget s.qu.recs key.qid.toNat with
    | some r => r.level == 0
    | none => false)

/-- Wound a younger quire (09 R226): its coordinator hears of it. -/
def wound (key : QKey) (s : State) : State :=
  let s := { s with qu := { s.qu with wounds := sat16 s.qu.wounds } }
  if isDieLevel s key then decideDie key true 7 s
  else match homeAt s key with
    | some h => sendAll (voteHosts s h.level h.coord) (.qwound key) s
    | none => s

/-- The vote of this home: its first NO, or YES (09 R230). -/
def castVote (key : QKey) (s : State) : State :=
  match homeAt s key with
  | none => s
  | some h =>
    let s := modHome key (fun h => { h with voted := true }) s
    let s := if key.die = myDie s then modQRec key.qid.toNat (fun r => { r with no := h.no }) s else s
    let (cause, pos) := h.no.getD (0, 0)
    let st := match h.no with
      | some _ => ((h.members.find? (fun m => m.pos == pos)).map (·.status)).getD 0
      | none => 0
    if isDieLevel s key then decideDie key h.no.isSome cause s
    else sendAll (voteHosts s h.level h.coord) (.qvote key h.no.isSome (cause.setWidth 8) (BitVec.ofNat 4 pos) st) s

/-- One prepare pass: the veto, the lock rules of 09 R222 and R226, then the member's checks. -/
def prepOne (h : HomeQ) (m : HMember) (s : State) : Prep × State :=
  match homeVeto s m.op.ctx with
  | some c => (.no c stQuireAborted 0 0, s)
  | none => match lockOn s m.target with
    | some l =>
      if l.key = h.key then prepBody h m s
      else if l.decided then (.park (some l.key), s)
      else if tktLt h.ticket l.ticket then (.park (some l.key), wound l.key s)
      else (.no 6 stQuireAborted 0 0, { s with qu := { s.qu with dies := sat16 s.qu.dies } })
    | none =>
      if 1024 ≤ s.qu.locks.length then (noOf stRetry 0 0, s)
      else
        prepBody h m { s with qu := { s.qu with
          locks := s.qu.locks ++ [{ target := m.target, key := h.key, ticket := h.ticket }] } }

/-- An earlier member on the same target has still to run its pass: members of one quire on one object go in position order
(09, "What each member does"). -/
def behindMember (h : HomeQ) (m : HMember) : Bool :=
  h.members.any (fun k => decide (k.pos < m.pos) && k.target == m.target && !(if h.decision.isSome then k.applied else k.done))

/-- The prepare pass of a member has ended; the home votes after its last one (09 R230). -/
def prepEnd (key : QKey) (s : State) : State :=
  match homeAt s key with
  | none => s
  | some h => if h.members.all (·.done) then castVote key s else s

/-- The prepare pass of a member. -/
def prepPass (h : HomeQ) (m : HMember) (s : State) : State :=
  match prepOne h m s with
  | (.park on, s) => parkPass h.key m.pos on s
  | (.yes e, s) => prepEnd h.key (modMember h.key m.pos (fun m => { m with done := true, entry := e }) s)
  | (.no c st a b, s) =>
    let s := modMember h.key m.pos (fun m => { m with done := true, refused := true, status := st, ra := a, rb := b }) s
    prepEnd h.key (modHome h.key (fun h => { h with no := some (h.no.getD (c, m.pos)) }) s)

/-- The apply pass of a member; one whose slot waits for a third copy parks. -/
def applyPass (h : HomeQ) (m : HMember) (s : State) : State :=
  match applyOne h.key h m s with
  | (true, s) => applyEnd h.key s
  | (false, s) => parkPass h.key m.pos none s

/-- One pass of a quire at this home, granted or resumed: of the arrivals of this cycle on its slot it sees all before it. -/
def quirePass (key : QKey) (pos : Nat) (s : State) : State :=
  match homeAt s key with
  | none => s
  | some h => match h.members.find? (fun m => m.pos == pos) with
    | none => s
    | some m =>
      let s := enterSlots (· == m.slot) s
      if behindMember h m then parkPass key pos none s
      else if h.decision.isSome then (if m.applied then s else applyPass h m s)
      else if m.done then s else prepPass h m s

/-- Open a quire at this home: its prepare passes wait for their grants. -/
def homeOpen (h : HomeQ) (s : State) : State :=
  presentPasses h { s with qu := { s.qu with homes := s.qu.homes.filter (fun g => g.key != h.key) ++ [h] } }

/-- A parked pass may run now: its lock is free, its own, or has passed to another quire, against which the prepare is held up
anew (09 R226). -/
def canUnpark (s : State) (p : QPark) : Bool :=
  match homeAt s p.key with
  | none => true
  | some h => match h.members.find? (fun m => m.pos == p.pos) with
    | none => true
    | some m =>
      let lock := match lockOn s m.target with
        | some l => l.key == p.key || some l.key != p.on
        | none => true
      !behindMember h m && lock && (match m.target with
        | .slot n => !fetching s n
        | .record _ _ => true)

/-- Resume the first parked pass that may run (09 R222, R226). -/
def unpark (s : State) : State :=
  match s.qu.parked.find? (canUnpark s) with
  | none => s
  | some p => quirePass p.key p.pos { s with qu := { s.qu with parked := dropFirst (· == p) s.qu.parked } }

/-! ## QCOMMIT (09 R215, R229, R230) -/

/-- Where a member is prepared (09 R221). -/
def targetOf (m : Member) : Target :=
  if m.combined then .record m.op.ctx m.op.handle else .slot m.slot

/-- A member as its home on this die keeps it. -/
def hmemberOf (m : Member) : HMember :=
  { pos := m.pos, target := targetOf m, slot := m.slot, x := m.x
    op := { m.op with opcode := m.inner, a := m.a, b := m.b, data := 0, noresp := false } }

/-- The QPREP record of a member. -/
def qmemberOf (m : Member) : QMember :=
  { pos := BitVec.ofNat 4 m.pos, inner := m.inner, slot := BitVec.ofNat 17 m.slot, a := m.a, b := m.b }

/-- Reserve the MIRRORs of WATCH members homed elsewhere (09 R220): the position that finds no entry free. -/
def reserveMirrors (q : Nat) (s : State) : Option Nat × State :=
  match tget s.qu.recs q with
  | none => (none, s)
  | some r => r.members.foldl (fun (acc : Option Nat × State) m =>
      if acc.1.isSome ∨ m.inner ≠ opWatch ∨ m.home = myDie acc.2 then acc
      else if !entryFree acc.2 then (some m.pos, countFull acc.2)
      else
        let iop : Op := { m.op with opcode := opWatch, a := m.a, b := m.b }
        let (ix, s) := allocEntry (.mirror (watchOf iop m.slot) m.home none iop) acc.2
        (none, modQRec q (fun r => { r with
          members := r.members.map (fun k => if k.pos = m.pos then { k with mirror := some ix } else k) }) s))
      (none, s)

/-- Level and coordinator of a quire's homes (09 R229). -/
def levelOf (s : State) (homes : List DieId) : Nat × DieId :=
  if homes.all (· == myDie s) then (0, myDie s)
  else if homes.all (fun d => pkgOf d == myPkg s) then (1, (coordHosts s 1 (myPkg s)).headD (myDie s))
  else (2, (coordHosts s 2 (coordNode s (pkgsOf homes))).headD (myDie s))

/-- Start the two-phase protocol (09 R215, R230). -/
def startCommit (q : Nat) (s : State) : State :=
  match tget s.qu.recs q with
  | none => s
  | some r =>
    let key := keyOf s q
    let homes := recHomes r
    let (level, coord) := levelOf s homes
    let s := modQRec q (fun r => { r with state := .preparing, level, coord }) s
    let s := if level = 0 then s else
      let s := sendAll (coord :: coordHosts s level (pkgOf coord)).eraseDups (.qstart key r.agent r.ticket.time homes) s
      homes.foldl (fun s d =>
        if d = myDie s then s
        else sendFrame d (.qprep key r.inc r.agent coord r.ticket.time r.ctx
          ((r.members.filter (fun m => m.home == d)).map qmemberOf)) s) s
    if homes.contains (myDie s) then
      homeOpen { key, ticket := r.ticket, inc := r.inc, ctx := r.ctx, coord, level
                 members := (r.members.filter (fun m => m.home == myDie s)).map hmemberOf } s
    else s

/-- QCOMMIT (09 R215, R220). -/
def qcommit (op : Op) (s : State) : State :=
  match qHeld s op with
  | none => answerZ op stQuireAborted s
  | some (q, r) =>
    if r.members.length < r.count then answerZ op stQuireAborted (abortOpen q r 3 s)
    else
      let s := modQRec q (fun r => { r with commit := some op }) s
      match reserveMirrors q s with
      | (none, s) => startCommit q s
      | (some pos, s) =>
        let no : QAnswer := { pos := BitVec.ofNat 4 pos, status := stRetry, a := 0, b := 0 }
        finishRec q (modQRec q (fun r => { r with
          state := .aborted, cause := 8, no := some (8, pos), blame := some (myDie s)
          members := r.members.map (fun m => if m.pos = pos then { m with ans := some no } else m) }) s)

/-! ## Frames at a home (09 R230) -/

/-- The level of a quire whose QPREP names its coordinator: package-level where origin, home and coordinator share a package
that hosts no relay or root role above others; where it may be either, a value left open (09 R229; log entry 31). -/
def prepLevel (key : QKey) (c : DieId) (s : State) : Nat × State :=
  if pkgOf key.die = pkgOf c ∧ pkgOf c = myPkg s then
    if s.boot.topo.packages = 1 ∨ s.boot.topo.tier = 0 then (1, s)
    else
      let (v, s) := unstated s
      (if v.getLsbD 0 then 2 else 1, s)
  else (2, s)

/-- A QPREP taken in. The frame carries neither HANDLE nor SEQ of a member: free values (log entry 35). -/
def qprep (key : QKey) (inc : Byte) (agent : AgentId) (coord : DieId) (time : W64) (ctx : CtxId) (ms : List QMember)
    (s : State) : State :=
  let (members, s) := ms.foldl (fun (acc : List HMember × State) m =>
    let (h, s) := unstated acc.2
    let (q, s) := unstated s
    let n := m.slot.toNat
    let op : Op := { opcode := m.inner, agent, inc, ctx, handle := h.setWidth 32, seq := q.setWidth 16
                     a := m.a, b := m.b, src := .felt key.die }
    (acc.1 ++ [{ pos := m.pos.toNat, target := .slot n, slot := n, x := { w0 := 0 }, op }], s)) ([], s)
  let (level, s) := prepLevel key coord s
  homeOpen { key, ticket := { time, agent }, inc, ctx, coord, level, members } s

/-- A QDECIDE at origin and home (09 R232-R234). -/
def qdecideHere (key : QKey) (abort : Bool) (cause : BitVec 4) (voted : List DieId) (s : State) : State :=
  let s := if key.die = myDie s then recDecide key.qid.toNat abort cause voted s else s
  homeDecide key abort cause s

/-! ## The coordinator (09 R231-R233) -/

/-- A coordinator record. -/
def coordAt (s : State) (key : QKey) : Option Coord := s.qu.coords.find? (fun c => c.key == key)

/-- Change a coordinator record. -/
def modCoord (key : QKey) (f : Coord → Coord) (s : State) : State :=
  { s with qu := { s.qu with coords := s.qu.coords.map (fun c => if c.key = key then f c else c) } }

/-- This die serves the role that coordinates a quire with these homes. -/
def coordServes (s : State) (key : QKey) (homes : List DieId) : Bool :=
  let pk := pkgsOf (key.die :: homes)
  if pk = [myPkg s] then servesPkg s
  else
    let p := pkgDieOf s (coordNode s (pkgsOf homes))
    if p = myDie s then !s.couch.steppedDown.any (fun x => x.1 != 0 && x.2 == p)
    else s.couch.takers.any (fun t => t.role != 0 && t.primary == p && t.taker == myDie s)

/-- The shadow to which this coordinator sends its decisions first. -/
def coordShadows (s : State) (key : QKey) (homes : List DieId) : List DieId :=
  let level := if pkgsOf (key.die :: homes) = [myPkg s] then 1 else 2
  match coordHosts s level (myPkg s) with
  | p :: r => if p = myDie s then r else []
  | [] => []

/-- This die shadows a role beyond the package role that it does not serve. -/
def shadowsRole (s : State) : Bool := (rolesHere s).any (fun r => r.shadow && !servesRole s r)

/-- Open a coordinator record on the first frame for a key. Until QSTART names the homes, a die that serves one role and
shadows another cannot tell which of them the quire is for, and decides nothing (log entry 31). -/
def coordOpen (key : QKey) (src : DieId) (s : State) : State :=
  if (coordAt s key).isSome then s
  else { s with qu := { s.qu with
    coords := s.qu.coords ++ [{ key, shadow := shadowsRole s || !coordServes s key [src] }] } }

/-- Free the record once every listed home has received its decision (09 R231). -/
def coordFree (key : QKey) (s : State) : State :=
  { s with qu := { s.qu with coords := s.qu.coords.filter (fun c =>
    !(c.key == key && !c.shadow && c.decision.isSome && (match c.homes with
      | some hs => hs.all (fun d => c.answered.contains d)
      | none => false))) } }

/-- Send a decision to a home, or to the origin; one to this die itself is received at once. -/
def sendDecision (c : Coord) (abort : Bool) (cause : BitVec 4) (d : DieId) (s : State) : State :=
  let (fid, s) := sendFrameId d (.qdecide c.key abort (cause.setWidth 8) c.votes) s
  modCoord c.key (fun c =>
    if d = myDie s then { c with answered := c.answered ++ [d] } else { c with sent := c.sent ++ [(fid, d)] }) s

/-- A decision has been received (09 R231). -/
def coordAcked (fid : Nat) (s : State) : State :=
  (s.qu.coords.filter (fun c => c.sent.any (fun x => x.1 == fid))).foldl (fun s c =>
    coordFree c.key (modCoord c.key (fun c => { c with
      answered := c.answered ++ (c.sent.filter (fun x => x.1 == fid)).map (·.2)
      sent := c.sent.filter (fun x => x.1 != fid) }) s)) s

/-- Decide (09 R230, R231): the frame to the shadow goes first, then those to the homes that voted and to the origin. -/
def coordDecide (c : Coord) (abort : Bool) (cause : BitVec 4) (s : State) : State :=
  let s := modCoord c.key (fun c => { c with decision := some abort, cause }) s
  let s := sendAll (coordShadows s c.key (c.homes.getD c.votes)) (.qdecide c.key abort (cause.setWidth 8) c.votes) s
  (c.votes ++ [c.key.die]).eraseDups.foldl (fun s d => sendDecision c abort cause d s) s

/-- Decide if the frames held decide (09 R231). -/
def coordJudge (key : QKey) (s : State) : State :=
  match coordAt s key with
  | none => s
  | some c =>
    if c.shadow ∨ c.decision.isSome then s
    else match c.no with
      | some cause => coordFree key (coordDecide c true cause s)
      | none => match c.homes with
        | some hs => if hs.all (fun d => c.yes.contains d) then coordFree key (coordDecide c false 0 s) else s
        | none => s

/-- A QSTART taken in. A record that has had its QSTART is an earlier quire's, ended since. -/
def qstart (key : QKey) (src : DieId) (homes : List DieId) (s : State) : State :=
  let s := coordOpen key src { s with qu := { s.qu with
    coords := s.qu.coords.filter (fun c => !(c.key == key && c.homes.isSome)) } }
  coordFree key (coordJudge key (modCoord key (fun c => { c with homes := some homes, shadow := !coordServes s key homes }) s))

/-- A QVOTE taken in. A vote after an ABORT is answered to that home alone (09 R231). -/
def qvote (key : QKey) (src : DieId) (no : Bool) (cause : BitVec 4) (s : State) : State :=
  let s := coordOpen key src s
  match coordAt s key with
  | none => s
  | some c =>
    let s := modCoord key (fun c => { c with
      votes := if c.votes.contains src then c.votes else c.votes ++ [src]
      yes := if no || c.yes.contains src then c.yes else c.yes ++ [src]
      no := if no && c.no.isNone && c.decision.isNone then some cause else c.no }) s
    match c.decision with
    | some true => if c.shadow then s else coordFree key (sendDecision c true c.cause src s)
    | _ => coordJudge key s

/-- A QWOUND taken in (09 R226, R231): of a quire already decided it has no effect. -/
def qwound (key : QKey) (src : DieId) (s : State) : State :=
  let s := coordOpen key src s
  coordJudge key (modCoord key (fun c => { c with no := if c.no.isNone && c.decision.isNone then some 7 else c.no }) s)

/-- A QDECIDE at the coordinator's shadow, which records it, with the homes that it names as voters (09 R232). -/
def qdecideShadow (key : QKey) (src : DieId) (abort : Bool) (cause : BitVec 4) (voted : List DieId) (s : State) : State :=
  let opens := src != myDie s && (shadowsRole s || ((pkgHosts s (myPkg s)).drop 1 == [myDie s] && !servesPkg s))
  let s := if opens && (coordAt s key).isNone
    then { s with qu := { s.qu with coords := s.qu.coords ++ [{ key, shadow := true }] } } else s
  modCoord key (fun c =>
    if c.shadow ∧ c.decision.isNone then
      { c with decision := some abort, cause, votes := voted ++ c.votes.filter (fun d => !voted.contains d) }
    else c) s

/-- The timeout of a coordinator record (09 R233): it decides ABORT if it had not decided, and is freed. -/
def quireTimeout (key : QKey) (s : State) : State :=
  match coordAt s key with
  | none => s
  | some c =>
    let s := if c.shadow ∨ c.decision.isSome then s else coordDecide c true 0xA s
    { s with qu := { s.qu with coords := s.qu.coords.filter (fun d => d.key != key) } }

/-- The records of this die's shadow roles that it serves now. -/
def takenCoords (s : State) : List Coord :=
  s.qu.coords.filter (fun c => c.shadow && coordServes s c.key (c.homes.getD c.votes))

/-- A taker first resends every decision that it has recorded, and then decides the rest (09 R232, 13 R319 step 3). -/
def coordTakeover (s : State) : State :=
  let mine := takenCoords s
  let s := mine.foldl (fun s c => modCoord c.key (fun c => { c with shadow := false }) s) s
  let s := mine.foldl (fun s c => match c.decision with
    | some abort => (c.votes ++ [c.key.die]).eraseDups.foldl (fun s d => sendDecision c abort c.cause d s) s
    | none => s) s
  (mine.filter (fun c => c.decision.isNone)).foldl (fun s c => coordJudge c.key s) s

end Sys2Proof.Machine
end

