-- ==== Sys2Proof/Machine/Report.lean ====
section
/-! DEFINITION. A REPORT where it arrives: package, relay and root roles, the object, and a third copy
(06 R150-R152, R159; 07 R186-R188; 13 R316, R321, R322; 16 R386; 20 R452). -/

namespace Sys2Proof.Machine

/-! ## Which role and which child -/

/-- The record of a handle here for a package's package role, or its relay. -/
def roleRec (s : State) (relay : Bool) (p : Nat) (c : CtxId) (h : W32) : Option RoleRec :=
  s.couch.roles.find? (fun r => r.relay == relay && r.pkg == p && r.ctx == c && r.handle == h)

/-- A child has been counted in the record of a handle for an epoch, open or just completed. -/
def kidCounted (s : State) (relay : Bool) (p : Nat) (c : CtxId) (h e : W32) (kid : Nat) : Bool :=
  (match roleRec s relay p c h with
    | some r => r.epoch == e && r.kids.contains kid
    | none => false) ||
  s.couch.done.any (fun d => d.slot.isNone && d.relay == relay && d.pkg == p && d.ctx == c && d.handle == h
    && d.epoch == e)

/-- The stage of a report received through Felt: 0 from a die record, 1 from a role's record. In a domain of one
package both may come from the package-role die, in that order (log entry 36). -/
def reportStage (s : State) (src : DieId) (r : Rep) (x : Xl) : Nat :=
  if scopeOf r.handle ≠ 4 then 0
  else if pkgOf src ≠ myPkg s then 1
  else
    let from_ := s.boot.topo.packages == 1 && (hostsNow s false (pkgHosts s (myPkg s))).head? == some src
    let counted := kidCounted s false (myPkg s) r.ctx r.handle r.epoch (src.toNat % 16) || !(dmaskOf x).testBit (src.toNat % 16)
    if from_ && counted then 1 else 0

/-- The role record's definition that counts a role's report from package `p` (18 R417). A package's own relay comes
first; once it has counted the package, a further report is the relay's own (log entry 36). -/
def roleTarget (s : State) (p stage : Nat) (r : Rep) : Option RoleDef :=
  let own := (rolesHere s).find? (fun d => d.package == p)
  let up := (rolesHere s).find? (fun d => d.children.contains p)
  if stage = 2 then up
  else match own with
    | none => up
    | some d =>
      if d.role ≠ 3 ∧ up.isSome ∧ kidCounted s true d.package r.ctx r.handle r.epoch p then up else some d

/-! ## Role records (06 R150, R152; 07 R187, R188) -/

/-- The check of a report at a role's record. -/
def roleCheck (s : State) (relay : Bool) (p : Nat) (r : Rep) : Status :=
  match roleRec s relay p r.ctx r.handle with
  | some q =>
    if q.epoch ≠ r.epoch then stKindReject
    else if (q.lanes.map (·.desc)) ≠ r.desc then stKindReject
    else stOk
  | none => if r.desc.isSome && (redFreeRole s).isNone then stRetry else stOk

/-- The participants counted in a record, 32 bits (00 R3). What they come to past 32 bits the spec does not say: a value
left open (log entry 77). -/
def addWeight (a b : W32) (s : State) : W32 × State :=
  if a.toNat + b.toNat < 2 ^ 32 then (a + b, s)
  else
    let (v, s) := unstated s
    (v.setWidth 32, s)

/-- Count a report in a role's record, opening it if need be (06 R150). -/
def roleCount (relay shadow : Bool) (p : Nat) (r : Rep) (kid : Nat) (x : Xl) (s : State) : State :=
  let old := (roleRec s relay p r.ctx r.handle).getD
    { relay, shadow, pkg := p, ctx := r.ctx, handle := r.handle, epoch := r.epoch, weight := 0, kids := [], lanes := none, x }
  let lanes := match r.desc with
    | some d => some (mergeInto old.lanes d r.parts (slotRsv s true))
    | none => none
  let (weight, s) := addWeight old.weight r.weight s
  let q := { old with weight, kids := insSorted kid old.kids, last := kid, lanes }
  { s with couch := { s.couch with
    roles := if (roleRec s relay p r.ctx r.handle).isNone then s.couch.roles ++ [q]
      else s.couch.roles.map (fun o =>
        if o.relay = relay ∧ o.pkg = p ∧ o.ctx = r.ctx ∧ o.handle = r.handle then q else o) } }

/-- The current epoch a refusing role names (06 R152). -/
def roleEpoch (s : State) (relay : Bool) (p : Nat) (r : Rep) : W32 := match roleRec s relay p r.ctx r.handle with
  | some q => q.epoch
  | none => r.epoch

/-- Mark a role's record as having reported. -/
def roleSent (relay : Bool) (p : Nat) (c : CtxId) (h : W32) (s : State) : State :=
  { s with couch := { s.couch with roles := s.couch.roles.map (fun r =>
    if r.relay = relay ∧ r.pkg = p ∧ r.ctx = c ∧ r.handle = h then { r with sent := true } else r) } }

/-- Every child of a record has reported (06 R150). -/
def pkgComplete (q : RoleRec) : Bool := (List.range 16).all (fun i => !(dmaskOf q.x).testBit i || q.kids.contains i)

/-- Every child of a relay has reported. -/
def relayComplete (d : RoleDef) (q : RoleRec) : Bool := (d.package :: d.children).all (fun p => q.kids.contains p)

/-- Report upward from this die's package record if it is complete and this die serves (06 R150, R159). -/
def pkgUp (c : CtxId) (h : W32) (s : State) : State :=
  match roleRec s false (myPkg s) c h with
  | none => s
  | some q => if pkgComplete q && !q.sent && !q.shadow then reportPkg q (roleSent false (myPkg s) c h s) else s

/-- Report upward from a relay's record if it is complete and this die serves. -/
def relayUp (d : RoleDef) (c : CtxId) (h : W32) (s : State) : State :=
  match roleRec s true d.package c h with
  | none => s
  | some q => if relayComplete d q && !q.sent && !q.shadow then reportRelay d q (roleSent true d.package c h s) else s

/-- A report at a package or relay record: refused by the role that serves, dropped by its shadow. -/
def reportRole (relay serves : Bool) (p : Nat) (r : Rep) (src : DieId) (stage kid : Nat) (x : Xl) (up : State → State) (s : State) :
    State :=
  let refuse := fun (st : Status) (s : State) =>
    if serves then refuseReport r.ctx r.handle st (roleEpoch s relay p r) stage src x s else s
  if s.pwr.halted ∨ s.res.fatal then refuse stHalted s
  else if ctxState s r.ctx ≠ .live then refuse stDeckleGone s
  else if kidCounted s relay p r.ctx r.handle r.epoch kid then countDup s
  else
    let st := roleCheck s relay p r
    if st = stRetry then refuse st (countRedRole s)
    else if st ≠ stOk then refuse st s
    else up (roleCount relay (!serves) p r kid x s)

/-! ## The object (06 R150, 03 R79, R86) -/

/-- The standby or live third copy held in slot `n`. -/
def thirdAt (s : State) (n : Nat) : Option Third := tget s.vat.third n

/-- A child as the object's home names it: a die of the package, or the package-role die of a package (13 R322). -/
def kidDie (s : State) (r : Rep) (src : DieId) : DieId :=
  if scopeOf r.handle = 4 then pkgDieOf s (pkgOf src) else src

/-- Note a child as counted in the open epoch. -/
def addKid (n : Nat) (kid : DieId) (s : State) : State :=
  let a := tgetD s.couch.objs n {}
  { s with couch := { s.couch with objs := tset s.couch.objs n { a with kids := a.kids ++ [kid] } } }

/-- The child's report was counted before (13 R322). -/
def kidDup (s : State) (n : Nat) (r : Rep) (kid : DieId) : Bool :=
  let a := tgetD s.couch.objs n {}
  let e := (objAt s n).epoch
  (r.epoch == e && a.kids.contains kid) || (r.epoch + 1 == e && a.prev.contains kid)

/-- A report at a third copy in standby: counted in silence; dropped where no copy is held (06 R159, 13 R316). -/
def reportThird (r : Rep) (src : DieId) (n : Nat) (s : State) : State :=
  let kid := kidDie s r src
  let s := if (thirdAt s n).isSome then readSlot n s else s
  if (thirdAt s n).isNone || (slotAt s n).lost then s
  else if kidDup s n r kid then countDup s
  else if objCheck s n (objAt s n) (arrivalOfRep r) true ≠ stOk then s
  else
    let before := bytesAt s n
    let s := { s with vat := { s.vat with third := tmod s.vat.third n (fun t => { t with counting := true }) } }
    let (done, s) := objCount n (arrivalOfRep r) true (setIdent n r.ctx r.handle (addKid n kid s))
    let s := bumpIf n before s
    match done with
    | none => s
    | some d => keepDone { slot := some n, ctx := r.ctx, handle := r.handle, epoch := d.epoch, lanes := d.lanes
                           word := d.word, data := d.data, x := { w0 := 0 } } s

/-- A report at the object, or at a copy that a takeover made live (06 R150, R152; 20 R452). -/
def reportObj (r : Rep) (src : DieId) (stage : Nat) (x : Xl) (s : State) : State :=
  let n := xlSlot x
  let refuse := fun (st : Status) (e : W32) (s : State) => refuseReport r.ctx r.handle st e stage src x s
  if s.pwr.halted ∨ s.res.fatal then refuse stHalted (objAt s n).epoch s
  else if ctxState s r.ctx ≠ .live then refuse stDeckleGone (objAt s n).epoch s
  else if blocked s (.slot n) then hold (.slot n) (.report r src stage x) s
  else if xlHome x ≠ myDie s ∧ (thirdAt s n).isNone then refuse stBadHandle r.epoch s
  else match resolve n s with
    | (.fetch both, s) => hold (.slot n) (.report r src stage x) (startFetch n both s)
    | (.lost, s) => refuse stKindReject (objAt s n).epoch s
    | (.ok fresh, s) =>
      let o := objAt s n
      let kid := kidDie s r src
      let refuse := fun (st : Status) (e : W32) (s : State) => refuse st e (if fresh then bumpSeq n s else s)
      if o.kind = 0 then refuse stBadHandle r.epoch s
      else if !ownerOk o r.ctx ∨ (o.kind = kStepAgree ∧ r.ctx ≠ 0) then refuse stPerm o.epoch s
      else if !isTreeKind o.kind then refuse stKindReject o.epoch s
      else if kidDup s n r kid then countDup (if fresh then bumpSeq n s else s)
      else
        let st := objCheck s n o (arrivalOfRep r) true
        if st = stRetry then refuse st o.epoch (countRedRole s)
        else if st ≠ stOk then refuse st o.epoch s
        else
          let before := bytesAt s n
          let (done, s) := objCount n (arrivalOfRep r) true (setIdent n r.ctx r.handle (addKid n kid s))
          let s := bumpIf n before s
          let op : Op := { opcode := opArrive, agent := 0, ctx := r.ctx, handle := r.handle, src := .felt src }
          finishPass op n { status := stOk, done, kid := some (if scopeOf r.handle = 4 then kid else src)
                            walk := true, bumped := decide (bytesAt s n ≠ before) } s

/-! ## Arrival of a report -/

/-- A report whose translation is known, counted where it arrives (06 R150). -/
def reportArrive (r : Rep) (src : DieId) (stage : Nat) (x : Xl) (s : State) : State :=
  let stage := if src = myDie s then stage else reportStage s src r x
  if scopeOf r.handle = 4 ∧ stage = 0 then
    reportRole false (servesPkg s) (myPkg s) r src 0 (src.toNat % 16) x (pkgUp r.ctx r.handle) s
  else if scopeOf r.handle = 4 then
    match roleTarget s (pkgOf src) stage r with
    | none => s
    | some d =>
      if d.role = 3 then
        if servesRole s d then reportObj r src stage x s else reportThird r src (xlSlot x) s
      else reportRole true (servesRole s d) d.package r src stage (pkgOf src) x (relayUp d r.ctx r.handle) s
  else if servesPkg s then reportObj r src stage x s
  else reportThird r src (xlSlot x) s

/-- Whether this die serves the role that a report is for, and the epoch that a refusal by it names (06 R152). `atObj` is
the epoch where the role is the object's home. -/
def reportServes (s : State) (r : Rep) (src : DieId) (stage : Nat) (atObj : W32) : Bool × W32 :=
  let stage := if src = myDie s then stage else reportStage s src r { w0 := 0 }
  if scopeOf r.handle ≠ 4 then (servesPkg s, atObj)
  else if stage = 0 then (servesPkg s, roleEpoch s false (myPkg s) r)
  else match roleTarget s (pkgOf src) stage r with
    | none => (false, r.epoch)
    | some d => (servesRole s d, if d.role = 3 then atObj else roleEpoch s true d.package r)

/-- A report that no translation carries to its record (06 R152): refused by the role that serves, HALTED on a halted die
(16 R386). Without a translation the object's own epoch is not at hand, and the report's stands for it. -/
def reportFailed (r : Rep) (src : DieId) (stage : Nat) (st : Status) (s : State) : State :=
  let st := if s.pwr.halted ∨ s.res.fatal then stHalted else st
  let (serves, e) := reportServes s r src stage r.epoch
  if serves then refuseReport r.ctx r.handle st e stage src { w0 := 0 } s else s

end Sys2Proof.Machine
end

