-- ==== Sys2Proof/Machine/Translate.lean ====
section
/-! DEFINITION. Handle translation: the cache, the walks, their checks and faults, and where a translated operation
goes (11 R258-R268; 01 R14, R18; 05 R122; 06 R149; 13 R321). -/

namespace Sys2Proof.Machine

/-! ## The translation cache (11 R267) -/

/-- Set of a handle in a context. -/
def tcSet (c : CtxId) (h : W32) : Nat := Nat.xor (h.toNat % 1024) (c.toNat % 1024)

/-- Ways an entry occupies. -/
def tcWays (e : TcEntry) : Nat := if xlComb e.x then 2 else 1

/-- Look a handle up: the entries are listed least recently used first. -/
def tcFind (s : State) (c : CtxId) (h : W32) : Option Xl :=
  (s.xl.cache.find? (fun e => e.ctx == c && e.handle == h)).map (·.x)

/-- A hit makes the entry the most recently used. -/
def tcTouch (c : CtxId) (h : W32) (s : State) : State :=
  { s with xl := { s.xl with
    cache := s.xl.cache.filter (fun e => !(e.ctx == c && e.handle == h)) ++
      s.xl.cache.filter (fun e => e.ctx == c && e.handle == h)
    hits := sat16 s.xl.hits } }

/-- Drop the least recently used entries of a set until `n` more ways fit in 4. -/
def tcEvict (set n : Nat) : Nat → List TcEntry → List TcEntry
  | 0, l => l
  | k + 1, l =>
    let mine := l.filter (fun e => tcSet e.ctx e.handle == set)
    if mine.foldl (fun a e => a + tcWays e) 0 + n ≤ 4 then l
    else tcEvict set n k (dropFirst (fun e => tcSet e.ctx e.handle == set) l)

/-- Fill the cache with a translation. -/
def tcFill (c : CtxId) (h : W32) (x : Xl) (s : State) : State :=
  let e : TcEntry := { ctx := c, handle := h, x }
  let l := s.xl.cache.filter (fun e => !(e.ctx == c && e.handle == h))
  { s with xl := { s.xl with cache := tcEvict (tcSet c h) (tcWays e) 5 l ++ [e] } }

/-- TCBUSY: a marked walk remains (11 R268). -/
def tcIdle (s : State) : State := { s with xl := { s.xl with tcBusy := s.xl.walks.any (·.marked) } }

/-- Invalidate what `p` covers and mark the walks it covers (11 R268). -/
def tcInvalidate (p : CtxId → W32 → Bool) (s : State) : State :=
  tcIdle { s with xl := { s.xl with
    cache := s.xl.cache.filter (fun e => !p e.ctx e.handle)
    walks := s.xl.walks.map (fun w => if p w.ctx w.handle then { w with marked := true } else w) } }

/-! ## The checks of a table entry (11 R259-R263) -/

/-- The rules of word 0 and word 1 that make an L2 entry malformed (11 R262 row 2). -/
def l2Malformed (x : Xl) : Bool :=
  let w := x.w0.toNat
  let v := x.w1.toNat
  let scope := fld w 51 3
  let comb := w.testBit 1
  fld w 54 10 != 0 || decide (4 < scope) || (scope != 0 && fld w 47 4 != 0) || (decide (1 < scope) && fld w 45 2 != 0) ||
    (comb && decide (scope < 3)) ||
    (comb && (fld v 48 16 != 0 || v.testBit 31 || decide (2 ^ 30 < fld v 0 31) || (scope != 4 && fld v 32 16 != 0)))

/-- The requester lies within the participants (11 R262 row 4). -/
def participates (x : Xl) (a : AgentId) : Bool :=
  let w := x.w0.toNat
  let scope := fld w 51 3
  let home := fld w 25 20
  let here := (dieOf a).toNat == home
  if scope = 0 then here && fld a.toNat 8 2 == fld w 45 2 && fld a.toNat 4 4 == fld w 47 4
  else if scope = 1 then here && fld a.toNat 8 2 == fld w 45 2
  else if scope = 2 then here
  else if scope = 3 then pkgOf (dieOf a) == home / 16
  else true

/-- The bit of RIGHTS an opcode needs (11 R261). -/
def rightOf (o : Byte) : Nat :=
  if o = opRead ∨ o = opWatch ∨ o = opUnwatch then 2
  else if o = opSignal ∨ o = opSet ∨ o = opCas ∨ o = opInvoke then 3
  else if o = opTake ∨ o = opGive then 4
  else if o = opArrive ∨ o = opArriveR then 5
  else if o = opArm then 6
  else 7

/-- The opcode whose right and route count: a QOP goes by its inner opcode. -/
def effOpcode (op : Op) : Byte := if op.opcode = opQop then qopInner op else op.opcode

/-- The last checks of 11 R262, and R263's on SHARE. -/
def useDenied (op : Op) (x : Xl) : Bool :=
  let e := effOpcode op
  (whoOf op).any (fun a => !participates x a) || !x.w0.getLsbD (rightOf e) ||
    ((e == opArrive || e == opArriveR) && xlComb x && shareOf x == 0)

/-! ## Arrivals at this die's combining record (06 R149) -/

/-- An arrival at the record of its handle. -/
def recArrive (op : Op) (x : Xl) (s : State) : State :=
  if blocked s (.record op.ctx op.handle) then hold (.record op.ctx op.handle) (.arrival op x) s
  else match recHome s x op with
    | some st => answerZ op st s
    | none =>
      let a := arrivalOf op
      let (st, s) := recAdmit x op a s
      if st = stOk then
        let s := recCount x op a s
        let (v, b, s) := recOperands x s
        answer op stOk v b s
      else if st = stKindReject ∨ st = stOverflow then
        let (v, b, s) := recOperands x s
        answer op st v b s
      else answerZ op st s

/-- An arrival whose translation has COMB = 1: at the record of its handle, or at its slot where the object is homed here
and its kind is combined by no Couch (04 R93, R94). The home resolves its slot to know. -/
def combArrive (op : Op) (x : Xl) (s : State) : State :=
  let n := xlSlot x
  if xlHome x ≠ myDie s then recArrive op x s
  else if fetching s n then hold (.slot n) (.arrival op x) s
  else match resolve n s with
    | (.fetch both, s) => hold (.slot n) (.arrival op x) (startFetch n both s)
    | (.lost, s) => slotOp op n s
    | (.ok fresh, s) =>
      let s := if fresh then bumpSeq n s else s
      if combines s x then recArrive op x s else slotOp op n s

/-! ## To another die -/

/-- The request flit of an operation as it was accepted (12 R281). -/
def opFlit (op : Op) : Flit :=
  let two := op.opcode == opArm || (op.opcode == opArriveR && decide (laneBytes (descOf op.b) > 32))
  { seq := op.seq, handle := op.handle, ctx := op.ctx, inc := op.inc, agent := op.agent, noresp := op.noresp
    more := two, a := op.a, b := op.b, payload := op.data.extractLsb' 0 256 }

/-- The continuation bytes of a burst. -/
def opCont (op : Op) : Option (BitVec 256) := if (opFlit op).more then some (op.data.extractLsb' 256 256) else none

/-- The OP frame of an operation. -/
def opBody (op : Op) (slot : Nat) : Body := .op op.opcode (opFlit op) (BitVec.ofNat 17 slot) (opCont op)

/-- Where an operation that translates to a home goes: to the taker of that die's role at the handle's scope
(13 R321). -/
def homeNow (s : State) (home : DieId) (h : W32) : DieId :=
  match s.couch.takers.find? (fun t => t.primary == home &&
      ((scopeOf h == 3 && t.role == 0) || (scopeOf h == 4 && t.role != 0))) with
  | some t => t.taker
  | none => home

/-- Forward an operation through Felt; a WATCH takes a MIRROR first (05 R122). -/
def forward (op : Op) (slot : Nat) (d : DieId) (s : State) : State :=
  let go := fun (s : State) =>
    sendFrame d (opBody op slot) { s with hb := { s.hb with remote := s.hb.remote ++ [op] } }
  if op.opcode = opWatch then
    if !entryFree s then answerZ op stRetry (countFull s)
    else go (allocEntry (.mirror (watchOf op slot) d none op) s).2
  else go s

/-- An operation whose translation may be used. -/
def routeOp (op : Op) (x : Xl) (s : State) : State :=
  if op.opcode = opQop then qopRecord op x s
  else if (op.opcode = opArrive ∨ op.opcode = opArriveR) ∧ xlComb x then combArrive op x s
  else
    let d := homeNow s (xlHome x) op.handle
    if d ≠ myDie s then forward op (xlSlot x) d s
    else if xlHome x ≠ myDie s ∧ (thirdAt s (xlSlot x)).isNone then answerZ op stBadHandle s
    else slotOp op (xlSlot x) s

/-! ## Outcomes of a translation -/

/-- Refuse an operation for its translation. -/
def xlRefuse (op : Op) (st : Status) (a : W64) (s : State) : State :=
  if op.opcode = opQop then qopRefuse op st a s else answer op st a 0 s

/-- Use a translation for what asked for it. -/
def useXl (j : PJob) (x : Xl) (s : State) : State := match j with
  | .op op =>
    if ctxState s op.ctx ≠ .live then xlRefuse op stDeckleGone 0 s
    else if op.opcode = opQop ∧ (qHeld s op).isNone then answerZ op stQuireAborted s
    else if useDenied op x then xlRefuse op stPerm 0 s
    else routeOp op x s
  | .report r src stage => reportArrive r src stage x s

/-- A translation ended in a refusal. -/
def failXl (j : PJob) (st : Status) (a : W64) (s : State) : State := match j with
  | .op op =>
    if ctxState s op.ctx ≠ .live then xlRefuse op stDeckleGone 0 s
    else if op.opcode = opQop ∧ (qHeld s op).isNone then answerZ op stQuireAborted s
    else xlRefuse op st a s
  | .report r src stage => reportFailed r src stage (if ctxState s r.ctx ≠ .live then stDeckleGone else st) s

/-- The walk of a job whose context a CLEAR has met meanwhile has ended (11 R269). -/
def goneXl (j : PJob) (s : State) : State := match j with
  | .op op => xlRefuse op stDeckleGone 0 s
  | .report r src stage => reportFailed r src stage stDeckleGone s

/-! ## Walks (11 R258, R264-R268) -/

/-- The context and handle a job waits for. -/
def jobHandle : PJob → CtxId × W32
  | .op op => (op.ctx, op.handle)
  | .report r _ _ => (r.ctx, r.handle)

/-- End the walk of a handle: everything that waits for it is served in order, each arrival as an event of its own. -/
def endWalk (c : CtxId) (h : W32) (f : PJob → State → State) (s : State) : State :=
  let mine := s.xl.parked.filter (fun p => p.ctx == c && p.handle == h)
  let s := tcIdle { s with xl := { s.xl with
    walks := s.xl.walks.filter (fun w => !(w.ctx == c && w.handle == h))
    parked := s.xl.parked.filter (fun p => !(p.ctx == c && p.handle == h)) } }
  mine.foldl (fun s p => enterAll (if p.gone then goneXl p.job s else f p.job s)) s

/-- Record a TRANS_FAULT or TRANS_DEVICE (11 R265, R266). -/
def recordTrans (dev : Bool) (c : CtxId) (h : W32) (addr : W64) (detail : Nat) (s : State) : State :=
  let s := logEvent (if dev then 0x0C else 0x0B) (some 0x03) (c.setWidth 32) (h.setWidth 64) addr s
  { s with xl := { s.xl with
    lastValid := true, lastDev := dev, lastDetail := BitVec.ofNat 3 detail, lastCtx := c, lastHandle := h, lastAddr := addr } }

/-- Operand A of a TRANS_FAULT or TRANS_DEVICE: address bits [63:3] and the detail (11 R264, R265). -/
def transA (addr : W64) (detail : Nat) : W64 := BitVec.ofNat 64 (addr.toNat / 8 * 8 + detail)

/-- A walk ends in TRANS_FAULT. -/
def faultWalk (c : CtxId) (h : W32) (addr : W64) (detail : Nat) (s : State) : State :=
  endWalk c h (fun j => failXl j stTransFault (transA addr detail)) (recordTrans false c h addr detail s)

/-- The lowest enabled window that holds the page of an address (11 R265). -/
def windowOf (s : State) (addr : W64) : Option Nat :=
  let page := addr.toNat / 4096
  (List.range 8).find? (fun i =>
    let w := s.xl.windows.getD i {}
    w.en && decide (w.base.toNat ≤ page) && decide (page ≤ w.limit.toNat))

/-- A walk ends in TRANS_DEVICE: a window holds its read's address (11 R265). -/
def deviceWalk (c : CtxId) (h : W32) (addr : W64) (i : Nat) (s : State) : State :=
  endWalk c h (fun j => failXl j stTransDevice (transA addr i)) (recordTrans true c h addr i s)

/-- Issue a walk read at an entry's address, unless a window holds it. -/
def walkRead (c : CtxId) (h : W32) (addr : W64) (l2 : Option W64) (s : State) : State :=
  match windowOf s addr with
  | some i => deviceWalk c h addr i s
  | none =>
    let s := { s with xl := { s.xl with walks := s.xl.walks.map (fun w =>
      if w.ctx = c ∧ w.handle = h then { w with l2, addr, marked := false } else w) } }
    let size : Nat := if l2.isSome then 64 else 32
    mempAsk { use := .walk c h, wr := false, size := if l2.isSome then 2 else 1
              addr := BitVec.ofNat 64 (addr.toNat / size * size) } s

/-- A walk at its L1 read (11 R258). -/
def walkL1 (c : CtxId) (h : W32) (s : State) : State :=
  let e := tgetD s.ctx.tab c.toNat {}
  let i := h.toNat % 2 ^ 28 / 256
  if e.l1len.toNat ≤ i then endWalk c h (fun j => failXl j stBadHandle 0) s
  else walkRead c h ((e.l1base ++ (0 : BitVec 12)) + BitVec.ofNat 64 (8 * i)) none s

/-- Start a walk (11 R267). -/
def walkStart (c : CtxId) (h : W32) (s : State) : State :=
  walkL1 c h { s with xl := { s.xl with walks := s.xl.walks ++ [{ ctx := c, handle := h }], misses := sat16 s.xl.misses } }

/-- Start the walk of the first waiting miss, if a walker is free (11 R267). -/
def walkNext (s : State) : State :=
  match s.xl.missq with
  | [] => s
  | (c, h) :: r => if 32 ≤ s.xl.walks.length then s else walkStart c h { s with xl := { s.xl with missq := r } }

/-- The 8 bytes at an address within a read block. -/
def wordAt (data : BitVec 512) (addr : W64) : W64 := data.extractLsb' (8 * (addr.toNat % 64)) 64

/-- A walk read ends (11 R258, R262-R264): `kind` 0 data, 1 error, 2 no response, 3 uncorrectable. -/
def walkGot (c : CtxId) (h : W32) (kind : Nat) (data : BitVec 512) (s : State) : State :=
  match s.xl.walks.find? (fun w => w.ctx == c && w.handle == h) with
  | none => s
  | some w =>
    let lvl := if w.l2.isSome then 4 else 0
    if w.marked then walkL1 c h { s with xl := { s.xl with
        walks := s.xl.walks.map (fun v => if v = w then { v with marked := false, l2 := none } else v) } } |> tcIdle
    else if kind = 1 then faultWalk c h w.addr lvl s
    else if kind = 2 then faultWalk c h w.addr (lvl + 1) s
    else if kind = 3 then faultWalk c h w.addr (lvl + 3) s
    else match w.l2 with
      | none =>
        let e := wordAt data w.addr
        if !e.getLsbD 0 then endWalk c h (fun j => failXl j stBadHandle 0) s
        else if fld e.toNat 1 11 ≠ 0 then faultWalk c h w.addr 2 s
        else walkRead c h (BitVec.ofNat 64 (e.toNat / 4096 * 4096 + 16 * (h.toNat % 256))) (some e) s
      | some _ =>
        let x : Xl := { w0 := wordAt data w.addr, w1 := wordAt data (w.addr + 8) }
        let x : Xl := if xlComb x then x else { x with w1 := 0 }
        if !x.w0.getLsbD 0 then endWalk c h (fun j => failXl j stBadHandle 0) s
        else if l2Malformed x then faultWalk c h w.addr 6 s
        else if fld x.w0.toNat 51 3 ≠ scopeOf h then endWalk c h (fun j => failXl j stBadHandle 0) s
        else endWalk c h (fun j => useXl j x) (tcFill c h x s)

/-! ## Translating -/

/-- Translate the handle of a job (11 R267): a hit is used at once; a miss parks, and starts a walk unless one runs or
others wait. -/
def translate (j : PJob) (s : State) : State :=
  let (c, h) := jobHandle j
  match tcFind s c h with
  | some x => useXl j x (tcTouch c h s)
  | none =>
    let under := s.xl.walks.any (fun w => w.ctx == c && w.handle == h) || s.xl.missq.contains (c, h)
    let s := { s with xl := { s.xl with parked := s.xl.parked ++ [{ ctx := c, handle := h, job := j }] } }
    if under then s
    else if 32 ≤ s.xl.walks.length ∨ !s.xl.missq.isEmpty then
      { s with xl := { s.xl with missq := s.xl.missq ++ [(c, h)] } }
    else walkStart c h s

end Sys2Proof.Machine
end

