-- ==== Sys2Proof/Machine/Agents.lean ====
section
/-! DEFINITION. Incarnations, MOVE and its stubs, agent reset, and the frames that keep watches and MIRRORs together
(02 R54-R59, 05 R131, R139-R144). -/

namespace Sys2Proof.Machine

/-- One up on an agent's incarnation (02 R54); its notification count restarts and its ticket hold empties
(02 R41, 09 R225). -/
def bumpInc (a : AgentId) (s : State) : State :=
  let i := localIx a
  { s with ag := { s.ag with
    inc := tput 0 s.ag.inc i (incOf s a + 1), notif := terase s.ag.notif i, hold := terase s.ag.hold i } }

/-- Free a watch of this die's object and tell the copy holders (05 R131, 13 R316). -/
def dropWatch (ix : Nat) (w : Watch) (s : State) : State :=
  let before := bytesAt s w.slot
  let s := bumpIf w.slot before (freeWatch ix w s)
  (shadowSend w.slot (seqAt s w.slot) (.watchFree (BitVec.ofNat 16 ix)) s).2

/-! ## MOVE (05 R139, R140) -/

/-- GS_AGENT_INC.PENDING of a local index (02 R58): a reset still discards and aborts. -/
def resetPending (s : State) (i : Nat) : Bool := decide (s.clk.cycle ≤ tgetD s.ag.pendUntil i 0 ∧ 0 < tgetD s.ag.pendUntil i 0)

/-- MOVE granted (05 R139, R140). -/
def moveOp (op : Op) (s : State) : State :=
  let x : AgentId := op.a.setWidth 30
  let y : AgentId := op.b.setWidth 30
  if op.agent ≠ y ∧ op.ctx ≠ 0 then answerZ op stPerm s
  else if s.ag.moves.any (fun m => m.x == x || m.x == y || m.y == x || m.y == y) ∨
      resetPending s (localIx x) ∨ resetPending s (localIx y) ∨ 64 ≤ (s.ag.stubs.filter (·.live)).length then answerZ op stRetry s
  else
    let m : Mv := { op, x, xi := incOf s x, y, yi := incOf s y, wait := [] }
    let s := bumpInc x s
    let s := { s with ag := { s.ag with
      moves := s.ag.moves ++ [m], stubs := s.ag.stubs ++ [{ x := m.x, xi := m.xi, y := m.y, yi := m.yi }] } }
    let s := (chainOf s x).foldl (fun s e => match e.2 with
      | .watch w => if w.tinc = m.xi then putEntry e.1 (.watch { w with target := y, tinc := m.yi }) s else s
      | .mirror w home (some idx) mop => if w.tinc = m.xi then retargetMirror m e.1 w home idx mop s else s
      | _ => s) s
    movesDone s

/-- A stub's lifetime ends (05 R141). -/
def stubExpire (a : AgentId) (i : Byte) (s : State) : State :=
  { s with ag := { s.ag with
    stubs := s.ag.stubs.map (fun b => if b.x = a ∧ b.xi = i ∧ b.live ∧ b.started then { b with live := false } else b) } }

/-! ## Agent reset (02 R59, 05 R144, 14 R350) -/

/-- Discard the open partial bursts of an agent, with no response (02 R59). -/
def dropBursts (i : Nat) (s : State) : State :=
  let n := (s.hb.bursts.filter (fun b => localIx b.f.agent == i)).length
  { s with hb := { s.hb with
    bursts := s.hb.bursts.filter (fun b => localIx b.f.agent != i), burstDiscard := min 0xFFFF (s.hb.burstDiscard + n) } }

/-- The recorded QOPs of the quires that an agent holds open. -/
def openQops (s : State) (i : Nat) : Nat :=
  s.qu.recs.foldl (fun n e => if e.2.state = .opened ∧ localIx e.2.agent = i then n + e.2.members.length else n) 0

/-- PENDING of an agent from this cycle to that of the last response its reset builds, at 4 per cycle from the cycle after
the next (02 R59; log entry 80). -/
def notePending (i : Nat) (s : State) : State :=
  { s with ag := { s.ag with pendUntil := tset s.ag.pendUntil i (s.clk.cycle + 1 + (openQops s i + 3) / 4) } }

/-- A write to GS_AGENT_RESET. -/
def agentReset (ix : BitVec 10) (s : State) : State :=
  let a : AgentId := myDie s ++ ix
  let i := ix.toNat
  let inc := incOf s a
  let s := notePending i s
  let s := dropBursts i (bumpInc a s)
  let s := abortAllOpen (fun r => localIx r.agent == i) 9 s
  let s := { s with res := { s.res with stuck := s.res.stuck.filter (fun e => !(e.1 == 0 && e.2 / 8 == i)) } }
  let s := { s with ag := { s.ag with
    depth := terase s.ag.depth i, pa := terase s.ag.pa i, resets := s.ag.resets ++ [{ agent := a, inc, wait := [] }] } }
  let s := (chainOf s a).foldl (fun s e => match e.2 with
    | .watch w => dropWatch e.1 w s
    | .mirror w home (some idx) _ => unwatchMirror a w.tinc e.1 home idx s
    | _ => s) s
  movesDone s

/-! ## Frames (05 R131, R140, R144) -/

/-- The entry of a home watch that a frame names by its home index: the watch itself, or on a taker the standby
entry that recorded the index (13 R316). -/
def homeWatch (s : State) (idx : BitVec 16) (p : Watch → Bool) : Option (Nat × Watch × (Watch → Entry)) :=
  match tget s.wt.entries idx.toNat with
  | some (.watch w) => if p w then some (idx.toNat, w, .watch) else none
  | _ => s.wt.entries.findSome? (fun e => match e.2 with
    | .standby w h i => if i = idx ∧ p w then some (e.1, w, fun w => .standby w h i) else none
    | _ => none)

/-- RETARGET at the home: rewrite a watch still aimed at the old incarnation, and acknowledge. -/
def retargetHere (src : DieId) (idx : BitVec 16) (oldInc newInc : Byte) (oldT newT : AgentId) (s : State) : State :=
  match homeWatch s idx (fun w => w.target == oldT && w.tinc == oldInc) with
  | some (ix, w, wrap) =>
    sendFrame src (.wack idx true false) (putEntry ix (wrap { w with target := newT, tinc := newInc }) s)
  | none => sendFrame src (.wack idx false false) s

/-- UNWATCH_RST at the home: free a watch aimed at the reset incarnation, and acknowledge. -/
def unwatchHere (src : DieId) (idx : BitVec 16) (oldInc : Byte) (t : AgentId) (s : State) : State :=
  match homeWatch s idx (fun w => w.target == t && w.tinc == oldInc) with
  | some (ix, w, _) => sendFrame src (.wack idx true true) (dropWatch ix w s)
  | none => sendFrame src (.wack idx false true) s

/-- An acknowledgement of either, or what 13 R324 treats as one; a taker acknowledges for the home it took over. -/
def wackHere (src : DieId) (idx : BitVec 16) (rst : Bool) (s : State) : State :=
  let gone := fun (w : List (DieId × BitVec 16)) =>
    if w.contains (src, idx) then dropFirst (· == (src, idx)) w
    else dropFirst (fun e => speaksFor s src e.1 && e.2 == idx) w
  let s := if rst then
      { s with ag := { s.ag with resets := s.ag.resets.map (fun r => { r with wait := gone r.wait }) } }
    else { s with ag := { s.ag with moves := s.ag.moves.map (fun m => { m with wait := gone m.wait }) } }
  movesDone s

/-- FREED at the target's die (05 R131). -/
def freedHere (src : DieId) (idx : BitVec 16) (s : State) : State := freeMirror src idx s

end Sys2Proof.Machine
end

