-- ==== Sys2Proof/Machine/Reel.lean ====
section
/-! DEFINITION. Reel: trace marks, their records and the ring (14 R345-R348). -/

namespace Sys2Proof.Machine

/-- Change the Reel's state. -/
def modReel (f : Reel → Reel) (s : State) : State := { s with reel := f s.reel }

/-- Records that the ring and the buffer hold between them. -/
def reelUsed (r : Reel) : Nat := (r.prod + BitVec.ofNat 32 r.buffer.length - r.cons).toNat

/-- Room in the ring for `k` more records. -/
def reelRoom (r : Reel) (k : Nat) : Bool := decide (reelUsed r + k ≤ 2 ^ r.logsize.toNat)

/-- PHASE of the next record built (10 R247). -/
def reelPhase (r : Reel) : Bool := ((r.prod + BitVec.ofNat 32 r.buffer.length).toNat / 2 ^ r.logsize.toNat) % 2 == 0

/-- FLAGS of a record (14 R346). -/
def reelFlags (r : Reel) (end_ unlocked : Bool) : Nat := bit end_ + 2 * bit unlocked + 128 * bit (reelPhase r)

/-- Put a record in the buffer; `body` is its bytes less FLAGS and SEQ. -/
def reelBuild (body : Nat) (end_ unlocked : Bool) (r : Reel) : Reel :=
  let n := body + 2 ^ 72 * reelFlags r end_ unlocked + 2 ^ 192 * (r.seq + 1).toNat
  { r with seq := r.seq + 1, buffer := r.buffer ++ [{ bytes := BitVec.ofNat 256 n }] }

/-- The MARK record of a TRACE_MARK (14 R346), less FLAGS and SEQ. -/
def markBody (s : State) (op : Op) : Nat :=
  (now s).toNat + 2 ^ 64 * 1 + 2 ^ 80 * op.ctx.toNat + 2 ^ 96 * op.agent.toNat + 2 ^ 128 * fld op.a.toNat 0 32
    + 2 ^ 160 * op.inc.toNat

/-- The LOST record (14 R346), less FLAGS and SEQ. -/
def lostBody (r : Reel) : Nat := r.lostFirst.toNat + 2 ^ 64 * 2 + 2 ^ 96 * r.lost + 2 ^ 128 * r.lostLast.toNat

/-- Drop a mark into the pending LOST state (14 R347). -/
def reelDrop (s : State) : State :=
  let t := now s
  modReel (fun r => { r with
    lost := satInc 0xFFFFFFFF r.lost, lostFirst := if r.lost = 0 then t else r.lostFirst, lostLast := t
    dropped := sat16 r.dropped }) s

/-- Read CONS when the cached value leaves no room, at most once per 256 GCLK (10 R240). -/
def reelCons (s : State) : State :=
  let r := s.reel
  let late := match r.consAt with
    | none => true
    | some c => decide (c + 256 ≤ s.clk.cycle)
  if r.consOut || !late then s
  else
    mempAsk { use := .reelCons, wr := false, size := 0, addr := r.consAddr ++ (0 : BitVec 2) }
      (modReel (fun r => { r with consOut := true, consAt := some s.clk.cycle }) s)

/-- Ring address of index `i`. -/
def reelAddr (r : Reel) (i : W32) : W64 := (r.base ++ (0 : BitVec 6)) + BitVec.ofNat 64 (32 * (i.toNat % 2 ^ r.logsize.toNat))

/-- Write the first `k` records of the buffer. -/
def reelWrite (k : Nat) (s : State) : State :=
  let r := s.reel
  let data := (r.buffer.take k).reverse.foldl (fun n b => n * 2 ^ 256 + b.bytes.toNat) 0
  mempAsk { use := .reel k, wr := true, size := if k = 2 then 2 else 1, addr := reelAddr r r.prod
            data := BitVec.ofNat 512 data }
    (modReel (fun r => { r with prod := r.prod + BitVec.ofNat 32 k, buffer := r.buffer.drop k }) s)

/-- Two ready records share one write where they share an aligned 64-byte block (14 R346, 19 R434). -/
def reelPair (s : State) : State :=
  if 2 ≤ s.reel.buffer.length ∧ s.reel.prod.getLsbD 0 = false then reelWrite 2 s else s

/-- Build the record of a mark, after the LOST record that drops left pending, or drop the mark (14 R347, R348). With
drops pending the mark needs room for two LOST records, so that it does not take the last slot (log entry 37). -/
def reelMark (op : Op) (s : State) : State :=
  let r := s.reel
  let k := if r.lost = 0 then 1 else 2
  if r.fault then reelDrop s
  else if !reelRoom r (k + 1) then reelCons (reelDrop s)
  else if 64 < r.buffer.length + k then reelDrop s
  else
    let unlocked := s.cal.st != .locked
    let r := if r.lost = 0 then r
      else { reelBuild (lostBody r) false unlocked r with lost := 0, lostFirst := 0, lostLast := 0 }
    reelPair (reelPair { s with reel := reelBuild (markBody s op) (op.a.getLsbD 32) unlocked r })

/-- The mark depth of an agent (14 R350). -/
def markDepth (op : Op) (s : State) : State :=
  let i := localIx op.agent
  let d := tgetD s.ag.depth i 0
  let d := if op.a.getLsbD 32 then d - 1 else satInc 15 d
  { s with ag := { s.ag with depth := tput 0 s.ag.depth i d } }

/-- TRACE_MARK granted (14 R345, R350). -/
def traceMark (op : Op) (s : State) : State :=
  let s := markDepth op s
  if !s.reel.en && !s.reel.closing then answerZ op stOk s
  else if !s.reel.allctx && op.ctx != s.reel.ctx then answerZ op stPerm s
  else answerZ op stOk (reelMark op s)

/-- A lone record is written after 16 GCLK (14 R346). -/
def reelFlush (s : State) : State := if s.reel.buffer.isEmpty then s else reelPair (reelWrite 1 s)

/-- A write of the Reel ends (14 R348). -/
def reelWriteDone (ok : Bool) (s : State) : State := if ok then s else modReel (fun r => { r with fault := true }) s

/-- A CONS read of the Reel ends; one that fails leaves the cached value. -/
def reelConsDone (ok : Bool) (v : W32) (s : State) : State :=
  modReel (fun r => if ok then { r with consOut := false, cons := v } else { r with consOut := false }) s

/-- EN becomes set (14 GS_REEL_CFG). -/
def reelOpen (v : W32) (s : State) : State :=
  modReel (fun r => { r with
    en := true, allctx := v.getLsbD 30, ctx := v.extractLsb' 16 12, logsize := v.extractLsb' 0 5
    prod := 0, seq := 0, cons := 0, lost := 0, lostFirst := 0, lostLast := 0 }) s

end Sys2Proof.Machine
end

