-- ==== Sys2Proof/Machine/Operands.lean ====
section
/-! DEFINITION. The operand forms and the header checks: reserved bits and values, fields that must agree, forbidden
combinations (02 R29-R38, R472; 05 R119, R124, R139; 07 R164-R167; 09 R213; 10 R241, R242; 19 R437). An offence is its
rank: bit k of the first flit is k, bit k of the continuation 512 + k, so that the lowest rank is operand A. -/

namespace Sys2Proof.Machine

/-- The lowest set bit of an `w`-bit field that must be zero, at rank `base`. -/
def mustZero (base w n : Nat) : List Nat :=
  match (List.range w).find? (fun i => n.testBit i) with
  | some i => [base + i]
  | none => []

/-- A rank when a rule is broken. -/
def offend (b : Bool) (k : Nat) : List Nat := if b then [k] else []

/-- The opcodes of 02 R32. -/
def opDefined (o : Byte) : Bool := decide (o.toNat ≤ 0x14)

/-- The opcodes whose HANDLE is zero (02 R34). -/
def handleZero (o : Byte) : Bool :=
  o == opNop || o == opMove || o == opQbegin || o == opQcommit || o == opQabort || o == opDisarm || o == opTraceMark

/-- The bits of operand A that an opcode uses (02 R34). -/
def maskA (o : Byte) : Nat :=
  if o = opSignal ∨ o = opSet ∨ o = opTake ∨ o = opGive ∨ o = opCas ∨ o = opWatch ∨ o = opArm then 2 ^ 64 - 1
  else if o = opArrive ∨ o = opArriveR then 2 ^ 32 - 1
  else if o = opUnwatch then 2 ^ 16 - 1
  else if o = opMove then 2 ^ 30 - 1
  else if o = opQbegin then 0x1F
  else if o = opQop then 0xFFF1FF
  else if o = opQcommit ∨ o = opQabort then 0x1FF
  else if o = opDisarm then 0x1FFF
  else if o = opInvoke then 0xFF
  else if o = opTraceMark then 2 ^ 33 - 1
  else 0

/-- The bits of operand B that an opcode uses (02 R34). -/
def maskB (o : Byte) : Nat :=
  if o = opTake then 1
  else if o = opArrive then 2 ^ 32 - 1
  else if o = opArriveR then 2 ^ 47 - 1
  else if o = opCas ∨ o = opInvoke then 2 ^ 64 - 1
  else if o = opWatch then 0x3FFFFFFFFFFFFF0F
  else if o = opMove then 2 ^ 30 - 1
  else if o = opArm then 0xF
  else 0

/-- The bits of a 64-bit operand that lie outside a mask. -/
def outside (m : Nat) (x : W64) : Nat := (x &&& ~~~ (BitVec.ofNat 64 m)).toNat

/-- The reserved bits of an operand block at bit `at_` (02 R34). -/
def operandOff (o : Byte) (at_ : Nat) (a b : W64) : List Nat :=
  mustZero at_ 64 (outside (maskA o) a) ++ mustZero (at_ + 64) 64 (outside (maskB o) b)

/-- Package and die of an agent operand that differ from the requester's (02 R472). -/
def dieOff (me x : AgentId) (at_ : Nat) : List Nat := mustZero (at_ + 10) 20 (dieOf me ^^^ dieOf x).toNat

/-- The condition and comparand of a WATCH or ARM (05 R124). -/
def condOff (at_ : Nat) (a b : W64) : List Nat :=
  let c := b.toNat % 8
  if c = 7 then [at_ + 64]
  else if c = 3 ∨ c = 4 then offend (a == 0) at_
  else if c = 5 then mustZero (at_ + 8) 56 (a.toNat / 2 ^ 8)
  else if c = 6 then mustZero (at_ + 32) 32 (a.toNat / 2 ^ 32)
  else []

/-- The weight of an arrival (02 R35). -/
def weightOff (at_ : Nat) (a : W64) : List Nat :=
  offend (a.toNat % 2 ^ 32 == 0 || decide (2 ^ 30 < a.toNat % 2 ^ 32)) at_

/-- The target die of a WATCH (05 R119). -/
def targetOff (me : AgentId) (at_ : Nat) (b : W64) : List Nat := dieOff me (b.extractLsb' 32 30) (at_ + 96)

/-- The inner opcodes of a QOP (02 R35). -/
def innerOk (o : Byte) : Bool :=
  o == opSignal || o == opSet || o == opTake || o == opGive || o == opArrive || o == opCas || o == opWatch

/-- A QOP's inner opcode and operand block (02 R35, 09 R213). -/
def innerOff (f : Flit) : List Nat :=
  let o : Byte := f.a.extractLsb' 16 8
  let a : W64 := f.payload.extractLsb' 0 64
  let b : W64 := f.payload.extractLsb' 64 64
  mustZero 384 128 (f.payload.toNat / 2 ^ 128) ++
    (if !innerOk o then [144]
    else operandOff o 256 a b ++ (if o = opArrive then weightOff 256 a else [])
      ++ (if o = opWatch then condOff 256 a b ++ targetOff f.agent 256 b else []))

/-- The agents of a MOVE (05 R139). -/
def moveOff (f : Flit) : List Nat :=
  let x : AgentId := f.a.setWidth 30
  let y : AgentId := f.b.setWidth 30
  dieOff f.agent x 128 ++ dieOff f.agent y 192 ++ offend (x == y) 192 ++ offend (x == f.agent) 128

/-- The rank of bit `k` of the burst data (02 R36). -/
def dataRank (k : Nat) : Nat := if k < 256 then 256 + k else 512 + 128 + (k - 256)

/-- The lowest set bit of `w` bits of burst data from bit `k` that must be zero. -/
def dataZero (k w n : Nat) : List Nat := (mustZero k w n).map dataRank

/-- The reduction fields and lanes of an ARRIVE_R (07 R164-R167): `n` the burst data sent. -/
def laneOff (b : W64) (n : Nat) : List Nat :=
  let d := descOf b
  if !redOpOk d.op then [224] ++ offend (laneW d.fmt).isNone 232
  else if (laneW d.fmt).isNone ∨ !redPairOk d.op d.fmt then [232]
  else
    let len := 8 * laneBytes d
    (if d.op = 0x0A ∨ d.op = 0x0B then
      (List.range (laneN d)).flatMap (fun i => dataZero (64 * i + 32) 32 (n / 2 ^ (64 * i + 32) % 2 ^ 32)) else [])
    ++ dataZero len (512 - len) (n / 2 ^ len)

/-- The descriptor of an ARM (10 R241, R242), as burst data. -/
def descOff (n : Nat) : List Nat :=
  let post := n.testBit 10
  let db := n.testBit 8
  let noq := n.testBit 12
  let amount := fld n 96 32
  dataZero 4 4 (fld n 4 4) ++ dataZero 13 3 (fld n 13 3) ++ dataZero 49 15 (fld n 49 15) ++
    dataZero 128 128 (fld n 128 128) ++ offend (noq && (db || !post)) 268 ++
    (if post then offend (amount == 0) 352
    else dataZero 11 1 (fld n 11 1) ++ dataZero 32 17 (fld n 32 17) ++ dataZero 96 32 amount) ++
    (if db then [] else dataZero 9 1 (fld n 9 1) ++ dataZero 64 32 (fld n 64 32))

/-- The operand rules of an opcode: `n` the burst data sent. -/
def fieldOff (o : Byte) (f : Flit) (n : Nat) : List Nat :=
  if o = opArrive then weightOff 128 f.a
  else if o = opArriveR then weightOff 128 f.a ++ laneOff f.b n
  else if o = opQbegin then offend (f.a.toNat % 32 == 0 || decide (16 < f.a.toNat % 32)) 128
  else if o = opQop then innerOff f
  else if o = opInvoke then offend (decide (0x40 ≤ f.a.toNat % 256)) 128
  else if o = opWatch then condOff 128 f.a f.b ++ targetOff f.agent 128 f.b
  else if o = opArm then condOff 128 f.a f.b ++ descOff n
  else if o = opMove then moveOff f
  else []

/-- The header bits that must be zero in any request flit (02 R29). -/
def headerOff (base : Nat) (f : Flit) : List Nat :=
  mustZero (base + 8) 6 f.status.toNat ++ mustZero (base + 14) 2 f.cls.toNat ++ offend f.fwd (base + 19) ++
    offend f.wm (base + 20) ++ mustZero (base + 21) 3 f.flagsRsvd.toNat ++ mustZero (base + 122) 6 f.rsvd.toNat

/-- A continuation alone (02 R29, R36). -/
def contOff (f : Flit) : List Nat :=
  headerOff 512 f ++ offend f.more (512 + 17) ++ mustZero (512 + 384) 128 (f.payload.toNat / 2 ^ 128)

/-- The request takes two flits; none where its length is undefined (02 R34, R38; 07 R164). -/
def needsBurst (o : Byte) (f : Flit) : Option Bool :=
  if o = opArm then some true
  else if o = opArriveR then
    match laneW (descOf f.b).fmt with
    | none => none
    | some w => some (decide (32 < laneN (descOf f.b) * w))
  else some false

/-- Burst data bytes 32-63: bytes 16-47 of the continuation (02 R36). -/
def contData (f : Flit) : BitVec 256 := (f.payload.setWidth 128 ++ f.b) ++ f.a

/-- Burst data bytes 0-63. -/
def burstData (f : Flit) (c : Option Flit) : BitVec 512 :=
  (match c with | some g => contData g | none => 0) ++ f.payload

/-- MORE does not match the request: a break of its burst (02 R38). -/
def moreWrong (o : Byte) (f : Flit) : Bool := (needsBurst o f).any (f.more != ·)

/-- The HANDLE of a request at bit `base` of its flit (02 R30, R34). -/
def handleOff (o : Byte) (base : Nat) (f : Flit) : List Nat :=
  if handleZero o then mustZero (base + 74) 32 f.handle.toNat else offend (decide (5 ≤ scopeOf f.handle)) (base + 102)

/-- A continuation that no first flit precedes: its HANDLE too is checked here (log entry 59). -/
def orphanOff (o : Byte) (f : Flit) : List Nat := contOff f ++ handleOff o 512 f

/-- Every offence of step 2 of 02 R44 in a request whole or in part: `wrong` when it came on another port than its
agent's. -/
def offences (o : Byte) (f : Flit) (c : Option Flit) (wrong : Bool) : List Nat :=
  headerOff 0 f ++ (match c with | some g => contOff g | none => []) ++ offend wrong 24 ++
    handleOff o 0 f ++
    operandOff o 128 f.a f.b ++
    (if o = opQop ∨ o = opArm ∨ o = opArriveR then [] else mustZero 256 256 f.payload.toNat) ++
    fieldOff o f (burstData f c).toNat

/-- The lowest offence. -/
def lowest (l : List Nat) : Option Nat := match l with
  | [] => none
  | k :: r => some (r.foldl min k)

/-- The header fields that a continuation repeats, each at its bit (02 R36). -/
def sameFields (o : Byte) (f : Flit) : Nat :=
  o.toNat + 2 ^ 24 * f.agent.toNat + 2 ^ 54 * f.inc.toNat + 2 ^ 62 * f.ctx.toNat + 2 ^ 74 * f.handle.toNat
    + 2 ^ 106 * f.seq.toNat

/-- The lowest header bit at which a continuation differs from its first flit. -/
def contDiff (o : Byte) (f : Flit) (p : Byte) (g : Flit) : Option Nat :=
  lowest (mustZero 0 128 (Nat.xor (sameFields o f) (sameFields p g)))

/-- Operand B of a WATCH, alone or inside a QOP (05 R120). -/
def watchB (o : Byte) (f : Flit) : Option W64 :=
  if o = opWatch then some f.b
  else if o = opQop ∧ f.a.extractLsb' 16 8 = opWatch then some (f.payload.extractLsb' 64 64)
  else none

/-- The operation a request makes, once it has passed its header checks. -/
def opOf (o : Byte) (f : Flit) (c : Option Flit) : Op :=
  { opcode := o, agent := f.agent, inc := f.inc, ctx := f.ctx, handle := f.handle, seq := f.seq, noresp := f.noresp
    a := f.a, b := f.b, data := burstData f c }

end Sys2Proof.Machine
end

