-- ==== Sys2Proof/Machine/Headbox.lean ====
section
/-! DEFINITION. The Headbox: acceptance, bursts, header checks, arbitration and grants (01 R17, R20; 02 R36-R39, R44,
R53; 06 R160-R162; 16 R397; 19 R433, R437). -/

namespace Sys2Proof.Machine

/-! ## Acceptance -/

/-- READY on the MESH ports (01 R20; 16 R376, R377; 18): in RUN, outside SLEEP and its entry and exit. -/
def meshReady (s : State) : Bool :=
  s.boot.phase == .run && s.pwr.st != .sleep && s.pwr.sleep == .none && !s.pwr.off && poolRoom s

/-! ## Header checks (02 R44 steps 1 to 7) -/

/-- The port of an agent (19 R437). -/
def portOf (s : State) (a : AgentId) : Nat := fld s.regp.meshMap.toNat (2 * localIx a) 2

/-- The flit came on another port than its agent's. -/
def wrongPort (s : State) (m : MeshFlit) : Bool := m.port.val != portOf s m.f.agent

/-- Steps 1 and 2 on a request, whole or its first flit alone. -/
def formCheck (s : State) (m : MeshFlit) : Option (Status × W64) :=
  if !opDefined m.opcode then some (stUndefOp, m.opcode.setWidth 64)
  else (lowest (offences m.opcode m.f m.cont (wrongPort s m))).map (fun k => (stRsvdNz, BitVec.ofNat 64 k))

/-- Step 3 (02 R53, 05 R120). -/
def incCheck (s : State) (m : MeshFlit) : Option (Status × W64) :=
  if m.f.inc ≠ incOf s m.f.agent then some (stStaleInc, (incOf s m.f.agent).setWidth 64)
  else match watchB m.opcode m.f with
    | some b =>
      let t : AgentId := b.extractLsb' 32 30
      if b.extractLsb' 8 8 ≠ incOf s t then some (stStaleInc, (incOf s t).setWidth 64) else none
    | none => none

/-- The header checks of a whole request. A MORE that does not match it is a break of step 4. -/
def headCheck (s : State) (m : MeshFlit) : Option (Status × W64) :=
  match formCheck s m with
  | some r => some r
  | none => match incCheck s m with
    | some r => some r
    | none =>
      if moreWrong m.opcode m.f then some (stRsvdNz, 17)
      else (stateGate s m.opcode m.f.ctx).map (fun st => (st, 0))

/-- A request takes its place in the order of responses (02 R47). -/
def noteFlit (m : MeshFlit) (s : State) : State :=
  noteOrder .mesh m.opcode m.f.agent m.f.inc m.f.ctx m.f.handle m.f.seq s

/-- Answer a request that the Headbox refuses; a QOP may end the quire that it names (09 R213, R214). -/
def refuseHead (m : MeshFlit) (r : Status × W64) (s : State) : State :=
  let op := opOf m.opcode m.f m.cont
  if m.opcode = opQop then qopRefuse op r.1 r.2 s else answer op r.1 r.2 0 s

/-- A whole request: refused, or in line for a grant (02 R46). -/
def enterPool (m : MeshFlit) (s : State) : State :=
  let s := noteFlit m s
  match headCheck s m with
  | some r => refuseHead m r s
  | none => { s with hb := { s.hb with waiting := s.hb.waiting ++ [{ m with since := s.hb.counted }] } }

/-! ## Bursts (02 R36-R38) -/

/-- Count a partial burst discarded. -/
def countDiscard (s : State) : State := { s with hb := { s.hb with burstDiscard := sat16 s.hb.burstDiscard } }

/-- The one answer to a discarded partial burst: its reserved bits and values first, then STALE_INC, then the break,
with the detail given (02 R38, R44). -/
def breakBurst (m : MeshFlit) (c : Option Flit) (detail : Nat) (s : State) : State :=
  let s := noteFlit m (countDiscard s)
  let bits := match c with
    | some g => lowest (contOff g)
    | none => none
  refuseHead m (match formCheck s m with
    | some r => r
    | none => match bits with
      | some k => (stRsvdNz, BitVec.ofNat 64 k)
      | none =>
        if m.f.inc ≠ incOf s m.f.agent then (stStaleInc, (incOf s m.f.agent).setWidth 64)
        else (stRsvdNz, BitVec.ofNat 64 detail)) s

/-- A continuation with no open burst on its port (02 R38). Every bit of it is marked as in a continuation. -/
def orphan (m : MeshFlit) (s : State) : State :=
  refuseHead m (
    if !opDefined m.opcode then (stUndefOp, m.opcode.setWidth 64)
    else match lowest (orphanOff m.opcode m.f ++ offend (wrongPort s m) (512 + 24)) with
      | some k => (stRsvdNz, BitVec.ofNat 64 k)
      | none =>
        if m.f.inc ≠ incOf s m.f.agent then (stStaleInc, (incOf s m.f.agent).setWidth 64)
        else (stRsvdNz, BitVec.ofNat 64 (512 + 16))) (noteFlit m s)

/-- The open burst of an agent. -/
def burstOf (s : State) (i : Nat) : Option MeshFlit := s.hb.bursts.find? (fun b => localIx b.f.agent == i)

/-- Close the open burst of an agent. -/
def closeBurst (i : Nat) (s : State) : State :=
  { s with hb := { s.hb with bursts := s.hb.bursts.filter (fun b => localIx b.f.agent != i) } }

/-- A continuation flit (02 R36, R38). -/
def acceptCont (m : MeshFlit) (s : State) : State :=
  let i := localIx m.f.agent
  match burstOf s i with
  | some b =>
    if b.port ≠ m.port then orphan m s
    else
      let s := closeBurst i s
      match contDiff b.opcode b.f m.opcode m.f with
      | some k => breakBurst b (some m.f) (512 + k) s
      | none => enterPool { b with cont := some m.f } s
  | none => orphan m s

/-- A flit that is no continuation: it breaks an open burst of its agent, and may open one. -/
def acceptFirst (m : MeshFlit) (s : State) : State :=
  let i := localIx m.f.agent
  let s := match burstOf s i with
    | some b => breakBurst b none 17 (closeBurst i s)
    | none => s
  if m.f.more && needsBurst m.opcode m.f != some false then { s with hb := { s.hb with bursts := s.hb.bursts ++ [m] } }
  else enterPool m s

/-- A flit accepted on its port. -/
def acceptFlit (m : MeshFlit) (s : State) : State := if m.f.cont then acceptCont m s else acceptFirst m s

/-- No continuation within 1,024 GCLK (02 R38). -/
def burstTimeout (a : AgentId) (s : State) : State :=
  match burstOf s (localIx a) with
  | some b => breakBurst b none 17 (closeBurst (localIx a) s)
  | none => s

/-- A flit offered on a port: it stays there until accepted (19 R433). -/
def offer (m : MeshFlit) (s : State) : State := { s with hb := { s.hb with ports := s.hb.ports ++ [m] } }

/-- Leave DOZE (16 R375): a HEARTBEAT reports ACTIVE (12 R298). -/
def wakeDoze (s : State) : State :=
  if s.pwr.st = .doze then beatAll { s with pwr := { s.pwr with st := .active } } else s

/-- Accept the first flit of a port, if READY (19 R433); a flit wakes the die from DOZE (16 R375). -/
def acceptPort (s : State) (p : Nat) : State :=
  match s.hb.ports.find? (fun m => m.port.val == p) with
  | none => s
  | some m =>
    if meshReady s then
      acceptFlit m (wakeDoze { s with hb := { s.hb with ports := dropFirst (fun f => f.port.val == p) s.hb.ports } })
    else s

/-- One cycle's acceptances. -/
def acceptPorts (s : State) : State := (List.range 4).foldl acceptPort s

/-! ## Granted requests -/

/-- DISARM (10 R249). -/
def disarmOp (op : Op) (s : State) : State :=
  let k := op.a.toNat % 8192
  match tget s.la.descs k with
  | none => answerZ op stBadHandle s
  | some d =>
    if !descArmed s k then answerZ op stBadHandle s
    else if op.ctx ≠ 0 ∧ d.ctx ≠ op.ctx then answerZ op stPerm s
    else
      let before := bytesAt s d.slot
      disarmDesc k (some op) (bumpIf d.slot before (unlink d.slot d.entry s))

/-- QOP granted (09 R211, R213): its quire and position, then its translation. -/
def qopGrant (op : Op) (s : State) : State :=
  match qHeld s op with
  | none => answerZ op stQuireAborted s
  | some (_, r) => match qopPosition op r with
    | some a => qopRefuse op stRsvdNz a s
    | none => translate (.op op) s

/-- A granted request that needs no translation. -/
def carryBare (op : Op) (s : State) : State :=
  if op.opcode = opMove then moveOp op s
  else if op.opcode = opQbegin then qbegin op s
  else if op.opcode = opQcommit then qcommit op s
  else if op.opcode = opQabort then qabort op s
  else if op.opcode = opDisarm then disarmOp op s
  else if op.opcode = opTraceMark then traceMark op s
  else answerZ op stOk s

/-- A granted request on its way. The arrivals of this cycle granted before it enter their slots first, except where it is
translated: then only those at its own slot do (06 R147). -/
def carryOut (op : Op) (s : State) : State :=
  if op.opcode = opQop then qopGrant op s
  else if handleZero op.opcode then carryBare op (enterAll s)
  else translate (.op op) s

/-! ## Grants (06 R160-R162, 16 R397) -/

/-- Grants of the last 256 cycles. -/
def windowNow (s : State) : List Nat := s.hb.window.filter (fun c => decide (s.clk.cycle < c + 256))

/-- The Headbox may grant: in RUN, awake, the notification buffer not full, MAXOPS not reached. -/
def canGrant (s : State) : Bool :=
  s.boot.phase == .run && !s.pwr.off && s.pwr.st != .sleep && decide (notifWaiting s < 256) &&
    decide ((windowNow s).length < s.pwr.maxops.toNat)

/-- Count a grant (14 R349; 16 R397). -/
def noteGrant (s : State) : State :=
  bumpAon 0x00 { s with hb := { s.hb with window := windowNow s ++ [s.clk.cycle], granted := s.hb.granted + 1 } }

/-- Two ARRIVE_R have been granted in this cycle: the reduction datapath accepts no more (01 R19). -/
def capped (s : State) (opcode : Byte) : Bool := opcode == opArriveR && decide (2 ≤ s.hb.grantedR)

/-- The agents that have a flit waiting for a grant. One whose oldest flit is an ARRIVE_R beyond the two of this cycle waits
at the Headbox as if it had none (01 R19; log entry 82). -/
def activeAgents (s : State) : List Nat :=
  (s.hb.waiting.map (fun m => localIx m.f.agent)).eraseDups.filter (fun i =>
    !(s.hb.waiting.find? (fun m => localIx m.f.agent == i)).any (fun m => capped s m.opcode))

/-- LINK has an operation that may be granted in this cycle. -/
def linkReady (s : State) : Bool := match s.hb.link with
  | [] => false
  | .felt op _ :: _ => !capped s op.opcode
  | .step op :: _ => !capped s op.opcode
  | _ => true

/-- The next of the candidates after a pointer, cyclically among `n`. -/
def nextAfter (ptr n : Nat) (c : List Nat) : Option Nat := ((List.range n).map (fun i => (ptr + 1 + i) % n)).find? c.contains

/-- Start a round (06 R160). -/
def startRound (s : State) : State :=
  { s with hb := { s.hb with
    rounds := sat16 s.hb.rounds, arb := { s.hb.arb with credit := activeAgents s, linkD := 32 } } }

/-- Agents with D = 1 and a waiting flit. -/
def eligible (s : State) : List Nat := (activeAgents s).filter (fun i => s.hb.arb.credit.contains i)

/-- The children of the die arbiter that a slot may go to. -/
def dieChildren (s : State) : List Nat :=
  (eligible s).map (fun i => i / 256) ++ (if decide (0 < s.hb.arb.linkD) && linkReady s then [4] else [])

/-- The agent that region `x` grants, and the pointers after. -/
def pickAgent (s : State) (x : Nat) : Option (Nat × Arb) :=
  let b := s.hb.arb
  let mine := (eligible s).filter (fun i => i / 256 == x)
  match nextAfter (b.ptrRegion.getD x 15) 16 (mine.map (fun i => i / 16 % 16)) with
  | none => none
  | some c =>
    let r := x * 16 + c
    match nextAfter (tgetD b.ptrCluster r 15) 16 ((mine.filter (fun i => i / 16 == r)).map (· % 16)) with
    | none => none
    | some u => some (r * 16 + u, { b with
        ptrDie := x, ptrRegion := b.ptrRegion.set x c, ptrCluster := tput 15 b.ptrCluster r u
        credit := b.credit.filter (· != r * 16 + u) })

/-- An ARRIVE_R granted: it takes one of the two places of the reduction datapath (01 R19) and the time that keys its inputs
(07 R177). The frame of one that another die granted does not carry that time, which is a free value here (log entry
30). -/
def stampTime (op : Op) (s : State) : Op × State :=
  if op.opcode ≠ opArriveR then (op, s)
  else
    let s := { s with hb := { s.hb with grantedR := s.hb.grantedR + 1 } }
    match op.src with
    | .felt _ =>
      let (t, s) := unstated s
      ({ op with time := t }, s)
    | _ => ({ op with time := now s }, s)

/-- A request granted on MESH: the waits of 06 R162, the context's count (14 R352), the checks that the wait may have
changed (log entry 39), and the request itself. -/
def grantMesh (m : MeshFlit) (s : State) : State :=
  let wait := s.hb.counted - m.since
  let rest := dropFirst (· == m) s.hb.waiting
  let i := localIx m.f.agent
  let waiting := match rest.find? (fun r => localIx r.f.agent == i) with
    | some n => rest.map (fun r => if r = n then { r with since := max r.since s.hb.counted } else r)
    | none => rest
  let s := { s with hb := { s.hb with waiting, maxWait := min 0xFFFF (max s.hb.maxWait wait) } }
  let s := modCtxCnt m.f.ctx (fun c => { c with ops := c.ops + 1 }) (noteGrant s)
  match stateGate s m.opcode m.f.ctx with
  | some st => refuseHead m (st, 0) s
  | none =>
    let (op, s) := stampTime (opOf m.opcode m.f m.cont) s
    carryOut op s

/-- The post-operation of a descriptor, and the end of its launch (10 R246). -/
def postGrant (k : Nat) (s : State) : State :=
  match tget s.la.descs k with
  | none => s
  | some d => endLaunch k (fun l => l.desc == k && l.stage == .post) (slotOp (postOf d k) d.postSlot s)

/-- A LINK operation granted (06 R160). -/
def grantLink (s : State) : State :=
  match s.hb.link with
  | [] => s
  | l :: r =>
    let s := noteGrant { s with hb := { s.hb with
      link := r, arb := { s.hb.arb with ptrDie := 4, linkD := s.hb.arb.linkD - 1 } } }
    match l with
    | .felt op n =>
      let (op, s) := stampTime op s
      slotOp op n s
    | .step op => match stateGate s op.opcode op.ctx with
      | some st => answerZ op st s
      | none =>
        let (op, s) := stampTime op s
        carryOut op s
    | .quire key pos => quirePass key pos s
    | .post k => postGrant k s

/-- Serve one slot by the rounds of 06 R160. Where nothing waits that may be granted, no round starts (log entry 83). -/
def serveSlot (s : State) : State :=
  if (activeAgents s).isEmpty && !linkReady s then s
  else
    let s := if (dieChildren s).isEmpty then startRound s else s
    match nextAfter s.hb.arb.ptrDie 5 (dieChildren s) with
    | none => s
    | some x =>
      if x = 4 then grantLink s
      else match pickAgent s x with
        | none => s
        | some (i, arb) => match s.hb.waiting.find? (fun m => localIx m.f.agent == i) with
          | none => s
          | some m => grantMesh m { s with hb := { s.hb with arb } }

/-- A chained INVOKE takes slot 0 (04 R109, 06 R161). -/
def grantChain (s : State) : State :=
  match s.hb.chains with
  | [] => s
  | c :: r => chainOp c (noteGrant { s with hb := { s.hb with chains := r, slot0 := true } })

/-- A REGP command takes slot 0 (03 R76, 08 R208). -/
def grantReg (s : State) : State :=
  match s.hb.regq with
  | [] => s
  | c :: r =>
    let s := noteGrant { s with hb := { s.hb with regq := r, slot0 := true } }
    match c with
    | .obj c => runObjCmd c (enterAll s)
    | .wm c => runWmCmd c (enterAll s)

/-- One grant slot of this cycle: slot 0 goes first to a chained INVOKE that waited when the cycle began (`chain`),
then to a REGP command (06 R161). -/
def grantSlot (chain : Bool) (s : State) : State :=
  if !canGrant s ∨ 4 ≤ s.hb.granted then s
  else if !s.hb.slot0 ∧ s.hb.granted = 0 ∧ chain ∧ !s.hb.chains.isEmpty then grantChain s
  else if !s.hb.slot0 ∧ s.hb.granted = 0 ∧ !s.hb.regq.isEmpty then grantReg s
  else serveSlot s

/-- A counted cycle (06 R162). -/
def countCycle (s : State) : State :=
  if canGrant s && !s.pwr.halted && !s.res.fatal && s.pwr.st != .brace
  then { s with hb := { s.hb with counted := s.hb.counted + 1 } } else s

/-- The four grant slots of a cycle (06 R161). -/
def grantCycle (chain : Bool) (s : State) : State :=
  enterAll ((List.range 4).foldl (fun s _ => grantSlot chain s) (countCycle s))

/-! ## Operations held on a lock or a fetch (09 R222, 13 R307) -/

/-- Restart one held job: it was granted before. -/
def runJob (j : Job) (s : State) : State := match j with
  | .op o n => slotAgain o n s
  | .arrival o x => combArrive o x s
  | .report r src stage x => reportArrive r src stage x s
  | .cmd c => runObjCmd c s
  | .wm c => runWmCmd c s
  | .chain c => chainOp c s

/-- What keeps operations off a target, other than those that wait for it. -/
def targetBusy (s : State) (t : Target) : Bool :=
  (lockOn s t).isSome || (match t with
    | .slot n => fetching s n
    | .record _ _ => false)

/-- Restart the first job held on a target, ahead of the others held on it. -/
def restartOn (t : Target) (s : State) : State :=
  match s.qu.held.find? (fun h => h.target == t) with
  | none => s
  | some h =>
    let mine := dropFirst (fun g => g.target == t) (s.qu.held.filter (fun g => g.target == t))
    let s := enterAll <| runJob h.job { s with qu := { s.qu with held := s.qu.held.filter (fun g => g.target != t) } }
    { s with qu := { s.qu with held := s.qu.held ++ mine } }

/-- LOCKED_OP_RESTART: the oldest held job whose target is free. -/
def restartHeld (s : State) : State :=
  match s.qu.held.find? (fun h => !targetBusy s h.target) with
  | none => s
  | some h => restartOn h.target s

end Sys2Proof.Machine
end

