-- ==== Sys2Proof/Machine/Shadow.lean ====
section
/-! DEFINITION. Third copies: SHADOW_UPD at a holder and at the home, and the fetch of a third copy
(13 R304-R307, R314-R317, R325). -/

namespace Sys2Proof.Machine

/-! ## At a holder (13 R315-R317) -/

/-- The third copy that slot `n` holds for a home. -/
def thirdOf (s : State) (n : Nat) (home : DieId) : Option Third :=
  match thirdAt s n with
  | some t => if t.home = home then some t else none
  | none => none

/-- The sequence `q` has been reached by `own`, in the half range (13 R304). -/
def reached (own q : BitVec 16) : Bool := decide ((own - q).toNat < 2 ^ 15)

/-- Raise the copy's sequence to the frame's if that is ahead. -/
def catchUp (n : Nat) (q : BitVec 16) (s : State) : State :=
  if reached (seqAt s n) q then s
  else
    let x := slotAt s n
    putSlot n { x with a := { x.a with seq := q }, b := { x.b with seq := q } } s

/-- A change replayed on the copy (13 R316). -/
def replay (n : Nat) (q : BitVec 16) (f : State → State) (s : State) : State :=
  let before := bytesAt s n
  catchUp n q (bumpIf n before (f s))

/-- 256 bits that the spec does not state (log entry 30). -/
def unstated256 (s : State) : BitVec 256 × State :=
  let (a, s) := unstated s
  let (b, s) := unstated s
  let (c, s) := unstated s
  let (d, s) := unstated s
  (((a ++ b) ++ c) ++ d, s)

/-- CREATE at a holder (13 R314, R315). The image in a CONFLICT answer is not stated. -/
def thirdCreate (src : DieId) (n : Nat) (q : BitVec 16) (counting : Bool) (w : Image) (s : State) : State :=
  if (objAt s n).kind ≠ 0 ∨ (slotAt s n).lost then
    let s := logEvent 0x10 none (BitVec.ofNat 32 n) ((myDie s).setWidth 64) 0 s
    let (img, s) := unstated256 s
    sendFrame src (.shadow (BitVec.ofNat 17 n) q (.copy false true img)) s
  else
    let o := unpackObj w
    let s := putSlot n { a := { obj := o, seq := q }, b := { obj := o, seq := q } } s
    { s with vat := { s.vat with third := tset s.vat.third n { home := src, counting } } }

/-- Free the standby entries of a copy. -/
def freeStandby (n : Nat) (s : State) : State := (listAt s n).foldl (fun s ix => unlink n ix s) s

/-- DESTROY at a holder. -/
def thirdDestroy (n : Nat) (s : State) : State :=
  let s := clearSlot n (freeStandby n s)
  { s with vat := { s.vat with third := terase s.vat.third n, owed := s.vat.owed.filter (fun o => o.slot != n) } }

/-- SET at a holder. -/
def thirdSet (n : Nat) (v : W64) (s : State) : State :=
  let s := readSlot n s
  let o := objAt s n
  let r := kindStep (liveKinds s) o [] { opcode := opSet, agent := 0, ctx := 0, a := v } none
  if r.status = stOk then putObj n r.obj s else s

/-- WATCH_ADD at a holder: a WATCH entry in standby. -/
def thirdWatch (src : DieId) (n : Nat) (idx : BitVec 16) (w : Watch) (s : State) : State :=
  if !entryFree s then s
  else
    let (ix, s) := allocEntry (.standby w src idx) s
    linkTail n ix s

/-- WATCH_FREE at a holder. -/
def thirdUnwatch (n : Nat) (idx : BitVec 16) (s : State) : State :=
  (listAt s n).foldl (fun s ix => match tget s.wt.entries ix with
    | some (.standby _ _ i) => if i = idx then unlink n ix s else s
    | _ => s) s

/-- Answer a FETCH with the copy as it stands. A LOST copy is no answer (13 R306, R307). -/
def sendCopy (n : Nat) (home : DieId) (s : State) : State :=
  let s := readSlot n s
  let c := (thirdAt s n).any (·.counting)
  let s := { s with vat := { s.vat with owed := s.vat.owed.filter (fun o => !(o.slot == n && o.home == home)) } }
  if (slotAt s n).lost then s
  else sendFrame home (.shadow (BitVec.ofNat 17 n) (seqAt s n) (.copy c false (packObj (objAt s n) (wheadAt s n)))) s

/-- FETCH at a holder (13 R307): answered once the copy has caught up. -/
def thirdFetch (src : DieId) (n : Nat) (q : BitVec 16) (s : State) : State :=
  let s := { s with vat := { s.vat with owed := s.vat.owed ++ [{ slot := n, home := src, seq := q }] } }
  if reached (seqAt s n) q then sendCopy n src s else s

/-- Answer the FETCHes whose sequence the copies have reached. -/
def payOwed (s : State) : State :=
  s.vat.owed.foldl (fun s o => if reached (seqAt s o.slot) o.seq then sendCopy o.slot o.home s else s) s

/-- 4,000 GCLK after a FETCH arrived its answer goes out (13 R307). -/
def copyTimeout (n : Nat) (s : State) : State :=
  s.vat.owed.foldl (fun s o => if o.slot = n then sendCopy n o.home s else s) s

/-! ## At the home (13 R305-R307, R315) -/

/-- Restart every job held on a slot (13 R307). -/
def restartSlot (n : Nat) (s : State) : State :=
  (List.range (s.qu.held.filter (fun h => h.target == .slot n)).length).foldl
    (fun s _ => if targetBusy s (.slot n) then s else restartOn (.slot n) s) s

/-- A COPY answer: sender, sequence, COUNTING, image. -/
abbrev CopyAns := DieId × BitVec 16 × Bool × Image

/-- The copy a home uses (13 R307): the one that counts; of two that count the later, the package role's shadow's at
equal sequences; of none the package role's shadow's. -/
def chooseCopy (s : State) (l : List CopyAns) : Option CopyAns :=
  let pk : CopyAns → Bool := fun c => (pkgHosts s (myPkg s)).drop 1 == [c.1]
  let best := fun (l : List CopyAns) => match l.find? pk with
    | some c => some c
    | none => l.head?
  match l.filter (fun c => c.2.2.1) with
  | [] => best l
  | [c] => some c
  | c :: d :: _ =>
    if c.2.1 = d.2.1 then best [c, d] else if reached c.2.1 d.2.1 then some c else some d

/-- End the fetch of a slot with the answers received. -/
def endFetch (n : Nat) (s : State) : State :=
  match s.vat.fetch.find? (fun f => f.slot == n) with
  | none => s
  | some f =>
    let s := { s with vat := { s.vat with fetch := s.vat.fetch.filter (fun g => g.slot != n) } }
    let x := slotAt s n
    let sub := BitVec.ofNat 32 n
    let s := match chooseCopy s f.got with
      | none => if f.both then markLost n s else bumpSeq n (markDiverged n s)
      | some (_, q, _, w) =>
        if f.both then
          let o := { unpackObj w with wmark := s.wm.recs.any (fun e => e.2.slot == n) }
          writeBoth n o q (logEvent 0x02 none sub 1 0 s)
        else
          let s := logEvent 0x04 none sub (x.a.seq.setWidth 64) (q.setWidth 64) s
          writeBoth n (threeWay x.a.obj x.b.obj (unpackObj w)) x.a.seq
            { s with res := { s.res with cmpThree := sat16 s.res.cmpThree } }
    restartSlot n s

/-- End a fetch once every holder has answered. -/
def fetchDone (n : Nat) (s : State) : State :=
  match s.vat.fetch.find? (fun f => f.slot == n) with
  | none => s
  | some f => if f.from_.all (fun d => f.got.any (fun c => c.1 == d)) then endFetch n s else s

/-- A COPY at the home. -/
def homeCopy (src : DieId) (n : Nat) (q : BitVec 16) (counting conflict : Bool) (w : Image) (s : State) : State :=
  if conflict then
    let before := bytesAt s n
    let s := bumpIf n before (modObj n (fun o => { o with shadow := false }) s)
    fetchDone n { s with vat := { s.vat with
      holders := terase s.vat.holders n
      fetch := s.vat.fetch.map (fun f => if f.slot = n then { f with from_ := f.got.map (·.1) } else f) } }
  else
    fetchDone n { s with vat := { s.vat with fetch := s.vat.fetch.map (fun f =>
      if f.slot = n ∧ f.from_.contains src ∧ !f.got.any (fun c => c.1 == src)
      then { f with got := f.got ++ [(src, q, counting, w)] } else f) } }

/-! ## The frame -/

/-- A SHADOW_UPD taken in (13 R317). -/
def shadowRx (src : DieId) (slot : BitVec 17) (q : BitVec 16) (sub : ShadowSub) (s : State) : State :=
  let n := slot.toNat
  match sub with
  | .create c w => thirdCreate src n q c w s
  | .copy c k w => homeCopy src n q c k w s
  | sub =>
    if (thirdOf s n src).isNone then s
    else match sub with
      | .destroy => thirdDestroy n s
      | .set v => replay n q (thirdSet n v) s
      | .watchAdd idx cmp cond tinc cookie target ctx handle =>
        let w : Watch := { slot := n, cond := cond.setWidth 4, comparand := cmp, target, tinc, cookie, ctx, handle
                           ref := firstRef (cond.setWidth 4) cmp }
        replay n q (thirdWatch src n idx w) s
      | .watchFree idx => replay n q (thirdUnwatch n idx) s
      | _ => thirdFetch src n q s

/-! ## Acknowledgement of SHADOW_UPD (13 R316, R325) -/

/-- A frame has been acknowledged: the responses that waited for it alone are sent. -/
def ackFid (fid : Nat) (s : State) : State :=
  let all := s.vat.heldResp.map (fun h => { h with fids := h.fids.filter (· != fid) })
  let s := coordAcked fid <| homesAcked fid { s with vat := { s.vat with heldResp := all.filter (fun h => !h.fids.isEmpty) } }
  (all.filter (fun h => h.fids.isEmpty)).foldl (fun s h => answerD h.op h.out.status h.out.a h.out.b h.out.data s) s

/-- The role that a die shadows for this one, as byte 32 of 13 R320. -/
def roleShadowed (s : State) (d : DieId) : W64 :=
  if (pkgHosts s (myPkg s)).drop 1 = [d] then 0
  else match (rolesHere s).find? (fun r => !r.shadow) with
    | some r => BitVec.ofNat 64 r.role
    | none => 0

/-- A copy holder is lost (13 R325). -/
def holderLost (d : DieId) (s : State) : State :=
  if !s.vat.holders.any (fun e => e.2.contains d) then s
  else
    let s := logEvent 0x0F none (d.setWidth 32) (roleShadowed s d) 0
      { s with
        vat := { s.vat with
          lostHolders := (s.vat.lostHolders ++ [d]).eraseDups
          holders := (s.vat.holders.map (fun e => (e.1, e.2.filter (· != d)))).filter (fun e => !e.2.isEmpty)
          fetch := s.vat.fetch.map (fun f => { f with from_ := f.from_.filter (· != d) }) }
        res := { s.res with noShadow := true } }
    s.vat.fetch.foldl (fun s f => fetchDone f.slot s) s

end Sys2Proof.Machine
end

