-- ==== Sys2Proof/Machine/Takeover.lean ====
section
/-! DEFINITION. Role failover: takeover, TAKEOVER frames, stepping down, and frames handed back PEER_DOWN
(13 R318-R326). -/

namespace Sys2Proof.Machine

/-! ## Which roles -/

/-- Change the Couch's state. -/
def modCouch (f : Couch → Couch) (s : State) : State := { s with couch := f s.couch }

/-- The package role of this package has primary `p` and this die as shadow, and is not taken. -/
def shadowsPkgOf (s : State) (p : DieId) : Bool := (pkgHosts s (myPkg s)) == [p, myDie s] && !servesPkg s

/-- The relay and root roles with primary `p` that this die shadows and has not taken. -/
def shadowedRoles (s : State) (p : DieId) : List RoleDef :=
  (rolesHere s).filter (fun r => r.shadow && pkgDieOf s r.package == p && !servesRole s r)

/-- The dies of the package-role hosts of some packages. -/
def hostsOfPkgs (s : State) (l : List Nat) : List DieId := (l.map (pkgHosts s)).flatten

/-! ## Resending (13 R319 steps 6 and 7) -/

/-- Send again the release of a completed epoch. -/
def resendDone (e : Completed) (s : State) : State :=
  let d : Done := { epoch := e.epoch, lanes := e.lanes, word := e.word, data := e.data, down := true }
  match e.slot with
  | some _ => releaseFromObj e.ctx e.handle d none s
  | none =>
    if e.relay then match relayDef s e.pkg with
      | some q => releaseKids q e.ctx e.handle d none s
      | none => s
    else toDies (dmaskDies s e.x) (releaseBody e.ctx e.handle d) (releaseHere e.ctx e.handle d false) s

/-- Serve from the records counted as shadow of a package's role: those complete report upward. -/
def wakeRecords (relay : Bool) (p : Nat) (s : State) : State :=
  let mine := s.couch.roles.filter (fun r => r.relay == relay && r.pkg == p && r.shadow)
  let s := modCouch (fun c => { c with
    roles := c.roles.map (fun r => if r.relay = relay ∧ r.pkg = p then { r with shadow := false } else r) }) s
  mine.foldl (fun s r =>
    if relay then match relayDef s p with
      | some d => relayUp d r.ctx r.handle s
      | none => s
    else pkgUp r.ctx r.handle s) s

/-- Make live every third copy of a die's objects, and test their standby watches as at registration
(13 R319 steps 4 and 5); each joins its OWNER's chain (20 R453). -/
def wakeCopies (p : DieId) (s : State) : State :=
  let mine := s.vat.third.filter (fun e => e.2.home == p && !e.2.live)
  let s := { s with vat := { s.vat with
    third := s.vat.third.map (fun e => if e.2.home = p then (e.1, { e.2 with live := true }) else e) } }
  mine.foldl (fun s e =>
    let before := bytesAt s e.1
    let s := (listAt s e.1).foldl (fun s ix => match tget s.wt.entries ix with
      | some (.standby w h i) => (testWatch ix { w with held := false } (fun w => .standby w h i) (objAt s e.1) s).2
      | _ => s) s
    chainJoin (objAt s e.1).owner e.1 (bumpIf e.1 before s)) s

/-! ## Takeover (13 R319) -/

/-- Take one role over, its TAKEOVER frames first: steps 1 and 2. -/
def takeRole (role : Nat) (p : DieId) (members : List DieId) (s : State) : State :=
  let b : Byte := BitVec.ofNat 8 role
  let s := modCouch (fun c => { c with
    taken := true, takers := c.takers ++ [{ role := b, primary := p, taker := myDie s }] }) s
  let s := beatAll (bumpAon 0x12 { s with res := { s.res with takeovers := satInc 255 s.res.takeovers } })
  let s := logEvent 0x0E none (p.setWidth 32) (b.setWidth 64) 0 s
  ((members ++ [p]).eraseDups.filter (· != myDie s)).foldl (fun s d => sendFrame d (.takeover b p (now s)) s) s

/-- The rest of a takeover: steps 3 to 7. -/
def finishTake (relay : Bool) (p : DieId) (s : State) : State :=
  let s := wakeCopies p (coordTakeover s)
  let mine := s.couch.done.filter (fun e => match e.slot with
    | some n => (thirdAt s n).any (fun t => t.home == p) && (scopeOf e.handle == 4) == relay
    | none => e.relay == relay && e.pkg == pkgOf p)
  wakeRecords relay (pkgOf p) (mine.foldl (fun s e => resendDone e s) s)

/-- The stream to a die has gone DOWN: this die takes over the roles it shadows for it. -/
def takeover (p : DieId) (s : State) : State :=
  let s := if shadowsPkgOf s p then
      finishTake false p (takeRole 0 p ((pkgDies s).filter (· != myDie s)) s)
    else s
  (shadowedRoles s p).foldl (fun s r =>
    finishTake true p (takeRole r.role p (hostsOfPkgs s (r.package :: r.children)) s)) s

/-! ## Frames handed back (13 R324) -/

/-- The operation of hb.remote that an OP frame carries. -/
def remoteOf (s : State) (o : Byte) (f : Flit) : Option Op :=
  s.hb.remote.find? (fun op => op.opcode == o && op.agent == f.agent && op.inc == f.inc && op.ctx == f.ctx
    && op.handle == f.handle && op.seq == f.seq)

/-- The MIRROR that an operation's WATCH waits on. -/
def mirrorOf (s : State) (op : Op) : Option Nat :=
  (s.wt.entries.find? (fun e => match e.2 with
    | .mirror _ _ none o => o == op
    | _ => false)).map (·.1)

/-- Drop an operation forwarded elsewhere and its MIRROR. -/
def dropRemote (op : Op) (s : State) : State :=
  let s := match mirrorOf s op with
    | some ix => freeEntry ix s
    | none => s
  { s with hb := { s.hb with remote := dropFirst (· == op) s.hb.remote } }

/-- Answer RETRY to the operation of an OP frame (12 R297, 13 R324). -/
def retryRemote (o : Byte) (f : Flit) (s : State) : State :=
  match remoteOf s o f with
  | some op => movesDone (answerZ op stRetry (dropRemote op s))
  | none => s

/-- Where a frame for a failed die goes once its roles are taken (13 R321). -/
def takerFor (s : State) (d : DieId) : Body → Option DieId
  | .op _ f _ _ => let t := homeNow s d f.handle; if t = d then none else some t
  | .retarget .. => (s.couch.takers.find? (fun t => t.primary == d)).map (·.taker)
  | _ => none

/-- A MIRROR follows its object to the taker of its home's role. -/
def mirrorHome (d t : DieId) (op : Op) (s : State) : State :=
  { s with wt := { s.wt with entries := s.wt.entries.map (fun e => match e.2 with
    | .mirror w h none o => if h = d ∧ o = op then (e.1, .mirror w t none o) else e
    | _ => e) } }

/-- Send a frame on to the taker. -/
def sendTaker (d t : DieId) (b : Body) (s : State) : State :=
  let s := match b with
    | .op o f _ _ => match remoteOf s o f with
      | some op => mirrorHome d t op s
      | none => s
    | _ => s
  sendFrame t b s

/-- One frame handed back marked PEER_DOWN. FWMSG is `bounce`'s. -/
def returnedFrame (bounce : Body → State → State) (f : TxFrame) (s : State) : State :=
  let park := fun (s : State) => match takerFor s f.dst f.body with
    | some t => sendTaker f.dst t f.body s
    | none => { s with felt := { s.felt with peerHeld := s.felt.peerHeld ++ [(f.dst, f)] } }
  match f.body with
  | .op .. => park s
  | .retarget .. => park s
  | .unwatchRst idx .. => wackHere f.dst idx true s
  | .shadow .. => ackFid f.fid s
  | .fwmsg .. => bounce f.body s
  | _ => s

/-- With no TAKEOVER within 4,000 GCLK (13 R324). -/
def holdTimeout (d : DieId) (s : State) : State :=
  let mine := s.felt.peerHeld.filter (fun h => h.1 == d)
  mine.foldl (fun s h => match h.2.body with
    | .op o f _ _ => retryRemote o f s
    | .retarget idx .. => wackHere d idx false s
    | _ => s) { s with felt := { s.felt with peerHeld := s.felt.peerHeld.filter (fun h => h.1 != d) } }

/-! ## TAKEOVER received (13 R321, R326) -/

/-- This die leaves a role to its taker (13 R326). -/
def stepDown (role : Byte) (taker : DieId) (s : State) : State :=
  let me := myDie s
  if s.couch.steppedDown.any (fun x => x.2 == me && (x.1 == 0) == (role == 0)) then s
  else
    let s := modCouch (fun c =>
      let c : Couch := { c with
        steppedDown := c.steppedDown ++ [(role, me)]
        takers := c.takers ++ [{ role, primary := me, taker }] }
      if role = 0 then { c with pkgP := false }
      else if role = 3 then { c with sysP := false } else { c with rlyP := false }) s
    logEvent 0x0F none (taker.setWidth 32) (role.setWidth 64) 0 s

/-- The shadow host of a role of `p`: it alone may take that role (13 R318). Where this die's table does not name the partner
of that package, the host is a free value (log entry 27). -/
def takerOf (s : State) (role : Byte) (p : DieId) : Option DieId :=
  if role = 0 then (pkgHosts s (pkgOf p))[1]? else (relayHosts s (pkgOf p))[1]?

/-- A sender that 13 R318 lets name itself the taker. -/
def takerAllowed (s : State) (role : Byte) (p src : DieId) : Bool := takerOf s role p == some src

/-- A TAKEOVER taken in. A member that learns of a taker tells the former primary while its stream to that die is UP
(13 R326, Case; log entry 41). -/
def takeoverRx (src : DieId) (role : Byte) (p : DieId) (time : W64) (s : State) : State :=
  if p = myDie s then
    match takerOf s role p with
    | some t =>
      let mine := role == 0 || (rolesHere s).any (fun r => !r.shadow && r.role == role.toNat)
      let gone := s.couch.steppedDown.any (fun x => x.2 == p && (x.1 == 0) == (role == 0))
      if mine && !gone then stepDown role t (bumpAon 0x12 s) else s
    | none => s
  else if !takerAllowed s role p src then s
  else
    if s.couch.takers.any (fun t => t.role == role && t.primary == p) then s
    else
      let s := bumpAon 0x12 s
      let s := logEvent 0x0E none (p.setWidth 32) (role.setWidth 64) 0
        (modCouch (fun c => { c with takers := c.takers ++ [{ role, primary := p, taker := src }] }) s)
      let s := if (streamTo s p).any (fun t => t.st == .up) then sendFrame p (.takeover role p time) s else s
      let go := s.felt.peerHeld.filter (fun h => h.1 == p && (takerFor s p h.2.body).isSome)
      let s := { s with felt := { s.felt with peerHeld := s.felt.peerHeld.filter (fun h => !go.contains h) } }
      go.foldl (fun s h => match takerFor s p h.2.body with
        | some t => sendTaker p t h.2.body s
        | none => s) s

/-- TAKEN in a HEARTBEAT of the die that shadows a role of this one (13 R326). -/
def takenSeen (src : DieId) (s : State) : State :=
  let me := myDie s
  let s := if pkgHosts s (myPkg s) = [me, src] ∧ servesPkg s then stepDown 0 src s else s
  match (rolesHere s).find? (fun r => !r.shadow && servesRole s r) with
  | some r => if relayHosts s r.package = [me, src] then stepDown (BitVec.ofNat 8 r.role) src s else s
  | none => s

/-- A frame of a role that another die has taken from its sender (13 R326): its releases and refusals downward, its reports
upward, its quire decisions, and what it tells the holder of a copy that the taker has made live. -/
def staleRole (s : State) (src : DieId) (b : Body) : Bool :=
  let taken := fun (relay : Bool) =>
    s.couch.takers.any (fun t => t.primary == src && t.taker != src && (t.role != 0) == relay)
  let byScope := fun (h : W32) => if scopeOf h = 3 ∨ pkgOf src = myPkg s then taken false else taken true
  match b with
  | .release h .. => byScope h
  | .refusal h .. => byScope h
  | .report h c e w d parts =>
    let r : Rep := { handle := h, ctx := c, epoch := e, weight := w, desc := d, parts }
    scopeOf h == 4 && src != myDie s &&
      (if pkgOf src = myPkg s then
        s.boot.topo.packages == 1 && taken false && kidCounted s false (myPkg s) c h e (src.toNat % 16)
      else taken true && (roleTarget s (pkgOf src) 1 r).any (fun q => q.package != pkgOf src))
  | .shadow slot .. => (thirdAt s slot.toNat).any (fun t => t.live && t.home == src)
  | .qdecide k .. => if pkgOf k.die = pkgOf src ∧ pkgOf src = myPkg s then taken false else taken true
  | _ => false

end Sys2Proof.Machine
end

