-- ==== Sys2Proof/Machine/Calender.lean ====
section
/-! DEFINITION. The Calender: REFCLK edges, time exchange, fitting, slewing, PPS (14 R334-R344). -/

namespace Sys2Proof.Machine

/-- Change the Calender's state. -/
def modCal (f : Calender → Calender) (s : State) : State := { s with cal := f s.cal }

/-- Nanosecond eighths in one second. -/
def second : Nat := 8000000000

/-- STATE as GS_CAL_STAT shows it (14 R336). -/
def calCode : CalState → BitVec 2
  | .free => 0 | .coarse => 1 | .fit => 2 | .locked => 3

/-- The parent in the time tree (14 R335); none for the grandmaster, which is the die that hosts the root role (log entry
85). -/
def parentDie (s : State) : Option DieId :=
  let t := s.boot.topo
  let me := myDie s
  let rootTaker := s.couch.takers.find? (fun k => k.role == 3)
  if rootTaker.any (fun k => k.taker == me) then none
  else if servesPkg s then
    if t.tier = 3 then
      rootTaker.map (·.taker)
    else (hostsNow s true [pkgDieOf s t.parent]).head?
  else
    match (hostsNow s false (pkgHosts s (myPkg s))).head? with
    | some d => if d = me then none else some d
    | none => none

/-- ROOT of GS_CAL_STAT. -/
def isRoot (s : State) : Bool := (parentDie s).isNone

/-! ## REFCLK (14 R334, R341) -/

/-- The sign of what is still to be slewed. -/
def slewStep (z : Int) : Int := if 0 < z then 1 else if z < 0 then -1 else 0

/-- SLEW applies at one edge in 25, in FIT and LOCKED, but not from SLEEP until the first group after it (14 R341, R342). -/
def slewNow (s : State) : Int :=
  if s.cal.edges % 25 = 24 ∧ (s.cal.st = .fit ∨ s.cal.st = .locked) ∧ s.pwr.st ≠ .sleep ∧ !s.cal.slewHeld then slewStep s.cal.toSlew else 0

/-- One rising edge of REFCLK. -/
def refclkEdge (s : State) : State :=
  let k := slewNow s
  let v : Int := s.cal.time.toNat * 2 ^ 32 + s.cal.frac.toNat + 320 * 2 ^ 32 + s.cal.rate.toInt + k * 2 ^ 32
  let n := (v % 2 ^ 96).toNat
  modCal (fun c => { c with
    time := BitVec.ofNat 64 (n / 2 ^ 32), frac := BitVec.ofNat 32 n, p := 0, edges := c.edges + 1
    toSlew := c.toSlew - k }) s

/-! ## Offsets (14 R338-R341) -/

/-- θ as GS_CAL_OFFSET shows it, saturating. -/
def satOffset (z : Int) : W32 := BitVec.ofInt 32 (max (-(2 ^ 31)) (min (2 ^ 31 - 1) z))

/-- What a measured θ does in FIT and LOCKED (14 R341). -/
def slewTo (z : Int) (s : State) : State :=
  let s := modCal (fun c => { c with toSlew := z, slewHeld := false }) s
  if s.cal.st = .locked ∧ 8000 < z.natAbs then
    assertSource 0x07 (modCal (fun c => { c with alarm := true }) s)
  else s

/-- Move TIME by `z` units; the 500 ms that follow an accepted PPS_IN edge (14 R344) are not moved. -/
def stepTime (z : Int) (s : State) : State :=
  modCal (fun c => { c with
    time := c.time + BitVec.ofInt 64 z, ppsLast := c.ppsLast.map (· + BitVec.ofInt 64 z) }) s

/-- A group's θ (14 R339, R341, R342). -/
def groupDone (z : Int) (s : State) : State :=
  let s := modCal (fun c => { c with offset := satOffset z, hold := false, group := [] }) s
  match s.cal.st with
  | .free => modCal (fun c => { c with st := .coarse }) (stepTime z s)
  | .coarse => s
  | _ => slewTo z s

/-- θ of the exchange with the smallest δ. -/
def bestOf (l : List (Int × Int)) : Int :=
  match l with
  | [] => 0
  | x :: r => (r.foldl (fun b y => if y.2 < b.2 then y else b) x).1

/-- A RESP taken in, received at `t4` (14 R338-R340). Half a unit of θ or δ rounds down (log entry 40). -/
def tsyncResp (src : DieId) (xn : Byte) (st : BitVec 2) (t1 t2 t3 : W64) (s : State) : State :=
  let t4 := now s
  if parentDie s ≠ some src ∨ xn ≠ s.cal.xn ∨ s.cal.sentT1 ≠ some t1 then s
  else
    let asym : Int := if pkgOf src = myPkg s then s.cal.asymD2d.toInt else s.cal.asymEth.toInt
    let a := (t2 - t1).toInt
    let b := (t4 - t3).toInt
    let th := (a - b - asym) / 2
    let de := (a + b) / 2
    let s := modCal (fun c => { c with sentT1 := none, parentLocked := st == 3 }) s
    let s := if s.cal.st = .coarse ∧ st = 3 ∧ !isRoot s
      then modCal (fun c => { c with st := .fit, points := [], window := none }) s else s
    let s := if s.cal.st = .fit then
        modCal (fun c => { c with window := match c.window with
          | some (wt, wd, wx) => if de < wd then some (th, de, t4) else some (wt, wd, wx)
          | none => some (th, de, t4) }) s
      else s
    if s.cal.st = .free ∧ st = 0 then s
    else
      let s := modCal (fun c => { c with group := c.group ++ [(th, de)] }) s
      if 10 ≤ s.cal.group.length then groupDone (bestOf s.cal.group) s else s

/-- A REQ taken in: answered at once (14 R338). -/
def tsyncReq (src : DieId) (xn : Byte) (t1 : W64) (s : State) : State :=
  sendUnseq src (.tsyncResp xn (calCode s.cal.st) t1 (now s) (now s)) s

/-- Every 100 µs a REQ goes to the parent (14 R338), but not in holdover while the stream is DOWN or in SLEEP
(R342). -/
def tsyncInterval (s : State) : State :=
  match parentDie s with
  | none => s
  | some d =>
    if s.pwr.st = .sleep then s
    else match streamTo s d with
      | some t =>
        if t.st ≠ .up then s
        else
          let x := s.cal.xn + 1
          let t1 := now s
          sendUnseq d (.tsyncReq x t1) (modCal (fun c => { c with xn := x, sentT1 := some t1 }) s)
      | none => s

/-! ## The fit (14 R340) -/

/-- A quotient rounded to the nearest integer, halves away from zero (log entry 40). -/
def roundDiv (n d : Int) : Int :=
  let m := (2 * n.natAbs + d.natAbs) / (2 * d.natAbs)
  if (n < 0) == (d < 0) then m else -m

/-- RATE from the points: the slope of θ against TIME times 320 × 2^32, clamped (14 R340); none where the points give
no slope. -/
def fitRate (l : List (Int × W64)) : Option (W32 × Bool) :=
  match l with
  | [] => none
  | p0 :: _ =>
    let pts := l.map (fun p => ((p.2 - p0.2).toInt, p.1))
    let n : Int := pts.length
    let sx := pts.foldl (fun a p => a + p.1) 0
    let sy := pts.foldl (fun a p => a + p.2) 0
    let sxx := pts.foldl (fun a p => a + p.1 * p.1) 0
    let sxy := pts.foldl (fun a p => a + p.1 * p.2) 0
    let den := n * sxx - sx * sx
    if den = 0 then none
    else
      let r := roundDiv ((n * sxy - sx * sy) * (320 * 2 ^ 32)) den
      let k := max (-(2 ^ 31)) (min (2 ^ 31 - 1) r)
      some (BitVec.ofInt 32 k, r != k)

/-- End of FIT: RATE is set and the die is LOCKED. A fit without a slope leaves RATE unstated (log entry 30). -/
def fitLock (s : State) : State :=
  let (rate, clamp, s) : W32 × Bool × State := match fitRate s.cal.points with
    | some (r, c) => (r, c, s)
    | none => let (v, s) := unstated s; (v.setWidth 32, false, s)
  modCal (fun c => { c with
    rate, range := c.range || clamp, st := .locked, points := [], window := none, cmdBusy := false }) s

/-- Every 100 ms of FIT the best exchange of the window becomes a point. -/
def fitPoint (s : State) : State :=
  if s.cal.st ≠ .fit ∨ isRoot s then s
  else match s.cal.window with
    | some (th, _, t) => modCal (fun c => { c with points := c.points ++ [(th, t)], window := none }) s
    | none => s

/-- After 10 s of FIT. A grandmaster that aligns to PPS_IN ends its fit at the tenth edge instead (14 R339). -/
def fitEnd (s : State) : State := if s.cal.st ≠ .fit ∨ (isRoot s ∧ s.cal.ppsAlign) then s else fitLock s

/-! ## PPS (14 R339, R341, R344) -/

/-- The signed distance from a time to the nearest whole second. -/
def toSecond (t : W64) : Int :=
  let r := t.toNat % second
  if r * 2 ≤ second then -(r : Int) else (second : Int) - r

/-- The distance from a time up to a multiple of a second. -/
def upSecond (t : W64) : Int := ((second - t.toNat % second) % second : Nat)

/-- What a PPS_IN edge does on a grandmaster with PPS_ALIGN = 1. -/
def ppsAlign (t : W64) (s : State) : State :=
  match s.cal.st with
  | .coarse => modCal (fun c => { c with st := .fit, points := [] }) (stepTime (upSecond t) s)
  | .free => s
  | .fit =>
    let s := modCal (fun c => { c with points := c.points ++ [(toSecond t, t)] }) (slewTo (toSecond t) s)
    if 10 ≤ s.cal.points.length then fitLock s else s
  | .locked => slewTo (toSecond t) s

/-- An edge within 500 ms of the previous accepted one (14 R344). -/
def ppsEarly (s : State) : Bool := match s.cal.ppsLast with
  | some l => decide ((now s - l).toNat < second / 2)
  | none => false

/-- An accepted rising edge of PPS_IN (14 R344). -/
def ppsIn (s : State) : State :=
  let t := now s
  let s := modCal (fun c => { c with ppsTime := t, ppsLast := some t, pps := true }) s
  if s.cal.ppsAlign && isRoot s then ppsAlign t s else s

/-- TIME reaches a multiple of 8 × 10^9 (14 R344). -/
def ppsOutRise (s : State) : State := if s.cal.ppsoEn then { s with pins := { s.pins with ppsOut := true } } else s

/-- 100 µs later PPS_OUT falls. -/
def ppsOutFall (s : State) : State := { s with pins := { s.pins with ppsOut := false } }

/-! ## Holdover and REFIT -/

/-- The stream to the parent has gone DOWN (14 R342). -/
def calHold (d : DieId) (parent : Option DieId) (s : State) : State :=
  if parent = some d then modCal (fun c => { c with hold := true, group := [], sentT1 := none }) s else s

/-- REFIT in GS_CAL_CMD. -/
def refit (s : State) : State :=
  if s.cal.cmdBusy then s
  else if s.cal.st ≠ .locked then modCal (fun c => { c with cmdErr := 1 }) s
  else modCal (fun c => { c with st := .fit, points := [], window := none, cmdBusy := true, cmdErr := 0 }) s

/-- The state the Calender takes when start-up has loaded its role (14 R339). -/
def calStart (s : State) : State :=
  if s.cal.st = .free ∧ isRoot s then modCal (fun c => { c with st := if c.ppsAlign then .coarse else .locked }) s else s

end Sys2Proof.Machine
end

