-- ==== Sys2Proof/Machine/Power.lean ====
section
/-! DEFINITION. Halt, BRACE, DOZE, SLEEP, the wake latches and the bubble rounds (12 R298-R303; 15 R370; 16 R372-R386,
R393-R398; 17 R405, R406; 20 R451, R455). -/

namespace Sys2Proof.Machine

/-- Change the power unit's state. -/
def modPwr (f : Power → Power) (s : State) : State := { s with pwr := f s.pwr }

/-- Change the pins. -/
def modPins (f : Pins → Pins) (s : State) : State := { s with pins := f s.pins }

/-- Write the power state; a HEARTBEAT reports the change (12 R298). -/
def setPower (p : PwrState) (s : State) : State :=
  if s.pwr.st = p then s else beatAll (modPwr (fun w => { w with st := p }) s)

/-! ## Edge latches (15 R370) -/

/-- A qualifying edge at the latch of a source. In SLEEP the latch counts it, and starts the exit where WAKE is set;
`always`: whatever WAKE holds (16 R377). -/
def latchEdge (n : Nat) (always : Bool) (s : State) : State :=
  if s.pwr.st = .sleep then
    let r := irqGet s n
    let s := irqPut s n { r with latch := satInc 255 r.latch }
    if always ∨ r.wake then modPwr (fun p => { p with wake := true }) s else s
  else assertSource n (wakeDoze s)

/-- Hand one latch's count to its source. -/
def latchHand (n : Nat) (s : State) : State :=
  let r := irqGet s n
  if r.latch = 0 then s
  else irqPut s n { r with latch := 0, pending := true, count := min 255 (r.count + r.latch) }

/-- GCLK has returned: the latches hand over. -/
def latchAll (s : State) : State := [0x20, 0x21, 0x22, 0x23].foldl (fun s n => latchHand n s) s

/-! ## Halt (12 R303; 16 R384-R386) -/

/-- Start the copies of HALT on one stream. To a peer in SLEEP a WAKE goes first, and its copies wait. -/
def haltTo (b : Body) (t : Stream) (s : State) : State :=
  if t.peerPower = 2 then
    modStream t.peer (fun u => { u with haltCopies := u.haltCopies ++ [(4, b)] }) (sendUnseq t.peer .wake s)
  else
    modStream t.peer (fun u => { u with haltCopies := u.haltCopies ++ [(3, b)] }) (sendUnseq t.peer b s)

/-- HALT on every D2D stream and every UP Ethernet stream, but not back to its sender. -/
def spreadHalt (b : Body) (from_ : Option DieId) (s : State) : State :=
  (s.felt.streams.filter (fun t => (!t.eth || t.st == .up) && some t.peer != from_)).foldl (fun s t => haltTo b t s) s

/-- The next copy of each HALT that a stream still owes. -/
def haltCopy (d : DieId) (s : State) : State :=
  match streamTo s d with
  | none => s
  | some t =>
    if t.peerPower = 2 ∨ t.haltCopies.isEmpty then s
    else
      let s := t.haltCopies.foldl (fun s c => sendUnseq d c.2 s) (wakeDoze s)
      modStream d (fun u => { u with
        haltCopies := (t.haltCopies.map (fun c => (c.1 - 1, c.2))).filter (fun c => c.1 != 0) }) s

/-- Halt, or relay a HALT to a die that is halted already. -/
def haltNow (origin : DieId) (cause : Byte) (time : W64) (from_ : Option DieId) (s : State) : State :=
  let s := { s with felt := { s.felt with
    halts := (s.felt.halts ++ [(origin, time)]).drop (s.felt.halts.length + 1 - 16) } }
  let s := modPins (fun p => { p with haltOut := true }) s
  let s := spreadHalt (.halt origin cause time) from_ s
  if s.pwr.halted then s
  else
    let s := modPwr (fun p => { p with halted := true, hcause := cause }) s
    let s := logEvent 0x14 none (origin.setWidth 32) (cause.setWidth 64) 0 s
    beatAll (abortAllOpen (fun _ => true) 0xD s)

/-- A cause of this die's own. From SLEEP the halt follows the exit; a pin asserts HALT_OUT at once. -/
def haltOwn (cause : Byte) (pin : Bool) (s : State) : State :=
  if s.pwr.st = .sleep then
    modPins (fun p => { p with haltOut := p.haltOut || pin })
      (modPwr (fun p => { p with wake := true, haltOwed := if p.haltOwed.isNone then some cause else p.haltOwed }) s)
  else if s.pwr.halted then s
  else
    let s := wakeDoze s
    haltNow (myDie s) cause (now s) none s

/-- A HALT frame acted on unless its pair is remembered. -/
def haltRx (src origin : DieId) (cause : Byte) (time : W64) (s : State) : State :=
  if s.felt.halts.contains (origin, time) then s else haltNow origin cause time (some src) s

/-- Falling edge of COOLANT_LOSS_N. -/
def coolantLoss (s : State) : State :=
  haltOwn 1 true (latchEdge 0x20 true (modPins (fun p => { p with coolantLossN := false }) s))

/-- Rising edge of HALT_IN. -/
def haltIn (s : State) : State := haltOwn 2 true (latchEdge 0x21 true s)

/-! ## BRACE (16 R379-R383) -/

/-- The first cycle of BRACE: step 1. -/
def braceBegin (s : State) : State :=
  let s := modPwr (fun p => { p with
    bracePrev := p.st, braceTime := now s, bphase := .bracing, braceOwed := false
    braceAborts := 0, braceCommits := 0, braceAborts3 := 0 }) s
  setPower .brace s

/-- Step 2 of BRACE: quires held open end, at most 4 in a cycle, in ascending quire ID. -/
def braceGo (s : State) : State :=
  if s.pwr.bphase ≠ .bracing then s
  else ((s.qu.recs.filter (fun e => e.2.state == .opened)).take 4).foldl (fun s e => abortOpen e.1 e.2 0xC s) s

/-- PWR_WARN recognised as asserted (R379; 17 R400). -/
def pwrWarnAssert (s : State) : State :=
  if s.pwr.warnDeb then s
  else
    let s := latchEdge 0x22 true (modPwr (fun p => { p with warnDeb := true }) s)
    if s.sec.st = .virgin then s
    else if s.pwr.bphase ≠ .none then modPwr (fun p => { p with warns := satInc 255 p.warns }) s
    else if s.pwr.st = .sleep then modPwr (fun p => { p with braceOwed := true }) s
    else braceBegin s

/-- A launcher request to MEMP. -/
def mempLauncher (r : MReq) : Bool := match r.use with
  | .entry .. => true
  | .doorbell .. => true
  | .cons .. => true
  | _ => false

/-- Step 3 of R380 has ended. -/
def braceDrained (s : State) : Bool :=
  s.qu.recs.isEmpty && s.qu.locks.isEmpty && s.qu.coords.isEmpty &&
    !s.memp.outst.any (fun e => mempLauncher e.2)

/-- GS_RES_STAT.DIVERGED: objects that are DIVERGED. -/
def divergedCount (s : State) : Nat := (s.vat.slots.filter (fun e => e.2.a.obj.diverged)).length

/-- Descriptors with PEND above 0. -/
def pendDescs (s : State) : Nat := (s.la.descs.filter (fun d => decide (0 < d.2.pend))).length

/-- The summary (R382). -/
def braceSummary (s : State) : BitVec 512 :=
  let p := s.pwr
  BitVec.ofNat 512 (p.braceTime.toNat + 2 ^ 64 * (myDie s).toNat + 2 ^ 96 * (powerCode p.bracePrev).toNat
    + 2 ^ 99 * bit p.halted + 2 ^ 112 * p.braceAborts.toNat + 2 ^ 128 * p.braceCommits.toNat
    + 2 ^ 144 * p.braceAborts3.toNat + 2 ^ 160 * barPend s + 2 ^ 192 * pendDescs s + 2 ^ 224 * divergedCount s
    + 2 ^ 256 * (s.aon.getD 0 0).toNat + 2 ^ 320 * (now s).toNat)

/-- UNBRACE (R383). -/
def unbrace (s : State) : State :=
  let us := (now s - s.pwr.braceTime).toNat / 8000
  let s := setPower .active (modPwr (fun p => { p with bphase := .none }) s)
  logEvent 0x16 (some 0x24) 0 (BitVec.ofNat 64 us) (BitVec.ofNat 64 s.pwr.warns) s

/-- Step 4 of R380, once step 3 has ended. -/
def braced (s : State) : State :=
  if s.pwr.bphase ≠ .bracing ∨ !braceDrained s then s
  else
    let d0 := s.pwr.braceAborts.toNat + 2 ^ 16 * s.pwr.braceCommits.toNat
    let s := mempAsk { use := .summary, wr := true, size := 2, addr := s.pwr.braceBase ++ (0 : BitVec 6)
                       data := braceSummary s } s
    let s := logWrite 0x15 true 0 (BitVec.ofNat 64 d0) (BitVec.ofNat 64 (pendDescs s)) s
    let s := assertSource 0x24 (modPwr (fun p => { p with bphase := .braced }) s)
    if s.pwr.warnDeb then s else unbrace s

/-- PWR_WARN recognised as deasserted. -/
def pwrWarnDeassert (s : State) : State :=
  let s := modPwr (fun p => { p with warnDeb := false }) (wakeDoze s)
  if s.pwr.bphase = .braced then unbrace s else s

/-! ## Idle and DOZE (R373-R375) -/

/-- A REGP command runs (R374). -/
def cmdRuns (s : State) : Bool :=
  s.vat.cmdBusy || s.wm.cmdBusy || s.ctx.busy || s.xl.tcBusy || s.felt.cmdBusy || s.cal.cmdBusy || s.dump.busy ||
    s.boot.calw != .idle

/-- Gasuar is idle (R374). -/
def idle (s : State) : Bool :=
  s.hb.waiting.isEmpty && s.hb.link.isEmpty && s.hb.chains.isEmpty && s.hb.regq.isEmpty && s.la.posts.isEmpty &&
    s.qu.held.isEmpty && s.eg.queue.isEmpty && s.memp.waiting.all (mempHeld s) && s.memp.outst.isEmpty && !cmdRuns s &&
    s.xl.walks.isEmpty && s.xl.missq.isEmpty && s.ctx.clearing.isNone

/-- Idle for DOZE_IDLE × 16 GCLK (R373; 17 R400, R409; 20 R455). -/
def dozeEntry (s : State) : State :=
  let clkon := s.sec.st == .openAuth && s.sec.grant.getLsbD 3
  if s.pwr.autoDoze ∧ s.pwr.st = .active ∧ s.pwr.bphase = .none ∧ s.pwr.sleep = .none ∧ s.boot.phase = .run ∧ idle s
      ∧ !clkon
  then setPower .doze s else s

/-! ## SLEEP (R376-R378) -/

/-- A DEBUG_UNLOCK entry (17 R405). -/
def logUnlock (grant : BitVec 4) (expiry : W64) (res cause : Nat) (s : State) : State :=
  logEvent 0x19 none (grant.setWidth 32) expiry (BitVec.ofNat 64 (res + 2 ^ 8 * cause)) s

/-- OPEN-AUTH ends (17 R406). -/
def endUnlock (cause : Nat) (s : State) : State :=
  if s.sec.st ≠ .openAuth then s
  else
    let g := s.sec.grant
    let e := s.sec.expiry
    logUnlock g e 0 cause { s with sec := { s.sec with st := .sealed_, grant := 0, expiry := 0 } }

/-- What step 1 of SLEEP entry finds in the way (R376; 20 R451, R455). -/
def sleepBusy (s : State) : Bool :=
  !s.qu.recs.isEmpty || !s.qu.locks.isEmpty || !s.qu.coords.isEmpty || !s.couch.pend.isEmpty || !s.couch.recs.isEmpty ||
    !s.couch.roles.isEmpty || s.step.presented || s.step.pend || !s.xl.walks.isEmpty || s.dump.busy ||
    s.ctx.clearing.isSome || s.xl.tcBusy || s.pwr.bphase != .none ||
    s.wt.entries.any (fun e => match e.2 with
      | .queued _ _ (some _) => true
      | _ => false)

/-- The SLEEP command, served: step 1, then step 2. VIRGIN never enters SLEEP (17 R400). -/
def sleepCommand (s : State) : State :=
  if sleepBusy s ∨ s.boot.phase ≠ .run ∨ s.sec.st = .virgin then modPwr (fun p => { p with cmdErr := 1 }) s
  else
    let s := endUnlock 4 { s with sec := { s.sec with spoiled := s.sec.token.isSome } }
    beatAll (modPwr (fun p => { p with cmdBusy := true, cmdErr := 0, sleep := .draining }) s)

/-- Felt is ready for SLEEP (12 R302). -/
def feltReady (s : State) : Bool :=
  s.felt.streams.all (fun t => t.unacked.isEmpty && t.held.isEmpty) && s.felt.loop.isEmpty && s.felt.returned.isEmpty

/-- Steps 3 and 4 end, once the operation pool is empty. The translation cache is invalidated (01 R23); every other register
and state of PD_CORE keeps its value through SLEEP (log entry 86). Until the first group after it the Calender neither slews
nor uses an exchange made before (14 R342). -/
def sleepComplete (s : State) : State :=
  if s.pwr.sleep = .draining ∧ s.pwr.st = .active ∧ idle s ∧ feltReady s ∧ poolUsed s = 0 then
    { s with
      pwr := { s.pwr with st := .sleep, sleep := .asleep, wake := false, cmdBusy := false, cmdErr := 0 }
      pins := { s.pins with gclkReq := false, gclkAck := false, d2dLowrate := true, pswCoreEn := false }
      xl := { s.xl with cache := [] }
      cal := { s.cal with slewHeld := true, group := [], sentT1 := none } }
  else s

/-- Entry abandoned after 10 µs. -/
def sleepTimeout (s : State) : State :=
  if s.pwr.sleep = .draining then
    beatAll (modPwr (fun p => { p with sleep := .none, cmdBusy := false, cmdErr := 2 }) s)
  else s

/-- A wake event holds (R377). -/
def wakeHolds (s : State) : Bool := s.pwr.wake || !s.hb.ports.isEmpty || s.regp.stalled.any (fun a => a.acc.rq == .regp)

/-- Time 0 of the exit (R378). -/
def sleepExit (s : State) : State :=
  if s.pwr.sleep = .asleep ∧ wakeHolds s then
    modPins (fun p => { p with gclkReq := true, pswCoreEn := true })
      (modPwr (fun p => { p with sleep := .exiting, wake := false }) s)
  else s

/-! ## Bubbles (R393, R394) -/

/-- The bubble flit of a local agent. -/
def bubbleFlit (s : State) (level : BitVec 3) (i : Nat) : OutFlit :=
  let a : AgentId := BitVec.ofNat 30 ((myDie s).toNat * 1024 + i)
  { cls := 2, opcode := 0, agent := a, inc := incOf s a, a := level.setWidth 64, b := now s }

/-- A flit of a bubble round that is not yet offered. -/
def isBubble (f : EgFlit) : Bool := f.f.cls == 2 && f.f.opcode == 0

/-- The local agents of a round, in order. -/
def bubbleAgents (s : State) : List Nat :=
  (List.range 1024).filter (fun i => s.pwr.cmask.getLsbD (i / 16) && s.pwr.umask.getLsbD (i % 16))

/-- A change of DROOP recognised: a round, which abandons one under way. -/
def droopRound (s : State) : State :=
  let l := s.pins.droop
  if s.pwr.droopSeen = l then s
  else
    let s := modPwr (fun p => { p with droopSeen := l }) s
    if !s.pwr.bubEn then s
    else
      let s := modPwr (fun p => { p with bubLevel := l })
        { s with eg := { s.eg with queue := s.eg.queue.filter (fun f => !isBubble f) } }
      (bubbleAgents s).foldl (fun s i => push 0 (bubbleFlit s l i) none s) s

/-- DROOP changes. In SLEEP the change is recognised when GCLK returns. -/
def droopChange (level : BitVec 3) (s : State) : State :=
  let s := modPins (fun p => { p with droop := level }) s
  if s.pwr.st = .sleep then s else droopRound (wakeDoze s)

/-! ## The end of the SLEEP exit (R378) -/

/-- GCLK_ACK rises: the exit ends, and what waited for it follows. -/
def gclkUp (s : State) : State :=
  let s := modPins (fun p => { p with gclkAck := p.gclkReq }) s
  if s.pwr.sleep ≠ .exiting then s
  else
    let s := modPins (fun p => { p with d2dLowrate := false }) s
    let s := droopRound (latchAll (setPower .active (modPwr (fun p => { p with sleep := .none, wake := false }) s)))
    let s := match s.pwr.haltOwed with
      | some c => haltOwn c true (modPwr (fun p => { p with haltOwed := none }) s)
      | none => s
    if s.pwr.braceOwed then braceBegin s else s

/-! ## PPS_IN (14 R344) -/

/-- A rising edge of PPS_IN: an accepted one asserts its source (15 R359). -/
def ppsEdge (s : State) : State := if ppsEarly s then s else ppsIn (latchEdge 0x23 false s)

end Sys2Proof.Machine
end

