-- ==== Sys2Proof/Machine/StepUnit.lean ====
section
/-! DEFINITION. The step unit and the thermal sensor (16 R387-R392, R396, R398; 08 R194, R195). -/

namespace Sys2Proof.Machine

/-- Change the step unit's state. -/
def modStep (f : Step → Step) (s : State) : State := { s with step := f s.step }

/-- The unit's agent ID: the die, and zero below (R388). -/
def stepAgent (s : State) : AgentId := (myDie s).zeroExtend 30 <<< 10

/-- A request of the unit. Its INC and SEQ are not stated (log entry 30). -/
def stepOp (opcode : Byte) (a b : W64) (data : BitVec 512) (s : State) : Op × State :=
  let (i, s) := unstated s
  let (q, s) := unstated s
  ({ opcode, agent := stepAgent s, inc := i.setWidth 8, ctx := 0, handle := s.step.handle, seq := q.setWidth 16, a, b
     data, src := .stepUnit }, s)

/-- Present a request to the die arbiter as a LINK operation. -/
def stepPresent (op : Op) (s : State) : State := { s with hb := { s.hb with link := s.hb.link ++ [.step op] } }

/-- READ the object to learn E. In VIRGIN the unit stays idle (17 R400). -/
def stepRead (s : State) : State :=
  if s.sec.st = .virgin then s
  else
    let (op, s) := stepOp opRead 0 0 0 s
    stepPresent op (modStep (fun t => { t with reading := true, epoch := none }) s)

/-- EN becomes set (R388). -/
def stepStart (s : State) : State :=
  stepRead (modStep (fun t => { t with en := true, due := false, tripDue := false }) s)

/-- A temperature at or above the trip (R389, R396). -/
def tripped (s : State) : Bool := decide (s.pwr.ttrip.toInt ≤ s.pwr.temp.toInt)

/-- The request and what the limits raised (R389): the maximum asked, the request, and whether FLOOR, MAXUP and the
trip raised it. -/
def stepRequest (req : BitVec 6) (trip : Bool) (s : State) : Nat × Nat × Bool × Bool × Bool :=
  let m := max req.toNat s.step.fwReq.toNat
  let r1 := max m s.pwr.floor.toNat
  let r2 := if s.pwr.maxup.toNat < 63 then max r1 (s.step.val.toNat - s.pwr.maxup.toNat) else r1
  let r3 := if trip then 63 else r2
  (m, r3, decide (m < r1), decide (r1 < r2), decide (r2 < r3))

/-- STEP_REQ in this cycle: what a STEP_TICK of this cycle shows; in any other cycle the commands show no level, and it is a
free value (log entry 88). -/
def stepSample (s : State) : BitVec 6 × State :=
  if s.step.reqAt = s.clk.cycle then (s.step.stepReq, s)
  else
    let (v, s) := unstated s
    (v.setWidth 6, s)

/-- Arrive (R388, R389; 08 R194). -/
def stepArrive (trip : Bool) (s : State) : State :=
  match s.step.epoch with
  | none => s
  | some e =>
    let (q, s) := stepSample s
    let (m, r, fl, mu, tr) := stepRequest q (trip || tripped s) s
    let s := if m < r then
        logWrite 0x1A false 0 (BitVec.ofNat 64 (m + 2 ^ 8 * r + 2 ^ 16 * bit fl + 2 ^ 17 * bit mu + 2 ^ 18 * bit tr)) 0
          (modStep (fun t => { t with clamp := true }) s)
      else s
    let b := BitVec.ofNat 64 (e.toNat + 2 ^ 32 * 5)
    let (op, s) := stepOp opArriveR 1 b (BitVec.ofNat 512 r) s
    stepPresent op (modStep (fun t => { t with sent := BitVec.ofNat 6 r, pend := true }) s)

/-- The unit may arrive: no earlier arrival is pending and E is known; a halted unit stops (R386, R388). -/
def stepFree (s : State) : Bool :=
  s.step.en && !s.step.pend && !s.step.reading && s.step.epoch.isSome && !s.pwr.halted && !s.res.fatal &&
    s.boot.phase == .run && s.pwr.sleep == .none && s.pwr.st != .doze && s.pwr.st != .sleep

/-- Meet a trip or a tick that waits. A tick also waits for a grant that is presented and not yet fired. -/
def stepTry (s : State) : State :=
  if !stepFree s then s
  else if s.step.tripDue then stepArrive true (modStep (fun t => { t with tripDue := false }) s)
  else if s.step.due ∧ !s.step.presented then stepArrive false (modStep (fun t => { t with due := false }) s)
  else s

/-- A PERIOD tick. -/
def stepTick (req : BitVec 6) (s : State) : State :=
  let s := modStep (fun t => { t with stepReq := req, reqAt := s.clk.cycle }) s
  if !s.step.en then s else stepTry (modStep (fun t => { t with due := true }) (wakeDoze s))

/-- A response or release whose status is not OK (R388): the unit READs again and arrives at its next tick. A
DIVERGED answer to an arrival leaves it pending. -/
def stepBad (st : Status) (keep : Bool) (s : State) : State :=
  let s := modStep (fun t => { t with lasterr := st, pend := t.pend && keep, due := false }) s
  if s.step.en then stepRead s else s

/-- STEP_GRANT rises (R391). -/
def grantUp (s : State) : State :=
  modPins (fun p => { p with stepGrant := true }) (modStep (fun t => { t with presented := false }) s)

/-- An OK release (R391, R392). -/
def stepGranted (f : OutFlit) (s : State) : State :=
  let t : W64 := f.data.extractLsb' 64 64
  let s := modStep (fun u => { u with
    pend := false, val := f.data.extractLsb' 0 6, at_ := t, presented := true
    epoch := some (f.b.setWidth 32 + 1) }) s
  if t.toNat ≤ (now s).toNat then grantUp (modStep (fun u => { u with late := true }) s) else s

/-- An answer or release to the unit. -/
def stepTake (f : OutFlit) (s : State) : State :=
  if f.cls = 3 then
    if f.status = stOk then stepGranted f s else stepBad f.status false s
  else if f.opcode = opRead then
    let s := modStep (fun t => { t with reading := false }) s
    if f.status = stOk then modStep (fun t => { t with epoch := some (f.b.setWidth 32) }) s
    else stepBad f.status true s
  else if f.status = stOk then s
  else stepBad f.status (f.status == stDiverged) s

/-- TIME reaches STEP_AT. -/
def stepGrantRise (s : State) : State :=
  if s.step.presented ∧ s.step.at_.toNat ≤ (now s).toNat then grantUp s else s

/-- STEP_GRANT falls 1 µs later. -/
def stepGrantFall (s : State) : State := modPins (fun p => { p with stepGrant := false }) s

/-- A sample of the thermal sensor (R396, R398). A trip in SLEEP is met after it. -/
def thermalSample (t : Byte) (s : State) : State :=
  let s := modPwr (fun p => { p with temp := t, peak := if p.peak.toInt < t.toInt then t else p.peak }) s
  let s := if s.pwr.thalt.toInt ≤ t.toInt then haltOwn 3 false s else s
  if s.pwr.ttrip.toInt ≤ t.toInt ∧ s.step.en then
    stepTry (modStep (fun u => { u with tripDue := true }) (wakeDoze s))
  else s

end Sys2Proof.Machine
end

