-- ==== Sys2Proof/Machine/Sequencer.lean ====
section
/-! DEFINITION. The sequencers as hardware: watchdog, restart, reload, and the messages between them (18 R426-R430). What
their firmware does reaches Gasuar as register commands (log entry 21). -/

namespace Sys2Proof.Machine

/-- A sequencer. -/
def sqAt (s : State) (n : Nat) : Seqr := if n = 0 then s.sq.sq0 else s.sq.sq1

/-- Change a sequencer. -/
def modSq (n : Nat) (f : Seqr → Seqr) (s : State) : State :=
  { s with sq := if n = 0 then { s.sq with sq0 := f s.sq.sq0 } else { s.sq with sq1 := f s.sq.sq1 } }

/-! ## Memory (R426) -/

/-- Write bytes to a sequencer's memory from an offset on. -/
def memWrite (off : Nat) (bs : List Byte) (m : Tbl Byte) : Tbl Byte :=
  bs.zipIdx.foldl (fun m b => tput 0 m (off + b.2) b.1) m

/-- OUTBOX. -/
def outboxOf (q : Seqr) : List Byte := (List.range 512).map (fun i => tgetD q.mem (0x1BE00 + i) 0)

/-- Put an image at the start of a sequencer's memory. -/
def loadFirmware (image : List Byte) (q : Seqr) : Seqr := { q with mem := memWrite 0 image q.mem }

/-! ## The flash (R428) -/

/-- The first that waits for the flash gets it, outside SLEEP. -/
def flashNext (s : State) : State :=
  match s.boot.flashq with
  | [] => s
  | k :: _ =>
    if k < 2 ∧ (sqAt s k).st = .wait ∧ s.pwr.st ≠ .sleep then modSq k (fun q => { q with st := .reload }) s else s

/-- Leave the flash. -/
def flashDone (k : Nat) (s : State) : State :=
  flashNext { s with boot := { s.boot with flashq := s.boot.flashq.filter (· != k) } }

/-! ## Restart (R427-R429) -/

/-- An SQ_RESTART event. -/
def logRestart (n : Nat) (src : Option Nat) (bad : Bool) (s : State) : State :=
  let q := sqAt s n
  logEvent 0x17 src (BitVec.ofNat 32 n) (BitVec.ofNat 64 (q.cause.toNat + 2 ^ 8 * bit q.role))
    (BitVec.ofNat 64 (q.count + 2 ^ 8 * bit bad)) s

/-- Restart a sequencer: step 1 of R428, and the reload asked for. -/
def restartSq (n : Nat) (cause : BitVec 4) (s : State) : State :=
  let lines := s.pins.irq
  let s := modSq n (fun q => { q with held := true, cause, count := satInc 255 q.count, st := .wait }) s
  let s := { s with
    sq := { s.sq with holdHalt := s.pins.haltOut, holdGrant := s.pins.stepGrant, holdSq := n == 1, holdIrq := lines }
    boot := { s.boot with flashq := s.boot.flashq.filter (· != n) ++ [n] } }
  flashNext (logRestart n (some 0x0A) false s)

/-- A sequencer that runs. -/
def sqRuns (q : Seqr) : Bool := q.st == .run && !q.held

/-- RESTART in GS_SQ_CMD. -/
def sqCommand (a : Acc) (n : Nat) (s : State) : State :=
  let q := sqAt s n
  let s := { s with sq := { s.sq with cmdSq := n == 1 } }
  if sqRuns q ∨ q.st = .stopped then
    let own := (a.rq == .sq0 && n == 0) || (a.rq == .sq1 && n == 1)
    restartSq n (if own then 4 else 3) { s with sq := { s.sq with cmdErr := 0 } }
  else { s with sq := { s.sq with cmdErr := 1 } }

/-- The watchdog's LIMIT passes without a kick. -/
def wdogExpiry (n : Nat) (s : State) : State :=
  if sqRuns (sqAt s n) ∧ (sqAt s n).limit ≠ 0 then restartSq n 2 s else s

/-- An undefined instruction or an access outside the map. -/
def sqFault (n : Nat) (s : State) : State := if sqRuns (sqAt s n) then restartSq n 5 s else s

/-- A write of GS_SQn_WDOG with KICK = 1. -/
def wdogKick (n : Nat) (limit : BitVec 16) (s : State) : State :=
  modSq n (fun q => { q with limit, kicks := q.kicks + 1 }) s

/-- The firmware partition of a sequencer's role (R415). -/
def fwPart (s : State) (n : Nat) : Option Part := match s.boot.header with
  | none => none
  | some h => h.parts[if (sqAt s n).role then 4 else 3]?

/-- A reload ends: the sequencer is released, or stays STOPPED (R428 step 3). In FAILED both are held in reset (R413). -/
def sqReloadDone (n : Nat) (image : List Byte) (s : State) : State :=
  if (sqAt s n).st ≠ .reload then s
  else
    let good := (fwPart s n).any (fun p => p.len == image.length && p.digest == Config.sha384 image.length (leNat image))
    let s := flashDone n s
    let stay := !(s.boot.phase == .links || s.boot.phase == .run)
    if good then modSq n (fun q => loadFirmware image { q with st := .run, held := stay }) s
    else logRestart n none true (modSq n (fun q => { q with st := .stopped }) s)

/-! ## Messages (R430) -/

/-- The sequencer that holds a role. -/
def sqOfRole (s : State) (r : Byte) : Option Nat :=
  if 2 ≤ r.toNat then none else if (sqAt s 0).role == (r == 1) then some 0 else some 1

/-- What an INBOX slot holds of a message: the sender, LENGTH, then the frame from byte 32 on. -/
def inboxBytes (m : InMsg) : List Byte :=
  toBytes 16 (m.src.toNat + 2 ^ 32 * (40 + 8 * m.msg.length) + 2 ^ 64 * (m.dstRole.toNat + 2 ^ 8 * m.srcRole.toNat
    + 2 ^ 16 * m.tag.toNat + 2 ^ 32 * bit m.bounce)) ++ m.msg.flatMap (fun w => toBytes 8 w.toNat)

/-- Store a message in the next free INBOX slot. -/
def storeMsg (m : InMsg) (q : Seqr) : Seqr :=
  { q with mem := memWrite (0x1C000 + 512 * ((q.head + q.msgs) % 32)) (inboxBytes m) q.mem, msgs := q.msgs + 1 }

/-- Store a message in the INBOX of a role; false when it cannot be. -/
def inboxPut (m : InMsg) (s : State) : Bool × State :=
  match sqOfRole s m.dstRole with
  | none => (false, s)
  | some n =>
    if sqRuns (sqAt s n) ∧ (sqAt s n).msgs < 32 then
      (true, modSq n (storeMsg m) s)
    else (false, s)

/-- A FWMSG taken in: stored, or bounced. A bounce that cannot be delivered is discarded. -/
def fwmsgRx (src : DieId) (dst srcRole : Byte) (tag : BitVec 16) (bounce : Bool) (msg : List W64) (s : State) : State :=
  match inboxPut { src, dstRole := dst, srcRole, tag, bounce, msg } s with
  | (true, s) => s
  | (false, s) => if bounce then s else sendFrame src (.fwmsg srcRole dst tag true []) s

/-- A FWMSG that cannot be sent comes back into the sender's own INBOX. -/
def fwBounce (b : Body) (s : State) : State := match b with
  | .fwmsg dst src tag false _ =>
    (inboxPut { src := myDie s, dstRole := src, srcRole := dst, tag, bounce := true, msg := [] } s).2
  | _ => s

/-- BUSY of GS_SQn_SEND: Felt has not yet taken the frame. -/
def sqSendBusy (s : State) (n : Nat) : Bool := s.felt.txq.any (fun f => (sqAt s n).sendFid == some f.fid)

/-- The message that OUTBOX holds. -/
def outboxBody (words : Nat) (bs : List Byte) : Body :=
  let n := leNat bs
  .fwmsg (BitVec.ofNat 8 n) (BitVec.ofNat 8 (n / 2 ^ 8)) (BitVec.ofNat 16 (n / 2 ^ 16)) (n.testBit 32)
    ((List.range words).map (fun i => BitVec.ofNat 64 (n / 2 ^ (64 + 64 * i))))

/-- A write of GS_SQn_SEND sends what OUTBOX holds. -/
def sqSend (n : Nat) (words : BitVec 6) (dst : DieId) (s : State) : State :=
  if sqSendBusy s n ∨ 59 < words.toNat then s
  else
    let s := modSq n (fun q => { q with words, dst, sendFid := some s.felt.fid }) s
    sendFrame dst (outboxBody words.toNat (outboxOf (sqAt s n))) s

/-- A write of 1 to POP. -/
def mboxPop (n : Nat) (s : State) : State :=
  modSq n (fun q => if q.msgs = 0 then q else { q with msgs := q.msgs - 1, head := (q.head + 1) % 32 }) s

end Sys2Proof.Machine
end

