-- ==== Sys2Proof/Machine/Dump.lean ====
section
/-! DEFINITION. GS_DUMP and the per-agent counters (14 R350-R356; 17 R408). -/

namespace Sys2Proof.Machine

/-! ## Per-agent counters (R350, R351) -/

/-- The open waits of the agents of this die, as local index and class (R351). A request of an earlier incarnation is
no wait; whether a SIGNAL of another die's object goes to a RING is a free value (log entry 62). -/
def agentWaits (s : State) : List (Nat × Nat) :=
  let mine := fun (a : AgentId) (i : Byte) => dieOf a == myDie s && incOf s a == i
  let ofOp := fun (o : Op) (k : Nat) => if mine o.agent o.inc && o.src != .stepUnit then [(localIx o.agent, k)] else []
  let arrive := s.couch.pend.flatMap (fun p => ofOp p.op 2)
  let entries := s.wt.entries.flatMap (fun e => match e.2 with
    | .queued n op _ =>
      let k := (objAt s n).kind
      ofOp op (if !isBuiltin k then 6 else if k = kRing then 4 else if k = kEvent then 5 else 3)
    | .watch w =>
      if isOnce w.cond && mine w.target w.tinc
      then [(localIx w.target, if isBuiltin (objAt s w.slot).kind then 5 else 6)] else []
    | .mirror w _ _ _ => if isOnce w.cond && mine w.target w.tinc then [(localIx w.target, 7)] else []
    | _ => [])
  let remote := s.hb.remote.flatMap (fun o =>
    if o.opcode = opTake ∨ o.opcode = opArrive ∨ o.opcode = opArriveR ∨
        (o.opcode = opSignal ∧ Config.remoteRing o.ctx o.handle = true) then ofOp o 7 else [])
  let commits := s.qu.recs.flatMap (fun e =>
    if e.2.state ≠ .opened ∧ e.2.level ≠ 0 ∧ e.2.commit.isSome ∧ mine e.2.agent e.2.inc
    then [(localIx e.2.agent, 7)] else [])
  arrive ++ entries ++ remote ++ commits

/-- The counter of an agent that a tick raises (R350). -/
def tickClass (s : State) (waits : List (Nat × Nat)) (i : Nat) : Nat :=
  match (waits.filter (fun w => w.1 == i)).map (·.2) with
  | [] => if 0 < tgetD s.ag.depth i 0 then 0 else 1
  | k :: r => r.foldl min k

/-- The agents of the die (18 R416). -/
def dieAgents (s : State) : List Nat :=
  let t := s.boot.topo
  (List.range 1024).filter (fun i =>
    decide (i / 256 < t.regions) && decide (i / 16 % 16 < t.clusters) && decide (i % 16 < t.units))

/-- A tick of 512 Calender units. None counts in SLEEP. -/
def agentTick (s : State) : State :=
  if s.pwr.st = .sleep then s
  else
    let w := agentWaits s
    { s with ag := { s.ag with pa := (dieAgents s).foldl (fun t i =>
      let c := tgetD t i [0, 0, 0, 0, 0, 0, 0, 0]
      tset t i (c.modify (tickClass s w i) (· + 1))) s.ag.pa } }

/-! ## Records (R355) -/

/-- The head of a record: TYPE, FLAGS zero, CTX, SUBJECT. -/
def dumpRec (ty : Nat) (c : CtxId) (subject : Nat) (rest : Nat) : BitVec 512 :=
  BitVec.ofNat 512 (ty + 2 ^ 16 * c.toNat + 2 ^ 32 * subject + 2 ^ 64 * rest)

/-- A value at a byte of a record, for `dumpRec`. -/
def at8 (byte n : Nat) : Nat := n * 2 ^ (8 * (byte - 8))

/-- GS_COUCH_ROLE (06, Registers). -/
def couchRoleReg (s : State) : W32 :=
  let c := s.couch
  BitVec.ofNat 32 (2 ^ 31 * bit c.pkgP + 2 ^ 30 * bit c.pkgS + 2 ^ 29 * bit c.sysP + 2 ^ 28 * bit c.sysS
    + 2 ^ 27 * bit c.rlyP + 2 ^ 26 * bit c.rlyS + 2 ^ 24 * c.tier.toNat + bit c.taken)

/-- GS_VERSION (21 R467). -/
def versionReg : W32 := 0x00030100

/-- CTX of the records that stand for the whole dump: the context dumped, 0 for every context (log entry 44). -/
def dumpCtx (s : State) : CtxId := if s.dump.all then 0 else s.dump.ctx

/-- HEADER. -/
def dumpHeader (s : State) : BitVec 512 :=
  dumpRec 1 (dumpCtx s) (myDie s).toNat (at8 8 (now s).toNat + at8 16 (s.dump.ctx.toNat + 2 ^ 15 * bit s.dump.all)
    + at8 18 (calCode s.cal.st).toNat + at8 20 versionReg.toNat + at8 24 (couchRoleReg s).toNat)

/-- The object's agents and cookies are withheld (17 R408). -/
def dumpRestricted (s : State) (n : Nat) : Bool := (objAt s n).priv && !fullView s 0

/-- OBJECT. -/
def dumpObj (s : State) (n : Nat) : BitVec 512 :=
  let r := dumpRestricted s n
  let w := (packObj (objAt s n) (wheadAt s n)).toNat
  let image := if r then at8 16 (objAt s n).value.toNat else at8 8 w
  let third := (tget s.vat.third n).isSome
  dumpRec 2 (objAt s n).owner n (image + at8 40 (seqAt s n).toNat
    + at8 42 (bit (slotAt s n).lost + 2 * bit third + 4 * bit r) + at8 44 (listAt s n).length)

/-- The fields of a watch in an ENTRY. -/
def dumpWatch (ty ix : Nat) (w : Watch) (home : DieId) (idx : Nat) (hide : Bool) : BitVec 512 :=
  let who := if hide then 0 else at8 10 w.tinc.toNat + at8 12 w.target.toNat + at8 32 w.cookie.toNat
  dumpRec 3 w.ctx ix (at8 8 ty + at8 9 w.cond.toNat + at8 11 (bit w.held) + who + at8 16 w.slot
    + at8 20 home.toNat + at8 24 w.comparand.toNat + at8 36 w.handle.toNat + at8 40 w.ref.toNat + at8 44 idx)

/-- ENTRY of a list entry of an object. -/
def dumpEntry (s : State) (n ix : Nat) : BitVec 512 :=
  let hide := dumpRestricted s n
  match tget s.wt.entries ix with
  | some (.watch w) => dumpWatch 0 ix w (myDie s) 0 hide
  | some (.standby w h _) => dumpWatch 4 ix w h 0 hide
  | some (.queued _ op _) =>
    let who := if hide then 0 else at8 10 op.inc.toNat + at8 12 op.agent.toNat
    dumpRec 3 op.ctx ix (at8 8 2 + at8 9 op.opcode.toNat + who + at8 16 n + at8 20 (myDie s).toNat
      + at8 24 op.a.toNat + at8 36 op.handle.toNat)
  | some (.armed _ d) => match tget s.la.descs d with
    | some e => dumpRec 3 e.ctx ix (at8 8 3 + at8 9 e.cond.toNat + at8 11 (bit e.held) + at8 16 n
        + at8 20 (myDie s).toNat + at8 24 e.comparand.toNat + at8 34 d + at8 36 e.handle.toNat
        + at8 40 e.ref.toNat)
    | none => dumpRec 3 0 ix (at8 8 3 + at8 16 n + at8 34 d)
  | _ => dumpRec 3 0 ix (at8 16 n)

/-- The dump covers a context. -/
def dumpCovers (s : State) (c : CtxId) : Bool := s.dump.all || c == s.dump.ctx

/-- MIRROR ENTRYs. -/
def dumpMirrors (s : State) : List (BitVec 512) :=
  s.wt.entries.filterMap (fun e => match e.2 with
    | .mirror w h i _ => if dumpCovers s w.ctx
        then some (dumpWatch 1 e.1 w h (match i with | some k => k.toNat | none => 0) false) else none
    | _ => none)

/-- State of a QUIRE record. -/
def quireCode : QState → Nat
  | .opened => 0 | .preparing => 1 | .committed => 2 | .aborted => 3

/-- QUIRE records. -/
def dumpQuires (s : State) : List (BitVec 512) :=
  (s.qu.recs.filter (fun e => dumpCovers s e.2.ctx)).map (fun e =>
    let r := e.2
    dumpRec 4 r.ctx e.1 (at8 8 r.agent.toNat + at8 12 r.inc.toNat + at8 13 (quireCode r.state) + at8 14 r.count
      + at8 15 r.members.length + at8 16 r.ticket.time.toNat + at8 24 r.coord.toNat + at8 28 r.level))

/-- Position of a die record, of its context and handle, in the record store. -/
def recNumber (s : State) (c : CtxId) (h : W32) : Nat := s.couch.recs.findIdx (fun r => r.ctx == c && r.handle == h)

/-- LOCK records: what a lock's own quire and target give. -/
def dumpLocks (s : State) : List (BitVec 512) :=
  s.qu.locks.filterMap (fun l =>
    let h := homeAt s l.key
    let c : CtxId := match h with
      | some h => h.ctx
      | none => 0
    let pos := match h with
      | some h => ((h.members.find? (fun m => m.target == l.target)).map (·.pos)).getD 0
      | none => 0
    let parked := (s.qu.held.filter (fun j => j.target == l.target)).length
    let (rec_, sub) : Bool × Nat := match l.target with
      | .slot n => (false, n)
      | .record c h => (true, recNumber s c h)
    if dumpCovers s c then
      some (dumpRec 5 c sub (at8 8 (bit rec_ + 2 * bit l.decided) + at8 9 pos + at8 12 l.key.die.toNat
        + at8 16 l.key.qid.toNat + at8 24 l.ticket.time.toNat + at8 32 l.ticket.agent.toNat + at8 36 parked))
    else none)

/-- PEND of a pending arrival. -/
def dumpPend (s : State) (i : Nat) (p : PendArr) : BitVec 512 :=
  let r := dieRec s p.op.ctx p.op.handle
  let (share, home) : Nat × DieId := match p.slot, r with
    | none, some r => (shareOf r.x, xlHome r.x)
    | _, _ => (0, myDie s)
  dumpRec 6 p.op.ctx i (at8 9 p.op.opcode.toNat + at8 12 p.op.agent.toNat + at8 16 p.op.inc.toNat + at8 20 p.weight
    + at8 24 p.epoch.toNat + at8 28 share + at8 32 p.op.handle.toNat + at8 36 home.toNat)

/-- PEND of a combining record. -/
def dumpComb (i : Nat) (c : CtxId) (h : W32) (lanes : Bool) (count : Nat) (e : W32) (x : Xl) : BitVec 512 :=
  let o : Byte := if lanes then opArriveR else opArrive
  dumpRec 6 c i (at8 8 1 + at8 9 o.toNat + at8 20 count + at8 24 e.toNat + at8 28 (shareOf x) + at8 32 h.toNat
    + at8 36 (xlHome x).toNat)

/-- PEND records: arrivals, then the die's and the roles' combining records. A record's number is its place in its
store (log entry 44). -/
def dumpPends (s : State) : List (BitVec 512) :=
  (s.couch.pend.zipIdx.filter (fun p => dumpCovers s p.1.op.ctx)).map (fun p => dumpPend s p.2 p.1) ++
  (s.couch.recs.zipIdx.filter (fun r => dumpCovers s r.1.ctx)).map (fun r =>
    dumpComb r.2 r.1.ctx r.1.handle r.1.lanes.isSome r.1.count r.1.epoch r.1.x) ++
  (s.couch.roles.zipIdx.filter (fun r => dumpCovers s r.1.ctx)).map (fun r =>
    dumpComb r.2 r.1.ctx r.1.handle r.1.lanes.isSome r.1.weight.toNat r.1.epoch r.1.x)

/-! ## The run (R353, R354, R356) -/

/-- Change the dump. -/
def modDump (f : Dump → Dump) (s : State) : State := { s with dump := f s.dump }

/-- Read the slot that the dump comes to next, as the scrubber reads it (13 R304, R312). -/
def dumpVisit (s : State) : State := match s.dump.todo with
  | .obj n :: _ => readSlot n s
  | _ => s

/-- The dump waits for the third copy of the slot that it comes to next (13 R307). -/
def dumpStalled (s : State) : Bool := match s.dump.todo with
  | .obj n :: _ => fetching s n
  | _ => false

/-- The records of an item. -/
def dumpRead (i : DumpItem) (s : State) : List (BitVec 512) × State := match i with
  | .obj n =>
    if ((objAt s n).kind == 0 && !(slotAt s n).lost) || !dumpCovers s (objAt s n).owner then ([], s)
    else (dumpObj s n :: (listAt s n).map (dumpEntry s n), s)
  | .mirrors => (dumpMirrors s, s)
  | .quires => (dumpQuires s, s)
  | .locks => (dumpLocks s, s)
  | .pends => (dumpPends s, s)

/-- Issue one record. -/
def dumpIssue (r : BitVec 512) (s : State) : State :=
  let d := s.dump
  let addr : W64 := (d.base ++ (0 : BitVec 6)) + BitVec.ofNat 64 (64 * d.recs)
  mempAsk { use := .dump d.gen, wr := true, size := 2, addr, data := r }
    (modDump (fun d => { d with recs := d.recs + 1, crc := (toBytes 64 r.toNat).foldl crcByte d.crc }) s)

/-- END. -/
def dumpEnd (trunc : Bool) (s : State) : State :=
  let d := s.dump
  let r := dumpRec 7 (dumpCtx s) (d.recs + 1) (at8 8 (now s).toNat + at8 16 (~~~ d.crc).toNat + at8 20 (bit trunc))
  let s := modDump (fun d => { d with
    ended := true, todo := [], ready := [], endErr := if trunc then 2 else d.endErr }) s
  if d.recs < d.lim.toNat then dumpIssue r s else s

/-- Writes of this run still under way. -/
def dumpOut (s : State) : Nat :=
  (s.memp.waiting.filter (fun r => r.use == .dump s.dump.gen)).length +
    (s.memp.outst.filter (fun e => e.2.use == .dump s.dump.gen)).length

/-- Read and issue while fewer than 32 writes are outstanding. -/
def dumpFill : Nat → State → State
  | 0, s => s
  | k + 1, s =>
    if s.dump.ended ∨ 32 ≤ dumpOut s then s
    else match s.dump.ready with
      | r :: rest =>
        if s.dump.recs + 2 ≤ s.dump.lim.toNat then dumpFill k (dumpIssue r (modDump (fun d => { d with ready := rest }) s))
        else dumpEnd true s
      | [] => match s.dump.todo with
        | i :: rest =>
          let s := dumpVisit s
          if dumpStalled s then s
          else
            let (l, s) := dumpRead i (modDump (fun d => { d with todo := rest }) s)
            dumpFill k (modDump (fun d => { d with ready := l }) s)
        | [] => dumpEnd false s

/-- Fill, and end the command once every write has ended. -/
def dumpGo (s : State) : State :=
  let s := dumpFill (s.dump.todo.length + 40) s
  if s.dump.ended && dumpOut s == 0 then modDump (fun d => { d with busy := false, err := d.endErr }) s else s

/-- A dump has something to read next: it neither waits for a third copy nor has 32 writes outstanding. -/
def dumpDue (s : State) : Bool :=
  s.dump.busy && !s.dump.ended && s.dump.ready.isEmpty && !s.dump.todo.isEmpty && decide (dumpOut s < 32) && !dumpStalled s

/-- A dump that waited for a third copy goes on once it has been answered. -/
def dumpResume (s : State) : State := if dumpDue s then dumpGo s else s

/-- START (R353). -/
def dumpStart (all : Bool) (c : CtxId) (s : State) : State :=
  if s.dump.busy then s
  else
    let s := modDump (fun d => { d with
      all, ctx := c, busy := true, err := 0, gen := d.gen + 1, recs := 0, crc := 0xFFFFFFFF, ok := 0, ended := false
      endErr := 0, ready := [] }) s
    let objs := if all then (s.vat.slots.filter (fun e => e.2.a.obj.kind != 0 || e.2.lost)).map (·.1)
      else (tgetD s.ctx.tab c.toNat {}).chain
    let s := modDump (fun d => { d with ready := [dumpHeader s] }) s
    if !all && ctxState s c != .live then dumpGo (modDump (fun d => { d with todo := [], endErr := 1 }) s)
    else dumpGo (modDump (fun d => { d with todo := objs.map DumpItem.obj ++ [.mirrors, .quires, .locks, .pends] }) s)

/-- A dump write ends (R354, R356). -/
def dumpDone (gen : Nat) (ok : Bool) (s : State) : State :=
  if !s.dump.busy ∨ s.dump.gen ≠ gen then s
  else if ok then dumpGo (modDump (fun d => { d with ok := d.ok + 1 }) s)
  else
    let s := modDump (fun d => { d with busy := false, err := 3, todo := [], ready := [], ended := true }) s
    { s with memp := { s.memp with waiting := s.memp.waiting.filter (fun r => r.use != .dump gen) } }

end Sys2Proof.Machine
end

