-- ==== Sys2Proof/Machine/Calib.lean ====
section
/-! DEFINITION. The calibration set and its commands (18 R422-R425; 19 R445). -/

namespace Sys2Proof.Machine

/-- Change the boot unit's state. -/
def modBoot (f : Boot → Boot) (s : State) : State := { s with boot := f s.boot }

/-! ## The set (R422, R423) -/

/-- CRC-32C of bytes 0 to 251. -/
def calCrc (v : BitVec 2048) : W32 := crc32c (toBytes 252 v.toNat)

/-- The checks of R423 on a set. -/
def calGood (v : BitVec 2048) : Bool :=
  let n := v.toNat
  fld n 0 32 == 0x47434C31 && fld n 32 16 == 1 && fld n 49 7 == 0 && fld n 56 8 == 0 && fld n 74 6 == 0 &&
    fld n 124 4 == 0 && fld n 140 4 == 0 && fld n 144 48 == 0 && fld n 768 1248 == 0 &&
    fld n 2016 32 == (calCrc v).toNat

/-- The values of a set. -/
def calOf (v : BitVec 2048) : Cal :=
  { factory := v.getLsbD 48, aoscTrim := v.extractLsb' 64 10, tdOffset := v.extractLsb' 80 16
    tdGain := v.extractLsb' 96 16, deskew := (List.range 16).map (fun i => v.extractLsb' (256 + 32 * i) 32) }

/-- A set with its CRC put in. -/
def calSeal (n : Nat) : BitVec 2048 :=
  let v := BitVec.ofNat 2048 (n % 2 ^ 2016)
  BitVec.ofNat 2048 (v.toNat + 2 ^ 2016 * (calCrc v).toNat)

/-- The live values as a set, as CAPTURE writes it. The word of this die's own number is zero (R422). -/
def calSet (s : State) : BitVec 2048 :=
  let c := s.boot.cal
  let deskew := (c.deskew.set ((myDie s).toNat % 16) 0).reverse.foldl (fun n w => n * 2 ^ 32 + w.toNat) 0
  calSeal (0x47434C31 + 2 ^ 32 + 2 ^ 48 * bit c.factory + 2 ^ 64 * c.aoscTrim.toNat + 2 ^ 80 * c.tdOffset.toNat
    + 2 ^ 96 * c.tdGain.toNat + 2 ^ 112 * s.cal.asymD2d.toNat + 2 ^ 128 * s.cal.asymEth.toNat
    + 2 ^ 192 * (now s).toNat + 2 ^ 256 * deskew)

/-! ## Commands (R424) -/

/-- A command ends. -/
def calwEnd (err : Nat) (s : State) : State := modBoot (fun b => { b with calw := .idle, calwErr := BitVec.ofNat 3 err }) s

/-- Address of a 64-byte part of the buffer. -/
def calwAddr (s : State) (p : Nat) : W64 := (s.boot.calwAddr ++ (0 : BitVec 6)) + BitVec.ofNat 64 (64 * p)

/-- CAPTURE. -/
def capture (s : State) : State :=
  if s.boot.calw ≠ .idle then s
  else
    let v := calSet s
    (List.range 4).foldl (fun s p => mempAsk { use := .calStore p, wr := true, size := 2, addr := calwAddr s p
                                               data := v.extractLsb' (512 * p) 512 } s)
      (modBoot (fun b => { b with calw := .capture [0, 1, 2, 3], calwErr := 0 }) s)

/-- CAL_WRITE. -/
def calWrite (s : State) : State :=
  if s.boot.calw ≠ .idle then s
  else if !s.boot.policy.calwEn then calwEnd 2 s
  else if s.pwr.st = .brace ∨ s.pwr.sleep ≠ .none ∨ s.pwr.warnDeb then calwEnd 3 s
  else
    (List.range 4).foldl (fun s p => mempAsk { use := .calRead p, wr := false, size := 2, addr := calwAddr s p } s)
      (modBoot (fun b => { b with calw := .fetch [0, 1, 2, 3], calwErr := 0 }) s)

/-- Drop what a command still waits to ask of MEMP. -/
def calwDrop (s : State) : State :=
  { s with memp := { s.memp with waiting := s.memp.waiting.filter (fun r => match r.use with
    | .calRead _ => false
    | .calStore _ => false
    | _ => true) } }

/-- The set that CAL_WRITE stores: FACTORY clear. -/
def calStored (v : BitVec 2048) : BitVec 2048 := calSeal (v &&& ~~~ (BitVec.ofNat 2048 (2 ^ 48))).toNat

/-- A MEMP access to the buffer ends. -/
def calwMemp (part : Nat) (ok : Bool) (data : BitVec 512) (s : State) : State :=
  match s.boot.calw with
  | .capture left =>
    if !ok then calwEnd 5 (calwDrop s)
    else
      let left := left.filter (· != part)
      if left.isEmpty then calwEnd 0 s else modBoot (fun b => { b with calw := .capture left }) s
  | .fetch left =>
    if !ok then calwEnd 5 (calwDrop s)
    else
      let left := left.filter (· != part)
      let old := s.boot.calwBuf.toNat
      let lo := old % 2 ^ (512 * part)
      let hi := old / 2 ^ (512 * (part + 1))
      let v := BitVec.ofNat 2048 (lo + 2 ^ (512 * part) * (data.toNat + 2 ^ 512 * hi))
      let s := modBoot (fun b => { b with calwBuf := v, calw := .fetch left }) s
      if !left.isEmpty then s
      else if !calGood v then calwEnd 1 s
      else modBoot (fun b => { b with calw := .flash, flashSet := calStored v, flashq := b.flashq ++ [2] }) s
  | _ => s

/-- CAL_WRITE has the flash. -/
def calwFlash (s : State) : Bool := s.boot.calw == .flash && s.boot.flashq.head? == some 2

/-- Erase, program and read-back end. -/
def calFlashDone (readback : BitVec 2048) (s : State) : State :=
  if !calwFlash s then s
  else
    let s := flashDone 2 s
    if readback ≠ s.boot.flashSet then calwEnd 6 s
    else
      let crc : W32 := s.boot.flashSet.extractLsb' 2016 32
      let s := logEvent 0x18 none 0 (BitVec.ofNat 64 (bit s.boot.factory)) (crc.setWidth 64) s
      calwEnd 0 (modBoot (fun b => { b with writes := satInc 255 b.writes, factory := false }) s)

/-- The flash stays busy for 5 s. -/
def calFlashTimeout (s : State) : State := if calwFlash s then calwEnd 6 (flashDone 2 s) else s

/-- The stream that GS_FELT_PEER_SEL selects. -/
def selStream (s : State) : Option Stream :=
  let e := s.felt.peerSel.getLsbD 8
  let i := fld s.felt.peerSel.toNat 0 8
  s.felt.streams.find? (fun t => t.eth == e && t.idx == i)

/-- LINKCAL. -/
def linkcal (s : State) : State :=
  if s.boot.calw ≠ .idle then s
  else match selStream s with
    | some t =>
      if !t.eth ∧ t.st = .down then
        let p := BitVec.ofNat 4 t.idx
        modPins (fun q => { q with calPeer := p, calTrain := true })
          (modBoot (fun b => { b with calw := .train p, calwErr := 0 }) s)
      else calwEnd 4 s
    | none => calwEnd 4 s

/-- D2D_CAL_DONE rises (19 R445). -/
def linkcalDone (code : W32) (s : State) : State :=
  match s.boot.calw with
  | .train p =>
    let s := modBoot (fun b => { b with cal := { b.cal with deskew := b.cal.deskew.set p.toNat code } }) s
    calwEnd 0 (modPins (fun q => { q with calTrain := false }) s)
  | _ => s

/-- D2D_CAL_DONE does not rise within 10 ms. -/
def linkcalTimeout (s : State) : State :=
  match s.boot.calw with
  | .train _ => calwEnd 4 (modPins (fun q => { q with calTrain := false }) s)
  | _ => s

end Sys2Proof.Machine
end

