-- ==== Sys2Proof/Machine/Memp.lean ====
section
/-! DEFINITION. MEMP: transfers, responses, timeouts (19 R439-R441, R475), and what each end means to its unit
(10 R240, R252; 11 R264; 14 R348, R356; 16 R382; 18 R424). -/

namespace Sys2Proof.Machine

/-! ## Transfer (R439, R475) -/

/-- The unit of a request. -/
def unitOf (r : MReq) : MUnit := match r.use with
  | .walk .. => .walker
  | .entry .. => .launcher
  | .doorbell .. => .launcher
  | .cons _ => .launcher
  | .dump _ => .dump
  | .reel _ => .reel
  | .reelCons => .reel
  | .calRead _ => .calw
  | .calStore _ => .calw
  | .summary => .brace

/-- The units in the order of R439, with the requests each may have outstanding. -/
def unitLimits : List (MUnit × Nat) :=
  [(.walker, 32), (.launcher, 64), (.dump, 32), (.reel, 16), (.calw, 4), (.brace, 1)]

/-- A unit has a request ready. -/
def unitReady (s : State) (u : MUnit × Nat) : Bool :=
  s.memp.waiting.any (fun r => unitOf r == u.1 && !mempHeld s r) &&
    decide ((s.memp.outst.filter (fun e => unitOf e.2 == u.1)).length < u.2)

/-- The lowest tag that is neither outstanding nor retired. -/
def freeTag (s : State) : Option Nat :=
  (List.range 256).find? (fun t => (tget s.memp.outst t).isNone && !s.memp.retired.contains t)

/-- The index of the unit served next, round-robin. -/
def nextUnit (s : State) : Option Nat :=
  ((List.range 6).map (fun i => (s.memp.rr + i) % 6)).find? (fun i => match unitLimits[i]? with
    | some u => unitReady s u
    | none => false)

/-- The walk read that the walker issues next lies in a device window (11 R265), which a write may have set since the read
was built: the walk that it belongs to. -/
def mempWindow (s : State) : Option (CtxId × W32 × W64 × Nat) :=
  match s.memp.waiting.find? (fun r => unitOf r == .walker) with
  | some r => match r.use with
    | .walk c h => match s.xl.walks.find? (fun w => w.ctx == c && w.handle == h) with
      | some w => (windowOf s w.addr).map (fun i => (c, h, w.addr, i))
      | none => none
    | _ => none
  | none => none

/-- End the walks whose next read a device window holds, up to `n`. -/
def mempWindows : Nat → State → State
  | 0, s => s
  | n + 1, s => match mempWindow s with
    | none => s
    | some (c, h, addr, i) =>
      mempWindows n (deviceWalk c h addr i
        { s with memp := { s.memp with waiting := dropFirst (fun r => unitOf r == .walker) s.memp.waiting } })

/-- One transfer on MEMP_A. Write data lie in the byte lanes of the address (R434). -/
def mempTransfer (s : State) : State :=
  let s := mempWindows s.memp.waiting.length s
  match nextUnit s, freeTag s with
  | some i, some t =>
    let mine := fun (r : MReq) => (unitLimits[i]?).any (fun u => unitOf r == u.1) && !mempHeld s r
    match s.memp.waiting.find? mine with
    | none => s
    | some r =>
      let r := { r with data := r.data <<< (8 * (r.addr.toNat % 64)) }
      { s with memp := { s.memp with
        waiting := dropFirst mine s.memp.waiting, outst := tset s.memp.outst t r, rr := (i + 1) % 6 } }
  | _, _ => s

/-! ## Ends -/

/-- How a request ends: the ERR of a response, or a timeout. -/
inductive MEnd where
  | ok | error | ue | timeout
  deriving DecidableEq, Repr

/-- MEMP_D_ERR (R440). -/
def endOf (err : BitVec 2) : MEnd := match err.toNat with
  | 0 => .ok
  | 2 => .ue
  | _ => .error

/-- A CONS read of a launch queue ends (10 R240, R252). -/
def lqConsDone (q : Nat) (e : MEnd) (addr : W64) (v : W32) (s : State) : State :=
  let s := modLq q (fun l => { l with consOut := false }) s
  if e = .ok then modLq q (fun l => { l with cons := v }) s else lqFault q 2 (e == .timeout) 0 addr s

/-- What the end of a request does. -/
def mempEnd (r : MReq) (e : MEnd) (data : BitVec 512) (s : State) : State :=
  let ok := e == .ok
  let word : W32 := data.extractLsb' (8 * (r.addr.toNat % 64)) 32
  match r.use with
  | .walk c h => walkGot c h (match e with | .ok => 0 | .error => 1 | .timeout => 2 | .ue => 3) data s
  | .entry d idx => entryDone d idx ok (e == .timeout) r.addr s
  | .doorbell d idx => doorbellDone d idx ok (e == .timeout) r.addr s
  | .cons q => lqConsDone q e r.addr word s
  | .reelCons => reelConsDone ok word s
  | .reel _ => reelWriteDone ok s
  | .dump g => dumpDone g ok s
  | .calRead p => calwMemp p ok data s
  | .calStore p => calwMemp p ok data s
  | .summary => if ok then s else modPwr (fun p => { p with sumErr := true }) s

/-- A response to an outstanding request whose use satisfies `p`; any other has no effect. -/
def mempGot (p : MUse → Bool) (tag : Byte) (err : BitVec 2) (data : BitVec 512) (s : State) : State :=
  match tget s.memp.outst tag.toNat with
  | none => s
  | some r =>
    if p r.use then
      mempEnd r (endOf err) data { s with memp := { s.memp with outst := terase s.memp.outst tag.toNat } }
    else s

/-- A request unanswered by the end of cycle t + 65,535: its tag is retired (R441). -/
def mempTimeout (tag : Byte) (s : State) : State :=
  match tget s.memp.outst tag.toNat with
  | none => s
  | some r =>
    mempEnd r .timeout 0 { s with memp := { s.memp with
      outst := terase s.memp.outst tag.toNat, retired := s.memp.retired ++ [tag.toNat] } }

/-- A response to a retired request. -/
def mempLate (tag : Byte) (s : State) : State :=
  if s.memp.retired.contains tag.toNat then
    { s with memp := { s.memp with retired := s.memp.retired.filter (· != tag.toNat), late := sat16 s.memp.late } }
  else s

/-! ## The launcher's own reads and issues -/

/-- A full queue with a launch that waits for it re-reads CONS, at most once per 256 GCLK (10 R240). -/
def consReread (q : Nat) (s : State) : State :=
  let l := lqAt s q
  let late := match l.consAt with
    | some c => decide (c + 256 ≤ s.clk.cycle)
    | none => true
  let waits := l.pending.any (fun k => match tget s.la.descs k with
    | some d => d.noq || l.en
    | none => false)
  if !l.fault && !l.consOut && late && waits && !lqSpace l && !launcherStopped s then
    mempAsk { use := .cons q, wr := false, size := 0, addr := l.consAddr ++ (0 : BitVec 2) }
      (modLq q (fun l => { l with consOut := true, consAt := some s.clk.cycle }) s)
  else s

/-- A doorbell written again after its failure, then the next pending launch of a queue (10 R245, R252). -/
def launchIssue (q : Nat) (s : State) : State :=
  let s := issueDoorbells q s
  if launcherStopped s then s else issuePending q s

end Sys2Proof.Machine
end

