-- ==== Sys2Proof/Machine/FrameCodec.lean ====
section
/-! DEFINITION. Felt frames and datagrams as bytes: layouts, the checks of a frame and of a datagram (12 R279-R287; 02 R26,
R28, R36; 07 R179; 13 R317, R320; 14 R337; 18 R430). A frame is read as one little-endian number; one whose fields, laid
out again, do not give the bytes received has a reserved bit set. -/

namespace Sys2Proof.Machine

/-! ## Laying out -/

/-- A number with the values given at their bytes. -/
def lay (l : List (Nat × Nat)) : Nat := l.foldl (fun n e => n + e.2 * 2 ^ (8 * e.1)) 0

/-- Bytes `i` to `i + k - 1` of a frame. -/
def byt (n i k : Nat) : Nat := fld n (8 * i) (8 * k)

/-- The bits [off + w - 1 : off] of byte `i` and those after it. -/
def bts (n i off w : Nat) : Nat := fld n (8 * i + off) w

/-- Records of `k` bytes one after the other from byte `i`. -/
def layRecs (i k : Nat) : List Nat → List (Nat × Nat)
  | [] => []
  | v :: r => (i, v) :: layRecs (i + k) k r

/-- The flags of a request flit and its header (02 R26, R28). -/
def reqHeader (o : Byte) (f : Flit) : Nat :=
  sameFields o f + 2 ^ 8 * f.status.toNat + 2 ^ 14 * f.cls.toNat + 2 ^ 16 * bit f.cont + 2 ^ 17 * bit f.more
    + 2 ^ 18 * bit f.noresp + 2 ^ 19 * bit f.fwd + 2 ^ 20 * bit f.wm + 2 ^ 21 * f.flagsRsvd.toNat + 2 ^ 122 * f.rsvd.toNat

/-- A request flit as 64 bytes. -/
def layFlit (o : Byte) (f : Flit) : Nat :=
  lay [(0, reqHeader o f), (16, f.a.toNat), (24, f.b.toNat), (32, f.payload.toNat)]

/-- A flit of Gasuar as 64 bytes: its first flit, or its continuation (02 R36, 07 R185). -/
def layOut (f : OutFlit) (cont : Bool) : Nat :=
  let g : Flit := { seq := f.seq, handle := f.handle, ctx := f.ctx, inc := f.inc, agent := f.agent, wm := f.wm, fwd := f.fwd
                    more := f.two && !cont, cont, cls := f.cls, status := if cont then 0 else f.status }
  let n := f.data.toNat
  lay [(0, reqHeader f.opcode g)] +
    (if cont then lay [(16, n / 2 ^ 256)] else lay [(16, f.a.toNat), (24, f.b.toNat), (32, n % 2 ^ 256)])

/-- A lane record (07 R179). -/
def layPart (p : Partial) : Nat := lay [(0, p.acc.toNat), (40, p.nf.toNat), (44, p.flags.toNat)]

/-- Bytes 32 to 37 of a quire frame (12 R281). -/
def layKey (k : QKey) : List (Nat × Nat) := [(32, k.die.toNat), (36, k.qid.toNat)]

/-- A member's record in QPREP. -/
def layMember (m : QMember) : Nat :=
  lay [(0, m.pos.toNat), (1, m.inner.toNat), (4, m.slot.toNat), (8, m.a.toNat), (16, m.b.toNat)]

/-- A member's record in QDONE. -/
def layAnswer (a : QAnswer) : Nat := lay [(0, a.pos.toNat), (1, a.status.toNat), (8, a.a.toNat), (16, a.b.toNat)]

/-- The lane description of a REPORT at bytes 48 and 49. -/
def layDesc : Option LaneDesc → Nat
  | none => 0
  | some d => d.op.toNat + 2 ^ 8 * d.fmt.toNat + 2 ^ 12 * d.cnt.toNat + 2 ^ 15

/-- The body of SHADOW_UPD by subtype (13 R317). -/
def laySub : ShadowSub → List (Nat × Nat)
  | .create c w => [(32, 0), (33, bit c), (48, w.toNat)]
  | .destroy => [(32, 1)]
  | .set v => [(32, 2), (48, v.toNat)]
  | .watchAdd idx cmp cond tinc cookie target ctx handle =>
    [(32, 3), (42, idx.toNat), (48, cmp.toNat), (56, cond.toNat), (57, tinc.toNat), (58, cookie.toNat)
    , (60, target.toNat), (64, ctx.toNat), (68, handle.toNat)]
  | .watchFree idx => [(32, 4), (42, idx.toNat)]
  | .fetch => [(32, 5)]
  | .copy c k w => [(32, 6), (33, bit c + 2 * bit k), (48, w.toNat)]

/-- The body of a frame (12 R281). -/
def layBody : Body → List (Nat × Nat)
  | .heartbeat p h t time => [(32, p.toNat + 8 * bit h + 16 * bit t), (40, time.toNat)]
  | .ack => []
  | .sync => []
  | .syncAck => []
  | .wake => []
  | .halt origin cause time => [(32, origin.toNat), (36, cause.toNat), (40, time.toNat)]
  | .tsyncReq xn t1 => [(32, 0), (33, xn.toNat), (40, t1.toNat)]
  | .tsyncResp xn st t1 t2 t3 => [(32, 1), (33, xn.toNat), (34, st.toNat), (40, t1.toNat), (48, t2.toNat), (56, t3.toNat)]
  | .fwmsg dst src tag bounce msg =>
    [(32, dst.toNat), (33, src.toNat), (34, tag.toNat), (36, bit bounce)] ++ layRecs 40 8 (msg.map (·.toNat))
  | .op o f slot cont => [(32, layFlit o f), (96, slot.toNat)] ++
      (match cont with | some c => [(104, c.toNat)] | none => [])
  | .flit f => (32, layOut f false) :: (if f.two then [(96, layOut f true)] else [])
  | .notify f => [(32, layOut f false)]
  | .release h c st e lanes word data =>
    [(32, h.toNat), (36, c.toNat), (38, st.toNat), (40, e.toNat), (48, word.toNat)] ++ (if lanes then [(56, data.toNat)] else [])
  | .report h c e w d parts =>
    [(32, h.toNat), (36, c.toNat), (40, e.toNat), (44, w.toNat), (48, layDesc d)] ++ layRecs 56 48 (parts.map layPart)
  | .refusal h c st e => [(32, h.toNat), (36, c.toNat), (38, st.toNat), (40, e.toNat)]
  | .freed idx target => [(32, idx.toNat), (36, target.toNat)]
  | .retarget idx oi ni ot nt => [(32, idx.toNat), (34, oi.toNat), (35, ni.toNat), (36, ot.toNat), (40, nt.toNat)]
  | .unwatchRst idx oi t => [(32, idx.toNat), (34, oi.toNat), (36, t.toNat)]
  | .wack idx d r => [(32, idx.toNat), (34, bit d + 2 * bit r)]
  | .shadow slot seq sub => [(36, slot.toNat), (40, seq.toNat)] ++ laySub sub
  | .takeover role p time => [(32, role.toNat), (36, p.toNat), (40, time.toNat)]
  | .qstart k agent time homes =>
    layKey k ++ [(38, homes.length), (40, agent.toNat), (48, time.toNat)] ++ layRecs 56 4 (homes.map (·.toNat))
  | .qprep k inc agent coord time ctx ms =>
    layKey k ++ [(38, ms.length), (39, inc.toNat), (40, agent.toNat), (44, coord.toNat), (48, time.toNat), (56, ctx.toNat)]
      ++ layRecs 64 24 (ms.map layMember)
  | .qvote k no cause pos st => layKey k ++ [(38, bit no), (39, cause.toNat), (40, pos.toNat), (41, st.toNat)]
  | .qwound k => layKey k
  | .qdecide k abort cause voted =>
    layKey k ++ [(38, bit abort), (39, cause.toNat), (40, voted.length)] ++ layRecs 48 4 (voted.map (·.toNat))
  | .qdone k ans => layKey k ++ [(38, ans.length)] ++ layRecs 48 24 (ans.map layAnswer)

/-- The header, CRC zero (12 R279). -/
def layHdr (ty len : Nat) (h : FHdr) : List (Nat × Nat) :=
  [ (0, ty), (1, bit h.sq + 2 * bit h.retx + 4 * bit h.cwait + 8 * bit h.close), (2, len), (4, h.src.toNat), (8, h.dst.toNat)
  , (12, h.seq.toNat), (16, h.ack.toNat), (20, h.sack.toNat), (24, h.credit.toNat), (26, h.session.toNat) ]

/-- A frame less its CRC. -/
def layFrame (h : FHdr) (b : Body) : Nat := lay (layHdr (bodyType b) (bodyLen b) h ++ layBody b)

/-- The bytes of a frame as sent (12 R280). -/
def frameBytes (h : FHdr) (b : Body) : List Byte :=
  let n := layFrame h b
  let c := (crc32c (toBytes (bodyLen b) n)).toNat
  toBytes (bodyLen b) (n + c * 2 ^ 224)

/-! ## Reading -/

/-- The request flit at byte `i`, with its opcode. -/
def readFlit (n i : Nat) : Byte × Flit :=
  let h := byt n i 16
  (BitVec.ofNat 8 h,
    { rsvd := BitVec.ofNat 6 (fld h 122 6), seq := BitVec.ofNat 16 (fld h 106 16), handle := BitVec.ofNat 32 (fld h 74 32)
      ctx := BitVec.ofNat 12 (fld h 62 12), inc := BitVec.ofNat 8 (fld h 54 8), agent := BitVec.ofNat 30 (fld h 24 30)
      flagsRsvd := BitVec.ofNat 3 (fld h 21 3), wm := h.testBit 20, fwd := h.testBit 19, noresp := h.testBit 18
      more := h.testBit 17, cont := h.testBit 16, cls := BitVec.ofNat 2 (fld h 14 2), status := BitVec.ofNat 6 (fld h 8 6)
      a := BitVec.ofNat 64 (byt n (i + 16) 8), b := BitVec.ofNat 64 (byt n (i + 24) 8)
      payload := BitVec.ofNat 256 (byt n (i + 32) 32) })

/-- The flit of Gasuar at byte 32, with its continuation when `two`. -/
def readOut (n : Nat) (two : Bool) : OutFlit :=
  let (o, f) := readFlit n 32
  { cls := f.cls, opcode := o, status := f.status, agent := f.agent, inc := f.inc, ctx := f.ctx, handle := f.handle
    seq := f.seq, wm := f.wm, fwd := f.fwd, a := f.a, b := f.b
    data := BitVec.ofNat 512 (byt n 64 32 + (if two then 2 ^ 256 * byt n 112 32 else 0)), two }

/-- A die ID at byte `i`. -/
def readDie (n i : Nat) : DieId := BitVec.ofNat 20 (byt n i 4)

/-- The records of `k` bytes from byte `i`, `m` of them. -/
def readRecs (n i k m : Nat) : List Nat := (List.range m).map (fun j => byt n (i + k * j) k)

/-- A SHADOW_UPD's subtype. -/
def readSub (n : Nat) : Option ShadowSub :=
  let image := BitVec.ofNat 256 (byt n 48 32)
  let idx := BitVec.ofNat 16 (byt n 42 2)
  match byt n 32 1 with
  | 0 => some (.create (n.testBit 264) image)
  | 1 => some .destroy
  | 2 => some (.set (BitVec.ofNat 64 (byt n 48 8)))
  | 3 => some (.watchAdd idx (BitVec.ofNat 64 (byt n 48 8)) (BitVec.ofNat 8 (byt n 56 1)) (BitVec.ofNat 8 (byt n 57 1))
      (BitVec.ofNat 16 (byt n 58 2)) (BitVec.ofNat 30 (byt n 60 4)) (BitVec.ofNat 12 (byt n 64 2))
      (BitVec.ofNat 32 (byt n 68 4)))
  | 4 => some (.watchFree idx)
  | 5 => some .fetch
  | 6 => some (.copy (n.testBit 264) (n.testBit 265) image)
  | _ => none

/-- The key of a quire frame. -/
def readKey (n : Nat) : QKey := { die := readDie n 32, qid := BitVec.ofNat 9 (byt n 36 2) }

/-- The lane description of a REPORT. -/
def readDesc (n : Nat) : Option LaneDesc :=
  let w := byt n 48 2
  if w.testBit 15 then some { op := BitVec.ofNat 8 w, fmt := BitVec.ofNat 4 (fld w 8 4), cnt := BitVec.ofNat 3 (fld w 12 3) }
  else none

/-- A lane record. -/
def readPart (r : Nat) : Partial :=
  { acc := BitVec.ofNat 320 r, nf := BitVec.ofNat 32 (byt r 40 4), flags := BitVec.ofNat 8 (byt r 44 1) }

/-- A member record of QPREP. -/
def readMember (r : Nat) : QMember :=
  { pos := BitVec.ofNat 4 r, inner := BitVec.ofNat 8 (byt r 1 1), slot := BitVec.ofNat 17 (byt r 4 4)
    a := BitVec.ofNat 64 (byt r 8 8), b := BitVec.ofNat 64 (byt r 16 8) }

/-- A member record of QDONE. -/
def readAnswer (r : Nat) : QAnswer :=
  { pos := BitVec.ofNat 4 r, status := BitVec.ofNat 6 (byt r 1 1), a := BitVec.ofNat 64 (byt r 8 8)
    b := BitVec.ofNat 64 (byt r 16 8) }

/-- The body of a frame of `len` bytes, by its TYPE; none where the TYPE or a subtype is reserved. -/
def readBody (n len : Nat) : Option Body :=
  let w8 := fun i => BitVec.ofNat 8 (byt n i 1)
  let w16 := fun i => BitVec.ofNat 16 (byt n i 2)
  let w32 := fun i => BitVec.ofNat 32 (byt n i 4)
  let w64 := fun i => BitVec.ofNat 64 (byt n i 8)
  let agent := fun i => BitVec.ofNat 30 (byt n i 4)
  let ctx := BitVec.ofNat 12 (byt n 36 2)
  let st := BitVec.ofNat 6 (byt n 38 1)
  let count := byt n 38 1
  match byt n 0 1 with
  | 0x80 => some (.heartbeat (BitVec.ofNat 3 (bts n 32 0 3)) (n.testBit 259) (n.testBit 260) (w64 40))
  | 0x81 => some .ack
  | 0x82 => some .sync
  | 0x83 => some .syncAck
  | 0x84 => some .wake
  | 0x85 => some (.halt (readDie n 32) (w8 36) (w64 40))
  | 0x86 => match byt n 32 1 with
    | 0 => some (.tsyncReq (w8 33) (w64 40))
    | 1 => some (.tsyncResp (w8 33) (BitVec.ofNat 2 (byt n 34 1)) (w64 40) (w64 48) (w64 56))
    | _ => none
  | 0x87 => some (.fwmsg (w8 32) (w8 33) (w16 34) (n.testBit 288) ((readRecs n 40 8 ((len - 40) / 8)).map (BitVec.ofNat 64)))
  | 0x90 =>
    let (o, f) := readFlit n 32
    some (.op o f (BitVec.ofNat 17 (byt n 96 4)) (if len = 136 then some (BitVec.ofNat 256 (byt n 104 32)) else none))
  | 0x91 => some (.flit (readOut n (len == 160)))
  | 0x92 => some (.notify (readOut n false))
  | 0x93 => some (.release (w32 32) ctx st (w32 40) (len == 120) (w64 48)
      (if len = 120 then BitVec.ofNat 512 (byt n 56 64) else 0))
  | 0x94 => some (.report (w32 32) ctx (w32 40) (w32 44) (readDesc n) ((readRecs n 56 48 ((len - 56) / 48)).map readPart))
  | 0x95 => some (.refusal (w32 32) ctx st (w32 40))
  | 0x96 => some (.freed (w16 32) (agent 36))
  | 0x97 => some (.retarget (w16 32) (w8 34) (w8 35) (agent 36) (agent 40))
  | 0x98 => some (.unwatchRst (w16 32) (w8 34) (agent 36))
  | 0x99 => some (.wack (w16 32) (n.testBit 272) (n.testBit 273))
  | 0x9A => (readSub n).map (.shadow (BitVec.ofNat 17 (byt n 36 4)) (w16 40))
  | 0x9B => some (.takeover (w8 32) (readDie n 36) (w64 40))
  | 0xA0 => some (.qstart (readKey n) (agent 40) (w64 48) ((readRecs n 56 4 (min 16 count)).map (BitVec.ofNat 20)))
  | 0xA1 => some (.qprep (readKey n) (w8 39) (agent 40) (readDie n 44) (w64 48) (BitVec.ofNat 12 (byt n 56 2))
      ((readRecs n 64 24 (min 16 count)).map readMember))
  | 0xA2 => some (.qvote (readKey n) (n.testBit 304) (w8 39) (BitVec.ofNat 4 (byt n 40 1)) (BitVec.ofNat 6 (byt n 41 1)))
  | 0xA3 => some (.qwound (readKey n))
  | 0xA4 => some (.qdecide (readKey n) (n.testBit 304) (w8 39)
      ((readRecs n 48 4 (min 16 (byt n 40 1))).map (BitVec.ofNat 20)))
  | 0xA5 => some (.qdone (readKey n) ((readRecs n 48 24 (min 16 count)).map readAnswer))
  | _ => none

/-- The header fields. -/
def readHdr (n : Nat) : FHdr :=
  { sq := n.testBit 8, retx := n.testBit 9, cwait := n.testBit 10, close := n.testBit 11, src := readDie n 4, dst := readDie n 8
    seq := BitVec.ofNat 32 (byt n 12 4), ack := BitVec.ofNat 32 (byt n 16 4), sack := BitVec.ofNat 32 (byt n 20 4)
    credit := BitVec.ofNat 16 (byt n 24 2), session := BitVec.ofNat 16 (byt n 26 2) }

/-- A frame's bytes with its CRC field as zero. -/
def crcZeroed (bs : List Byte) : List Byte := bs.take 28 ++ [0, 0, 0, 0] ++ bs.drop 32

/-- The CRC check (12 R280). -/
def crcGood (bs : List Byte) : Bool :=
  decide (32 ≤ bs.length) && (crc32c (crcZeroed bs)).toNat == leNat (bs.drop 28 |>.take 4)

/-- The frame that bytes hold, once its CRC is right: none for a reserved TYPE or subtype, a LENGTH its content does not
have, or a reserved bit set (12 R282). -/
def readFrame (bs : List Byte) : Option (FHdr × Body) :=
  let n := leNat (crcZeroed bs)
  match readBody n bs.length with
  | none => none
  | some b => if bodyLen b = bs.length ∧ layFrame (readHdr n) b = n then some (readHdr n, b) else none

/-! ## The checks of a frame's fields (12 R282) -/

/-- The reserved bits and values of a body, and the counts that its LENGTH must fit. -/
def bodyOk : Body → Bool
  | .heartbeat p .. => decide (p.toNat < 4)
  | .fwmsg _ _ _ _ m => decide (m.length ≤ 59)
  | .op o f _ c =>
    (headerOff 0 f).isEmpty && !f.cont && f.more == c.isSome && (operandOff o 128 f.a f.b).isEmpty &&
      (f.payload == 0 || o == opQop || o == opArm || o == opArriveR)
  | .flit f => f.two || decide (f.data.toNat < 2 ^ 256)
  | .notify f => !f.two && decide (f.data.toNat < 2 ^ 256)
  | .release _ _ _ _ lanes _ data => lanes || data == 0
  | .report _ _ _ _ d parts => match d with
    | some d => parts.length == d.cnt.toNat + 1 && parts.all (partOk d)
    | none => parts.isEmpty
  | .shadow _ _ (.watchAdd _ _ cond ..) => decide (cond.toNat < 16)
  | .takeover role .. => decide (role.toNat < 4)
  | .qstart _ _ _ l => decide (1 ≤ l.length) && decide (l.length ≤ 16)
  | .qprep _ _ _ _ _ _ l => decide (1 ≤ l.length) && decide (l.length ≤ 16)
  | .qdecide _ _ _ l => decide (l.length ≤ 16)
  | .qdone _ l => decide (l.length ≤ 16)
  | _ => true

/-- CLOSE is valid in SYNC and SYNC_ACK only (12 R279). -/
def closeOk (h : FHdr) (b : Body) : Bool := !h.close || bodyType b == 0x82 || bodyType b == 0x83

/-- The checks of 12 R282 that a frame's fields decide. -/
def frameOk (s : State) (h : FHdr) (b : Body) : Bool :=
  h.sq == bodySq b && h.dst == myDie s && (h.sq || h.seq == 0) && closeOk h b && bodyOk b

/-! ## Datagrams (12 R285-R287) -/

/-- A big-endian number. -/
def beNat (bs : List Byte) : Nat := bs.foldl (fun n b => 256 * n + b.toNat) 0

/-- Bytes `i` to `i + k - 1`, big-endian. -/
def beAt (bs : List Byte) (i k : Nat) : Nat := beNat (bs.drop i |>.take k)

/-- The 16-bit words of some bytes, added. -/
def sumWords : List Byte → Nat
  | [] => 0
  | [a] => 256 * a.toNat
  | a :: b :: r => 256 * a.toNat + b.toNat + sumWords r

/-- A one's complement sum with its carries folded in. -/
def foldSum (n : Nat) : Nat :=
  let a := n % 65536 + n / 65536
  a % 65536 + a / 65536

/-- This die's IPv6 address (12 R286). -/
def ip6Of (s : State) (d : DieId) : Nat := s.felt.ip.toNat * 2 ^ 32 + s.felt.iid.toNat * 2 ^ 20 + d.toNat
/-- This die's IPv4 address. -/
def ip4Of (s : State) (d : DieId) : Nat := s.felt.prefix4.toNat * 2 ^ 20 + d.toNat

/-- The UDP payload of a UDP datagram whose pseudo-header adds up to `sum`. -/
def udpPayload (s : State) (sum : Nat) (u : List Byte) : Option (List Byte) :=
  if 8 ≤ u.length ∧ beAt u 2 2 = s.felt.udpPort.toNat ∧ beAt u 4 2 = u.length ∧ beAt u 6 2 ≠ 0 ∧
      foldSum (sum + 17 + u.length + sumWords u) = 0xFFFF
  then some (u.drop 8) else none

/-- The UDP payload of an IP packet (12 R285-R287); padding after the packet is left out. -/
def ipPayload (s : State) (p : List Byte) : Option (List Byte) :=
  if s.felt.ipv4 then
    let len := beAt p 2 2
    let src := beAt p 12 4
    let dst := beAt p 16 4
    if beAt p 0 1 = 0x45 ∧ beAt p 6 2 % 2 ^ 14 = 0 ∧ beAt p 9 1 = 17 ∧ 20 ≤ len ∧ len ≤ p.length ∧ dst = ip4Of s (myDie s) ∧
        src / 2 ^ 20 = s.felt.prefix4.toNat
    then udpPayload s (sumWords (p.drop 12 |>.take 8)) (p.take len |>.drop 20) else none
  else
    let len := beAt p 4 2
    let src := beAt p 8 16
    let dst := beAt p 24 16
    if beAt p 0 1 / 16 = 6 ∧ beAt p 6 1 = 17 ∧ 40 + len ≤ p.length ∧ dst = ip6Of s (myDie s) ∧
        src / 2 ^ 20 = ip6Of s (myDie s) / 2 ^ 20
    then udpPayload s (sumWords (p.drop 8 |>.take 32)) (p.drop 40 |>.take len) else none

/-- The frames of a UDP payload, cut by their LENGTH fields; none where these do not sum to what follows byte 4. -/
def cutFrames : Nat → List Byte → Option (List (List Byte))
  | 0, bs => if bs.isEmpty then some [] else none
  | k + 1, bs =>
    let len := leNat (bs.drop 2 |>.take 2)
    if 4 ≤ bs.length ∧ 4 ≤ len ∧ len ≤ bs.length then (cutFrames k (bs.drop len)).map (bs.take len :: ·) else none

/-- The frames of a datagram that passes the checks of 12 R287. -/
def readDatagram (s : State) (bs : List Byte) : Option (List (List Byte)) :=
  let tagged := beAt bs 12 2 == 0x8100
  let tagOk := if s.felt.vlanEn then tagged && beAt bs 14 2 % 4096 == s.felt.vlan.toNat % 4096 else !tagged
  let at_ := if tagged then 16 else 12
  let type := if s.felt.ipv4 then 0x0800 else 0x86DD
  if !tagOk || bs.length < at_ + 2 || beAt bs at_ 2 != type then none
  else match ipPayload s (bs.drop (at_ + 2)) with
    | none => none
    | some u =>
      let count := beAt u 1 1
      if beAt u 0 1 = 1 ∧ 1 ≤ count ∧ count ≤ 8 then cutFrames count (u.drop 4) else none

end Sys2Proof.Machine
end

