-- ==== Sys2Proof/Machine/Carrier.lean ====
section
/-! DEFINITION. What carries the frames that leave in a cycle: cells on D2D_TX, datagrams on ETHF_TX (12 R280, R283,
R285-R288). -/

namespace Sys2Proof.Machine

/-- The frames transmitted to dies of this package, and those to dies of others (12 R275). -/
def onD2d (s : State) : List WireFrame := s.felt.wire.filter (fun w => pkgOf w.h.dst == pkgOf (myDie s))
/-- See `onD2d`. -/
def onEth (s : State) : List WireFrame := s.felt.wire.filter (fun w => pkgOf w.h.dst != pkgOf (myDie s))

/-! ## D2D (12 R283) -/

/-- The cells from a list of bytes: 64 at a time, the last filled up with zeros. -/
def cutCells (peer : BitVec 4) : Nat → Bool → List Byte → List Cell
  | 0, _, _ => []
  | k + 1, sof, bs => { peer, sof, data := BitVec.ofNat 512 (leNat (bs.take 64)) } :: cutCells peer k false (bs.drop 64)

/-- The cells of a frame: ⌈LENGTH / 64⌉ of them, the first marked start of frame, each with the peer's die number. -/
def cellsOf (w : WireFrame) : List Cell :=
  cutCells (w.h.dst.setWidth 4) ((bodyLen w.body + 63) / 64) true (frameBytes w.h w.body)

/-! ## Ethernet (12 R285, R286) -/

/-- A number in network order. -/
def beBytes (k n : Nat) : List Byte := (toBytes k n).reverse

/-- The one's complement of a one's complement sum. -/
def onesSum (n : Nat) : Nat := 0xFFFF - foldSum n

/-- A UDP datagram to port UDP_PORT, its checksum over a pseudo-header that adds up to `sum` (12 R288: always sent). -/
def udpDatagram (s : State) (sum port : Nat) (payload : List Byte) : List Byte :=
  let len := 8 + payload.length
  let head := beBytes 2 port ++ beBytes 2 s.felt.udpPort.toNat ++ beBytes 2 len
  let c := onesSum (sum + 17 + len + sumWords (head ++ payload))
  head ++ beBytes 2 (if c = 0 then 0xFFFF else c) ++ payload

/-- The IPv6 packet to a die. -/
def ip6Packet (s : State) (d : DieId) (port : Nat) (payload : List Byte) : List Byte :=
  let addrs := beBytes 16 (ip6Of s (myDie s)) ++ beBytes 16 (ip6Of s d)
  let udp := udpDatagram s (sumWords addrs) port payload
  beBytes 4 (6 * 2 ^ 28 + s.felt.dscp.toNat * 2 ^ 22 + d.toNat) ++ beBytes 2 udp.length ++ [17, s.felt.hoplim] ++ addrs ++ udp

/-- The IPv4 packet to a die. -/
def ip4Packet (s : State) (d : DieId) (port : Nat) (payload : List Byte) : List Byte :=
  let addrs := beBytes 4 (ip4Of s (myDie s)) ++ beBytes 4 (ip4Of s d)
  let udp := udpDatagram s (sumWords addrs) port payload
  let front := [0x45, BitVec.ofNat 8 (4 * s.felt.dscp.toNat)] ++ beBytes 2 (20 + udp.length) ++ [0, 0, 0x40, 0, s.felt.hoplim, 17]
  front ++ beBytes 2 (onesSum (sumWords (front ++ addrs))) ++ addrs ++ udp

/-- The datagram that carries frames of the stream of index `idx` to a die (12 R285; log entry 69). -/
def datagramOf (s : State) (d : DieId) (idx : Nat) (frames : List (List Byte)) : List Byte :=
  let payload := [1, BitVec.ofNat 8 frames.length, 0, 0] ++ frames.flatten
  beBytes 6 s.felt.gw.toNat ++ beBytes 6 s.felt.mac.toNat
    ++ (if s.felt.vlanEn then beBytes 2 0x8100 ++ beBytes 2 s.felt.vlan.toNat else [])
    ++ (if s.felt.ipv4 then beBytes 2 0x0800 ++ ip4Packet s d (0xC000 + idx) payload
        else beBytes 2 0x86DD ++ ip6Packet s d (0xC000 + idx) payload)

/-- Bytes of frames that a datagram holds beside VERSION and COUNT (12 R285: a payload of at most 1,200). -/
def maxFrameBytes : Nat := 1196

/-- Pack frames into datagrams in order: at most 8, and at most `maxFrameBytes`, in each. `open_` is the one being filled. -/
def packFrames (open_ : List (List Byte)) : List (List Byte) → List (List (List Byte))
  | [] => if open_.isEmpty then [] else [open_]
  | f :: r =>
    if open_.isEmpty || (open_.length < 8 && open_.flatten.length + f.length ≤ maxFrameBytes) then packFrames (open_ ++ [f]) r
    else open_ :: packFrames [f] r

/-- The datagrams of a cycle: peer after peer, and each peer's frames in the order transmitted. -/
def datagramsOf (s : State) : List (List Byte) :=
  ((onEth s).map (fun w => (w.h.dst, w.idx))).eraseDups.flatMap (fun p =>
    (packFrames [] (((onEth s).filter (fun w => w.h.dst == p.1 && w.idx == p.2)).map (fun w => frameBytes w.h w.body))).map
      (datagramOf s p.1 p.2))

/-- The frames of this cycle leave on their carriers. -/
def emit (s : State) : State :=
  { s with felt := { s.felt with d2dTx := (onD2d s).flatMap cellsOf, ethTx := datagramsOf s } }

end Sys2Proof.Machine
end

