-- ==== Sys2Proof/Machine/FeltRx.lean ====
section
/-! DEFINITION. Felt's receiving side: where a frame goes, acknowledgement, credit, retransmission, opening and closing of
streams (12 R289-R302; 13 R324, R326). -/

namespace Sys2Proof.Machine

/-! ## Handing a frame over (12 R281, R291) -/

/-- A flit is for the step unit's own pending arrival. -/
def stepOwn (s : State) (f : OutFlit) : Bool :=
  f.cls == 3 && f.agent == stepAgent s && f.ctx == 0 && f.handle == s.step.handle && s.step.pend && f.opcode == opArriveR

/-- A forwarded WATCH is answered: its MIRROR learns the home index, or is freed where the WATCH is not registered (05 R122;
02 R43). -/
def watchAnswered (op : Op) (f : OutFlit) (s : State) : State :=
  match mirrorOf s op with
  | none => s
  | some ix => match tget s.wt.entries ix with
    | some (.mirror w h _ o) =>
      if registered f.status then mirrorKnown ix (putEntry ix (.mirror w h (some (f.a.setWidth 16)) o) s) else freeEntry ix s
    | _ => s

/-- A forwarded UNWATCH is answered: where it freed the watch, the MIRROR goes with it (05 R131). -/
def unwatchAnswered (src : DieId) (op : Op) (f : OutFlit) (s : State) : State :=
  if registered f.status then freeMirror src (op.a.setWidth 16) s else s

/-- A response to an operation forwarded elsewhere. One to an operation with NORESP, no longer kept, goes to its agent. -/
def respRx (src : DieId) (f : OutFlit) (s : State) : State :=
  match s.hb.remote.find? (answersOp f) with
  | none => offerResp f s
  | some op =>
    let s := { s with hb := { s.hb with remote := dropFirst (· == op) s.hb.remote } }
    let s := if op.opcode = opWatch then watchAnswered op f s
      else if op.opcode = opUnwatch then unwatchAnswered src op f s else s
    let s := match op.src with
      | .stepUnit => { s with step := { s.step with inbox := s.step.inbox ++ [f] } }
      | _ => if op.noresp && f.status == stOk then leaveOrder op s else offerResp f s
    movesDone s

/-- A FLIT frame. -/
def flitRx (src : DieId) (f : OutFlit) (s : State) : State :=
  if f.cls = 1 then respRx src f s
  else if stepOwn s f then { s with step := { s.step with inbox := s.step.inbox ++ [f] } }
  else push 0 f none s

/-- The MIRRORs of the watches that a notification may come from: it names the target, the handle and the cookie, not the
index. -/
def noticeMirrors (s : State) (src : DieId) (f : OutFlit) : List (Nat × Watch) :=
  s.wt.entries.filterMap (fun e => match e.2 with
    | .mirror w h _ _ =>
      if speaksFor s src h && w.target == f.agent && w.tinc == f.inc && w.ctx == f.ctx && w.handle == f.handle
          && w.cookie == f.b.extractLsb' 32 16 then some (e.1, w) else none
    | _ => none)

/-- The MIRROR of a ONCE watch whose notification passes through (05 R131). A Watermark notice is none; where several watches
may have sent the notification, the FREED frame tells which one has ended (log entry 84). -/
def onceMirror (s : State) (src : DieId) (f : OutFlit) : Option Nat :=
  if f.wm then none
  else match noticeMirrors s src f with
    | [(ix, w)] => if isOnce w.cond then some ix else none
    | _ => none

/-- A NOTIFY frame (05 R131, R133, R134). -/
def notifyRx (src : DieId) (f : OutFlit) (s : State) : State :=
  let s := match onceMirror s src f with
    | some ix => freeEntry ix s
    | none => s
  deliverNotif 65 f s

/-- The operation an OP frame carries. -/
def opOfFrame (src : DieId) (o : Byte) (f : Flit) (cont : Option (BitVec 256)) : Op :=
  { opcode := o, agent := f.agent, inc := f.inc, ctx := f.ctx, handle := f.handle, seq := f.seq, noresp := f.noresp
    a := f.a, b := f.b, data := (cont.getD 0) ++ f.payload, src := .felt src }

/-- A sequenced frame reaches protocol logic. `stage`: a report's level in the tree where it comes from this die itself. -/
def handOver (src : DieId) (stage : Nat) (b : Body) (s : State) : State :=
  if staleRole s src b then { s with res := { s.res with stale := satInc 255 s.res.stale } }
  else match b with
    | .op o f slot cont =>
      let s := noteOrder (.felt src) o f.agent f.inc f.ctx f.handle f.seq s
      { s with hb := { s.hb with link := s.hb.link ++ [.felt (opOfFrame src o f cont) slot.toNat] } }
    | .flit f => flitRx src f s
    | .notify f => notifyRx src f s
    | .release h c st e lanes word data =>
      if st = stOk then takeRelease c h { epoch := e, lanes, word, data, down := true } s else takeRefusal src c h st e s
    | .report h c e w d parts =>
      translate (.report { handle := h, ctx := c, epoch := e, weight := w, desc := d, parts } src stage) s
    | .refusal h c st e => takeRefusal src c h st e s
    | .freed idx _ => freedHere src idx s
    | .retarget idx oi ni ot nt => retargetHere src idx oi ni ot nt s
    | .unwatchRst idx oi t => unwatchHere src idx oi t s
    | .wack idx _ rst => wackHere src idx rst s
    | .shadow slot q sub => shadowRx src slot q sub s
    | .takeover role p time => takeoverRx src role p time s
    | .qstart key _ _ homes => qstart key src homes s
    | .qprep key inc agent coord time ctx ms => qprep key inc agent coord time ctx ms s
    | .qvote key no cause _ _ => qvote key src no (cause.setWidth 4) s
    | .qwound key => qwound key src s
    | .qdecide key abort cause voted =>
      let c : BitVec 4 := cause.setWidth 4
      qdecideHere key abort c voted (qdecideShadow key src abort c voted s)
    | .qdone key ans => if key.die = myDie s then recDone key.qid.toNat src ans s else s
    | .fwmsg dst sr tag bounce msg => fwmsgRx src dst sr tag bounce msg s
    | _ => s

/-! ## Acknowledgement and retransmission (12 R292-R295, R302) -/

/-- A frame may be sent again now. -/
def canResend (s : State) (t : Stream) : Bool :=
  txAllowed s && (t.st == .up || t.st == .closing) && t.peerPower != 2 && s.pwr.st != .sleep

/-- Send an unacknowledged frame again (12 R295). -/
def resend (d : DieId) (q : W32) (s : State) : State :=
  match streamTo s d with
  | none => s
  | some t => match t.unacked.find? (fun u => u.seq == q) with
    | none => s
    | some u =>
      if !canResend s t then s
      else
        let s := wireOut t (mkHdr s t true true false u.seq) u.body s
        modStream d (fun t => { t with unacked := t.unacked.map (fun v =>
          if v.seq = q then { v with last := now s, count := v.count + 1 } else v) }) s

/-- A retransmission counted (14 R349). -/
def countResend (s : State) : State := bumpAon 0x11 s

/-- The frame has been acknowledged (12 R294). -/
def isAcked (ack : W32) (sack : W32) (q : W32) : Bool :=
  let d := (ack - q).toNat
  let i := (q - ack - 1).toNat
  (decide (1 ≤ d) && decide (d < 2 ^ 31)) || (decide (i < 32) && sack.getLsbD i)

/-- An ACK shows the frame missing (12 R295). -/
def isGap (ack : W32) (sack : W32) (q : W32) : Bool :=
  let i := (q - ack - 1).toNat
  q == ack || (decide (i < 32) && !sack.getLsbD i && (List.range 32).any (fun j => decide (i < j) && sack.getLsbD j))

/-- A frame is acknowledged: what its unit kept for it ends. A forwarded operation that gets no OK response is kept no
longer than its frame. -/
def ackedFrame (u : Unacked) (s : State) : State :=
  let s := match u.body with
    | .op o f _ _ =>
      if f.noresp && o != opWatch then match remoteOf s o f with
        | some op => leaveOrder op { s with hb := { s.hb with remote := dropFirst (· == op) s.hb.remote } }
        | none => s
      else s
    | _ => s
  ackFid u.fid s

/-- Take in the ACK and SACK of a frame. -/
def takeAck (d : DieId) (ack sack : W32) (s : State) : State :=
  match streamTo s d with
  | none => s
  | some t =>
    let done := t.unacked.filter (fun u => isAcked ack sack u.seq)
    let left := t.unacked.filter (fun u => !isAcked ack sack u.seq)
    let s := modStream d (fun t => { t with unacked := left }) s
    let s := done.foldl (fun s u => ackedFrame u s) s
    (left.filter (fun u => isGap ack sack u.seq)).foldl (fun s u =>
      if u.gapped ∧ (now s - u.last).toNat < 8000 then s
      else
        let s := modStream d (fun t => { t with unacked := t.unacked.map (fun v =>
          if v.seq = u.seq then { v with gapped := true } else v) }) s
        if canResend s t then
          resend d u.seq (countResend { s with felt := { s.felt with retxHole := sat16 s.felt.retxHole } })
        else s) s

/-- The header of a frame of the current session: life, CWAIT, credit, acknowledgement (12 R279, R293, R298). -/
def takeHdr (h : FHdr) (s : State) : State :=
  let s := modStream h.src (fun t => { t with
    lastRecv := now s, peerCwait := h.cwait, used := s.clk.cycle
    credit := if (h.credit - t.credit).toNat < 2 ^ 15 then h.credit else t.credit }) s
  takeAck h.src h.ack h.sack s

/-! ## Credit granted (12 R293, log entry 46) -/

/-- The frames that a stream's grant should stand for: its initial credit, or one frame more than it has where its peer waits for
credit. A pinned stream's initial credit is its own, less the entries its operations still hold; anything above comes from the
entries free (12 R293). -/
def grantWant (s : State) (t : Stream) : Nat :=
  let init := (initCredit t.eth).toNat
  let out := grantedOut t
  let target := if t.peerCwait then max init (out + 1) else init
  min 128 (max (if t.pinned then init - feltBusy s t.peer else 0) (min target (out + creditSpace s)))

/-- Raise one stream's grant as handed-over frames free their entries. -/
def raiseGrant (s : State) (d : DieId) : State :=
  match streamTo s d with
  | none => s
  | some t =>
    let want := grantWant s t
    if t.st = .up ∧ grantedOut t < want then
      modStream d (fun u => { u with granted := u.exp.setWidth 16 + BitVec.ofNat 16 want }) s
    else s

/-- Raise the grant of a stream whose peer waits for credit: the round-robin pointer follows it. -/
def serveWaiter (s : State) (d : DieId) : State :=
  let t := raiseGrant s d
  if (streamTo t d).map (·.granted) = (streamTo s d).map (·.granted) then t
  else { t with felt := { t.felt with rr := some d } }

/-- The streams that come after the one served last, then the others. -/
def fromPointer (s : State) (l : List Stream) : List Stream :=
  match s.felt.rr with
  | none => l
  | some d =>
    let i := l.findIdx (fun t => t.peer == d)
    if i < l.length then l.drop (i + 1) ++ l.take (i + 1) else l

/-- Raise the grants: first those of streams whose peer waits, in round-robin order, then the others (12 R293). -/
def raiseGrants (s : State) : State :=
  let waiters := (fromPointer s (s.felt.streams.filter (fun t => t.st == .up))).filter (·.peerCwait)
  let others := s.felt.streams.filter (fun t => t.st == .up && !t.peerCwait)
  others.foldl (fun s t => raiseGrant s t.peer) (waiters.foldl (fun s t => serveWaiter s t.peer) s)

/-! ## Sequenced frames (12 R290-R292) -/

/-- Send an ACK frame unless another frame has carried the acknowledgement. -/
def ackNow (d : DieId) (s : State) : State :=
  if (streamTo s d).any (·.ackOwed) then sendUnseq d .ack s else s

/-- The held frames that follow SEQ `q` without a gap, and the others. -/
def takeHeld : Nat → W32 → List (W32 × Body) → List Body × W32 × List (W32 × Body)
  | 0, q, l => ([], q, l)
  | k + 1, q, l => match l.find? (fun h => h.1 == q) with
    | none => ([], q, l)
    | some (_, b) =>
      let (bs, q', l') := takeHeld k (q + 1) (l.filter (fun h => h.1 != q))
      (b :: bs, q', l')

/-- A sequenced frame on an UP stream. -/
def seqRx (h : FHdr) (b : Body) (t : Stream) (s : State) : State :=
  let d := (h.seq - t.exp).toNat
  let owe := fun (s : State) => modStream h.src (fun t => { t with
    ackOwed := true, beatFrom := if beatStream t then t.beatFrom else now s }) s
  if d = 0 then
    let (bs, q, held) := takeHeld 128 (t.exp + 1) t.held
    let s := owe (modStream h.src (fun t => { t with exp := q, held }) s)
    let s := (b :: bs).foldl (fun s b => handOver h.src 0 b s) s
    if t.held.isEmpty then s else ackNow h.src (pumpTx s)
  else if d ≤ 127 then
    let s := if t.held.any (fun x => x.1 == h.seq) then s
      else modStream h.src (fun t => { t with held := t.held ++ [(h.seq, b)] }) s
    ackNow h.src (pumpTx (owe s))
  else if d < 2 ^ 31 then { s with felt := { s.felt with errHdr := sat16 s.felt.errHdr } }
  else ackNow h.src (pumpTx (owe s))

/-! ## Opening and closing (12 R296, R297) -/

/-- A frame discarded for session or stream state. -/
def discLate (s : State) : State := { s with felt := { s.felt with discLate := sat16 s.felt.discLate } }

/-- The frames of a stream that will be numbered anew wait again, ahead of the others for the peer. -/
def requeue (t : Stream) (s : State) : State :=
  { s with felt := { s.felt with
    txq := t.unacked.map (fun u => { fid := u.fid, dst := t.peer, body := u.body }) ++ s.felt.txq } }

/-- Answer a SYNC: the stream is UP here when the SYNC_ACK is sent. -/
def answerSync (h : FHdr) (s : State) : State :=
  match streamTo s h.src with
  | none => s
  | some t =>
    let n := s.felt.session + 1
    let s := requeue t { s with felt := { s.felt with session := n } }
    let s := modStream h.src (fun t => { t with
      st := .up, mySession := n, peerSession := h.session, next := 0, exp := 0, unacked := [], held := []
      credit := h.credit, granted := initCredit t.eth, peerCwait := h.cwait, lastRecv := now s, syncs := 0
      ackOwed := false, closeOwed := false }) s
    match streamTo s h.src with
    | none => s
    | some t => if txAllowed s then wireOut t (mkHdr s t false false false 0) .syncAck s else s

/-- SYNC_ACK with CLOSE = 1: it carries the stream's current ACK, SACK and CREDIT (12 R292), zeros where this die has no stream;
the stream index of its source port is then unstated (log entry 30). -/
def refuseSync (d : DieId) (s : State) : State :=
  let n := s.felt.session + 1
  let s := { s with felt := { s.felt with session := n } }
  if !txAllowed s then s
  else match streamTo s d with
    | some t => wireOut t { mkHdr s t false false true 0 with session := n } .syncAck s
    | none =>
      let (i, s) := unstated s
      let h : FHdr := { close := true, src := myDie s, dst := d, session := n }
      { s with felt := { s.felt with wire := s.felt.wire ++ [{ h, body := .syncAck, idx := i.toNat % 256 }] } }

/-- No stream can be had for the frames that wait for a peer: an operation is answered RETRY, the others keep waiting, and the
stream is sought again after 8 µs (12 R297). -/
def noStreamFor (d : DieId) (s : State) : State :=
  let s := { s with felt := { s.felt with seekAt := (d, now s) :: s.felt.seekAt.filter (fun e => e.1 != d && lately s e) } }
  let ops := s.felt.txq.filter (fun f => f.dst == d && bodyType f.body == 0x90)
  ops.foldl (fun s f =>
    let s := { s with felt := { s.felt with
      txq := s.felt.txq.filter (fun g => g.fid != f.fid), noStream := sat16 s.felt.noStream } }
    match f.body with
    | .op o g _ _ => retryRemote o g s
    | _ => s) s

/-- The peers of other packages for which a frame waits and that have no stream, less those whose stream is sought again only
after 8 µs: an operation seeks its own at once. -/
def waitingPeers (s : State) : List DieId :=
  ((s.felt.txq.filter (fun f => (streamTo s f.dst).isNone && pkgOf f.dst != pkgOf (myDie s) &&
    seeks s f.dst f.body)).map (·.dst)).eraseDups

/-- A stream is being closed to free its entry. -/
def freeing (s : State) : Bool := s.felt.streams.any (fun t => t.eth && !t.pinned && t.st == .closing)

/-- Seek streams for the peers that wait: where none can be had, operations are answered RETRY. -/
def seekWaiting (s : State) : State :=
  (waitingPeers s).foldl (fun s d =>
    if (freeEthIdx s).isSome then (seekStream d s).2
    else if freeing s then s
    else match seekStream d s with
      | (true, s) => s
      | (false, s) => noStreamFor d s) s

/-- Free an Ethernet entry; what was unacknowledged opens a new stream afterwards. -/
def freeStream (d : DieId) (s : State) : State :=
  match streamTo s d with
  | none => s
  | some t => requeue t { s with felt := { s.felt with streams := s.felt.streams.filter (fun u => u.peer != d) } }

/-- A SYNC on a stream that this die has not opened. -/
def openSync (h : FHdr) (s : State) : State :=
  if (streamTo s h.src).isSome then answerSync h s
  else if pkgOf h.src = pkgOf (myDie s) then discLate s
  else match freeEthIdx s with
    | some i => answerSync h { s with felt := { s.felt with streams := s.felt.streams ++ [{ eth := true, idx := i, peer := h.src }] } }
    | none => match lruClosable s with
      | some u => sendSyncClose u.peer s
      | none => refuseSync h.src s

/-- SYNC with CLOSE = 1. A pinned stream never closes. -/
def closeSync (h : FHdr) (s : State) : State :=
  match streamTo s h.src with
  | none => refuseSync h.src s
  | some t =>
    if t.pinned then s
    else if t.st = .up ∨ t.st = .closing then modStream h.src (fun u => { u with st := .closing, closeOwed := true }) s
    else refuseSync h.src s

/-- Answer the closes that nothing unacknowledged holds up. -/
def answerCloses (s : State) : State :=
  (s.felt.streams.filter (fun t => t.closeOwed && t.unacked.isEmpty)).foldl (fun s t =>
    freeStream t.peer (refuseSync t.peer s)) s

/-- A SYNC (12 R296, R297). -/
def syncRx (h : FHdr) (s : State) : State :=
  if h.close then closeSync h s
  else match streamTo s h.src with
    | none => openSync h s
    | some t => if t.st = .sync ∧ (myDie s).toNat < h.src.toNat then s else openSync h s

/-- A SYNC_ACK on a stream in SYNC or CLOSING. -/
def syncAckRx (h : FHdr) (t : Stream) (s : State) : State :=
  if t.st = .sync then
    if h.close then
      if t.pinned then s else noStreamFor h.src (freeStream h.src s)
    else
      modStream h.src (fun t => { t with
        st := .up, peerSession := h.session, credit := h.credit, next := 0, exp := 0, held := [], lastRecv := now s
        peerCwait := h.cwait, syncs := 0 }) s
  else if h.close then freeStream h.src s
  else s

/-! ## Unsequenced frames -/

/-- A HEARTBEAT (12 R302, R303; 13 R326). -/
def beatRx (src : DieId) (power : BitVec 3) (halted taken : Bool) (s : State) : State :=
  match streamTo s src with
  | none => s
  | some t =>
    let s := modStream src (fun t => { t with peerPower := power, peerHalted := halted }) s
    let s :=
      if t.peerPower = 2 ∧ power ≠ 2 then
        haltCopy src (t.unacked.foldl (fun s u => resend src u.seq s) s)
      else if t.peerPower ≠ 2 ∧ power = 2 ∧ !t.haltCopies.isEmpty then
        sendUnseq src .wake (modStream src (fun t => { t with haltCopies := t.haltCopies.map (fun c => (4, c.2)) }) s)
      else s
    if taken then takenSeen src s else s

/-- An unsequenced frame on an UP stream, or one being opened or closed. -/
def unseqRx (h : FHdr) (t : Stream) (b : Body) (s : State) : State := match b with
  | .heartbeat p ha ta _ => beatRx h.src p ha ta s
  | .syncAck => syncAckRx h t s
  | .tsyncReq xn t1 => tsyncReq h.src xn t1 s
  | .tsyncResp xn st t1 t2 t3 => tsyncResp h.src xn st t1 t2 t3 s
  | .halt o c time => haltRx h.src o c time s
  | _ => s

/-! ## A frame received (12 R296, R300, R301) -/

/-- A SYNC frame. -/
def isSync : Body → Bool
  | .sync => true
  | _ => false

/-- A frame on a stream that is neither absent nor DOWN. -/
def liveRx (h : FHdr) (b : Body) (t : Stream) (s : State) : State :=
  if isSync b then syncRx h s
  else if t.st = .up then
    if h.session ≠ t.peerSession then discLate s
    else
      let s := takeHdr h s
      if h.sq then seqRx h b t s else unseqRx h t b s
  else if h.sq then discLate s
  else
    let s := if t.st = .closing ∧ h.session = t.peerSession then takeHdr h s else s
    unseqRx h t b s

/-- A frame by the state of its stream. -/
def streamRx (h : FHdr) (b : Body) (s : State) : State :=
  match streamTo s h.src with
  | none => if isSync b then syncRx h s else match b with
    | .halt o c time => haltRx h.src o c time s
    | _ => discLate s
  | some t =>
    if t.st = .down ∨ t.st = .closed then
      if t.st = .closed ∧ isSync b then syncRx h s
      else match b with
        | .halt o c time => haltRx h.src o c time s
        | _ => discLate s
    else liveRx h b t s

/-- A WAKE of another session on an UP stream, or on one that is DOWN (12 R296, R300). -/
def wakeLate (s : State) (h : FHdr) : Bool :=
  (streamTo s h.src).any (fun t => t.st == .down || (t.st == .up && h.session != t.peerSession))

/-- A frame by the die's state, in SLEEP (12 R301). -/
def sleepRx (h : FHdr) (b : Body) (s : State) : State := match b with
  | .heartbeat .. => streamRx h b s
  | .wake => if wakeLate s h then discLate s else modPwr (fun p => { p with wake := true }) s
  | _ => { s with felt := { s.felt with discSleep := sat16 s.felt.discSleep } }

/-- Felt receives frames: once start-up has brought its links up, while PD_AON is supplied. -/
def feltOn (s : State) : Bool := (s.boot.phase == .links || s.boot.phase == .run) && !s.pwr.off

/-- A frame whose CRC is right. Any frame wakes the die from DOZE (16 R375), whatever then becomes of it. -/
def rxFrame (h : FHdr) (b : Body) (s : State) : State :=
  if !feltOn s then s
  else if !frameOk s h b then wakeDoze { s with felt := { s.felt with errHdr := sat16 s.felt.errHdr } }
  else if s.pwr.st = .sleep then sleepRx h b s
  else if b = .wake then (if wakeLate s h then discLate (wakeDoze s) else wakeDoze s)
  else streamRx h b (wakeDoze s)

/-! ## Cells and datagrams (12 R280, R282, R283, R287; 19 R444, R446) -/

/-- A frame that fails its CRC. -/
def countCrc (s : State) : State := { s with felt := { s.felt with errCrc := sat16 s.felt.errCrc } }

/-- A frame's bytes. -/
def rxBytes (bs : List Byte) (s : State) : State :=
  if !crcGood bs then countCrc (wakeDoze s)
  else match readFrame bs with
    | none => wakeDoze { s with felt := { s.felt with errHdr := sat16 s.felt.errHdr } }
    | some (h, b) => rxFrame h b s

/-- A datagram offered on ETHF_RX. -/
def datagramRx (bytes : List Byte) (err full : Bool) (s : State) : State :=
  if !feltOn s then s
  else if full then { s with regp := { s.regp with ethDrop := sat16 s.regp.ethDrop } }
  else if err then countCrc (wakeDoze s)
  else match readDatagram s bytes with
    | none => wakeDoze { s with felt := { s.felt with errHdr := sat16 s.felt.errHdr } }
    | some l => l.foldl (fun s f => rxBytes f s) s

/-- LENGTH in a frame's first cell. -/
def cellLen (c : BitVec 512) : Nat := (c.extractLsb' 16 16).toNat

/-- The cells gathered from a peer are done with. -/
def dropCells (peer : Nat) (s : State) : State := { s with felt := { s.felt with rx := terase s.felt.rx peer } }

/-- A whole frame of cells handed over. -/
def takeCells (peer : Nat) (s : State) : State :=
  match tget s.felt.rx peer with
  | none => s
  | some r =>
    if r.full.isNone then s
    else if r.bad then countCrc (dropCells peer s)
    else rxBytes ((r.cells.flatMap (fun c => toBytes 64 c.toNat)).take (cellLen (r.cells.headD 0))) (dropCells peer s)

/-- The cells gathered from a peer: a whole frame once LENGTH is reached, or they wait for more. -/
def cellsDone (peer : Nat) (r : RxCells) (s : State) : State :=
  let len := cellLen (r.cells.headD 0)
  if len % 8 ≠ 0 ∨ len < 32 ∨ 512 < len then countCrc (dropCells peer s)
  else
    let full := if r.cells.length < (len + 63) / 64 then none else some s.clk.cycle
    { s with felt := { s.felt with rx := tset s.felt.rx peer { r with full } } }

/-- The frames whose last cell was accepted 5 GCLK ago are handed over (12 R283, R284). -/
def handCells (s : State) : State :=
  s.felt.rx.foldl (fun s e => match e.2.full with
    | some k => if k + 5 ≤ s.clk.cycle then takeCells e.1 s else s
    | none => s) s

/-- A cell offered on D2D_RX. One beyond a frame's LENGTH makes the frame fail, a start of frame ends the frame before it
(12 R283). -/
def cellRx (peer : BitVec 4) (sof err full : Bool) (cell : BitVec 512) (s : State) : State :=
  let p := peer.toNat
  if !feltOn s ∨ p = (myDie s).toNat % 16 then s
  else if full then { s with regp := { s.regp with d2dDrop := sat16 s.regp.d2dDrop } }
  else
    let s := wakeDoze s
    let first : RxCells := { bad := err, cells := [cell] }
    match tget s.felt.rx p with
    | none => if sof then cellsDone p first s else countCrc s
    | some r =>
      if r.full.isSome then if sof then cellsDone p first (takeCells p s) else countCrc (dropCells p s)
      else if sof then cellsDone p first (countCrc s)
      else cellsDone p { r with bad := r.bad || err, cells := r.cells ++ [cell] } s

end Sys2Proof.Machine
end

