-- ==== Sys2Proof/Machine/FeltTimers.lean ====
section
/-! DEFINITION. Felt's timers, the loss of a stream, and the commands of GS_FELT_PEER_CMD (12 R278, R292, R295-R303; 13 R319,
R324, R325). Times are Calender units of 125 ps; a timer row has its effect once its time has passed. -/

namespace Sys2Proof.Machine

/-- Units since a time. -/
def since (s : State) (t : W64) : Nat := (now s - t).toNat

/-! ## A stream goes DOWN (12 R299) -/

/-- The cause in a LINK_DOWN entry (13 R329). -/
def downCode : DownCause → Nat
  | .silence => 0 | .retransmit => 1 | .sync => 2

/-- The stream to a peer goes DOWN: the actions of 12 R299, then what each unit does (13 R319, R324, R325; 14 R342). -/
def streamDown (t : Stream) (cause : DownCause) (s : State) : State :=
  let d := t.peer
  let parent := parentDie s
  let back := t.unacked.map (fun u => { fid := u.fid, dst := d, body := u.body : TxFrame })
  let s := modStream d (fun u => { u with
    st := .down, downAt := now s, held := [], unacked := [], ackOwed := false, closeOwed := false
    haltCopies := if u.eth then [] else u.haltCopies }) s
  let s := { s with felt := { s.felt with
    returned := s.felt.returned ++ back
    downEth := s.felt.downEth || t.eth
    downD2d := if t.eth then s.felt.downD2d else s.felt.downD2d ||| (1#16 <<< (d.toNat % 16)) } }
  let s := logEvent 0x0D (some 0x06) (d.setWidth 32) (BitVec.ofNat 64 (downCode cause + 2 ^ 8 * bit t.eth)) 0 s
  let s := takeover d (holderLost d (calHold d parent s))
  s.qu.recs.foldl (fun s e => recFail e.1 d s) s

/-- The limit of silence on a stream (12 R299). -/
def silenceLimit (t : Stream) : Nat := if t.eth && t.peerPower == 2 then 2400000 else 24000

/-- How long a heartbeat stream has been silent: an unpinned one is a heartbeat stream only while a frame is unacknowledged (12 R298,
R299). -/
def silentFor (s : State) (t : Stream) : Nat :=
  if t.eth && !t.pinned then min (since s t.lastRecv) (since s t.beatFrom) else since s t.lastRecv

/-- The cause holds (12 R299). -/
def downDue (s : State) (t : Stream) : DownCause → Bool
  | .silence => beatStream t && decide (silenceLimit t ≤ silentFor s t)
  | .retransmit => (t.st == .up || t.st == .closing) && t.peerPower != 2 && t.unacked.any (fun u => decide (4 ≤ u.count) && decide (64000 ≤ since s u.last))
  | .sync => (t.st == .sync || t.st == .closing) && decide (4 ≤ t.syncs) && decide (64000 ≤ since s t.lastSent) &&
      s.boot.phase == .run

/-- STREAM_SILENCE_TIMEOUT: a stream meets one of the causes of 12 R299. -/
def silenceTimeout (d : DieId) (cause : DownCause) (s : State) : State :=
  match streamTo s d with
  | none => s
  | some t => if downDue s t cause then streamDown t cause (wakeDoze s) else s

/-! ## The other timers -/

/-- 64 GCLK after a frame was handed over (12 R292). -/
def delayedAck (d : DieId) (s : State) : State :=
  if (streamTo s d).any (·.ackOwed) then ackNow d (wakeDoze s) else s

/-- 8 µs after a frame's last transmission (12 R295). -/
def retransmitTimer (d : DieId) (q : W32) (s : State) : State :=
  match streamTo s d with
  | none => s
  | some t =>
    if canResend s t && t.unacked.any (fun u => u.seq == q && decide (u.count < 4) && decide (64000 ≤ since s u.last)) then
      resend d q (countResend (wakeDoze { s with felt := { s.felt with retxTimer := sat16 s.felt.retxTimer } }))
    else s

/-- 1 µs without another frame; in SLEEP 100 µs on Ethernet (12 R298). -/
def heartbeatTimer (d : DieId) (s : State) : State :=
  match streamTo s d with
  | none => s
  | some t =>
    let limit := if s.pwr.st = .sleep ∧ t.eth then 800000 else 8000
    if beatStream t && decide (limit ≤ since s t.lastSent) then
      let s := if s.pwr.st = .sleep then s else wakeDoze s
      sendUnseq d (beatBody s) s
    else s

/-- 8 µs after a SYNC (12 R296). -/
def syncResend (d : DieId) (s : State) : State :=
  match streamTo s d with
  | none => s
  | some t =>
    if t.peerPower ≠ 2 ∧ s.pwr.st ≠ .sleep ∧ 64000 ≤ since s t.lastSent ∧ (t.syncs < 4 ∨ s.boot.phase ≠ .run) then
      if t.st = .sync then sendSync d (wakeDoze s)
      else if t.st = .closing ∧ !t.closeOwed then sendSyncClose d (wakeDoze s)
      else s
    else s

/-- 1 µs while a frame, or a copy of HALT, waits for a peer in SLEEP (12 R302, R303). -/
def wakeResend (d : DieId) (s : State) : State :=
  match streamTo s d with
  | none => s
  | some t =>
    if t.peerPower = 2 ∧ s.pwr.st ≠ .sleep ∧ (waitsFor s d || !t.unacked.isEmpty || !t.haltCopies.isEmpty ||
        (t.st == .closing && !t.closeOwed)) ∧ t.st ≠ .down ∧
        8000 ≤ since s t.lastSent
    then sendUnseq d .wake (wakeDoze s) else s

/-- 8 µs after no stream could be had (12 R297). -/
def seekRetry (d : DieId) (s : State) : State :=
  if (streamTo s d).isNone ∧ waitsFor s d ∧ !s.felt.seekAt.any (fun e => e.1 == d && lately s e) then
    match seekStream d (wakeDoze s) with
    | (true, s) => s
    | (false, s) => noStreamFor d s
  else s

/-- 2 µs after the stream went DOWN with no TAKEOVER (13 R324). -/
def peerHoldTimeout (d : DieId) (s : State) : State :=
  if s.felt.peerHeld.any (fun h => h.1 == d) ∧ (streamTo s d).all (fun t => t.st != .down || decide (16000 ≤ since s t.downAt)) then
    holdTimeout d (wakeDoze s)
  else s

/-! ## GS_FELT_PEER_CMD (12 R297, R300) -/

/-- End of a command. -/
def feltErr (e : BitVec 3) (s : State) : State := { s with felt := { s.felt with cmdErr := e } }

/-- REJOIN. -/
def rejoinCmd (s : State) : State :=
  match selStream s with
  | none => feltErr 1 s
  | some t =>
    if t.st ≠ .down then feltErr 1 s
    else if since s t.downAt < 160000 then feltErr 3 s
    else if t.eth && !t.pinned then feltErr 0 (freeStream t.peer s)
    else feltErr 0 (modStream t.peer (fun u => { u with st := .closed, peerPower := 0, peerHalted := false, syncs := 0 }) s)

/-- CLOSE. -/
def closeCmd (s : State) : State :=
  match selStream s with
  | none => feltErr 1 s
  | some t => if t.pinned ∨ t.st ≠ .up then feltErr 1 s else feltErr 0 (sendSyncClose t.peer s)

end Sys2Proof.Machine
end

