-- ==== Sys2Proof/Machine/Context.lean ====
section
/-! DEFINITION. OPEN and CLEAR of contexts, and the invalidation commands of the translation cache (11 R254-R257, R268-R274;
10 R251; 20 R456). -/

namespace Sys2Proof.Machine

/-- Change the context unit's state. -/
def modCtxs (f : Contexts → Contexts) (s : State) : State := { s with ctx := f s.ctx }

/-- Drop a context's cached translations. -/
def dropCached (c : CtxId) (s : State) : State :=
  { s with xl := { s.xl with cache := s.xl.cache.filter (fun e => e.ctx != c) } }

/-- Zero a context's counters, one that an error left unreadable included (14 R352; 13 R311). -/
def zeroCounters (c : CtxId) (s : State) : State :=
  modCtxs (fun x => { x with cnt := terase x.cnt c.toNat })
    { s with res := { s.res with stuck := s.res.stuck.filter (fun e => !(e.1 == 1 && e.2 / 2 == c.toNat)) } }

/-! ## OPEN (R255, R256) -/

/-- Make a FREE context LIVE. -/
def openContext (c : CtxId) (s : State) : State :=
  modCtx c.toNat (fun e => { e with state := .live, chain := [] }) (zeroCounters c (dropCached c s))

/-! ## CLEAR (R269-R272) -/

/-- An operation granted before CLEAR waits for the combining record of a handle: it completes first (R269). -/
def recHeld (s : State) (c : CtxId) (h : W32) : Bool := s.qu.held.any (fun j => j.target == .record c h)

/-- Close the combining records of a context's handles, and forget what they completed: each pending arrival gets a
DECKLE_GONE release. -/
def clearRecords (c : CtxId) (s : State) : State :=
  let mine := fun (s : State) (r : DieRec) => r.ctx == c && !recHeld s c r.handle
  let s := (s.couch.recs.filter (mine s)).foldl (fun s r => refuseHere c r.handle stDeckleGone r.epoch s) s
  { s with couch := { s.couch with
    recs := s.couch.recs.filter (fun r => !mine s r), roles := s.couch.roles.filter (fun r => r.ctx != c)
    done := s.couch.done.filter (fun d => d.ctx != c || d.slot.isSome) } }

/-- Free the descriptors that remain in a context (10 R251). -/
def clearDescs (c : CtxId) (s : State) : State :=
  (s.la.descs.filter (fun d => d.2.ctx == c && descArmed s d.1)).foldl (fun s d =>
    let before := bytesAt s d.2.slot
    disarmDesc d.1 none (bumpIf d.2.slot before (unlink d.2.slot d.2.entry s))) s

/-- Disable the launch queues of a context. -/
def clearQueues (c : CtxId) (s : State) : State :=
  { s with la := { s.la with queues := s.la.queues.map (fun l => if l.ctx = c then { l with en := false } else l) } }

/-- CLEAR ends (R272). -/
def clearEnd (c : CtxId) (s : State) : State :=
  let s := zeroCounters c (modCtx c.toNat (fun e => { e with state := .free }) s)
  assertSource 0x04 (modCtxs (fun x => { x with busy := false, clearing := none, clrDone := true }) s)

/-- Remove the objects of a clearing context, oldest first, but those that a lock or an operation granted before CLEAR still
keeps. -/
def clearObjs (c : CtxId) (s : State) : State :=
  (tgetD s.ctx.tab c.toNat {}).chain.foldl (fun s n => if blocked s (.slot n) then s else removeObj n stDeckleGone true s) s

/-- The cycle after CLEAR was accepted (R269): what was granted in the accepting cycle went before, and what is parked for a
walk will be answered DECKLE_GONE. -/
def clearBegin (c : CtxId) (s : State) : State :=
  let s := modCtx c.toNat (fun e => { e with state := .clearing }) (dropCached c s)
  let s := { s with xl := { s.xl with
    parked := s.xl.parked.map (fun p => if p.ctx = c then { p with gone := true } else p) } }
  clearQueues c (abortAllOpen (fun r => r.ctx == c) 0xB s)

/-- CLEAR goes on in every cycle until nothing of the context is left. -/
def clearGo (s : State) : State :=
  match s.ctx.clearing with
  | none => s
  | some c =>
    let s := if ctxState s c = .live then clearDescs c (clearObjs c (clearRecords c (clearBegin c s)))
      else clearObjs c (clearRecords c s)
    if (tgetD s.ctx.tab c.toNat {}).chain.isEmpty && !s.couch.recs.any (fun r => r.ctx == c) &&
        !s.qu.held.any (fun j => match j.target with | .record d _ => d == c | .slot _ => false)
    then clearEnd c s else s

/-- CLEAR accepted: it takes effect at the end of the cycle. -/
def clearStart (c : CtxId) (s : State) : State :=
  modCtxs (fun x => { x with busy := true, err := 0, clearing := some c, clrCtx := c }) s

/-! ## GS_CTX_CMD and GS_TC_CMD (R268, R274) -/

/-- A command of GS_CTX_CMD on the context of GS_CTX_SEL. -/
def ctxCommand (cmd : BitVec 2) (s : State) : State :=
  let c := s.ctx.sel
  let e := tgetD s.ctx.tab c.toNat {}
  let fail := fun (n : BitVec 3) => modCtxs (fun x => { x with err := n }) s
  if s.ctx.busy ∨ cmd = 0 then s
  else if cmd = 3 then fail 4
  else if c = 0 then fail 2
  else if cmd = 1 then
    if e.state ≠ .free then fail 1
    else if e.l1len = 0 then fail 3
    else openContext c (modCtxs (fun x => { x with err := 0 }) s)
  else if e.state ≠ .live then fail 1
  else clearStart c s

/-- A command of GS_TC_CMD. -/
def tcCommand (cmd : BitVec 2) (c : CtxId) (s : State) : State :=
  if s.xl.tcBusy then s
  else
    let h := s.xl.tcHandle
    let s := { s with xl := { s.xl with tcCtx := c } }
    if cmd = 1 then tcInvalidate (fun d g => d == c && g == h) s
    else if cmd = 2 then tcInvalidate (fun d _ => d == c) s
    else if cmd = 3 then tcInvalidate (fun _ _ => true) s
    else s

end Sys2Proof.Machine
end

