-- ==== Sys2Proof/Machine/Cycle.lean ====
section
/-! DEFINITION. One GCLK cycle around a command, and what every cycle does by itself (01 R14-R21; 06 R160-R162; 08 R205;
18 R421; log entry 1). -/

namespace Sys2Proof.Machine

/-! ## LINKS ends (18 R421) -/

/-- The die enters RUN. -/
def enterRun (linkto : Bool) (s : State) : State :=
  let owed := s.boot.stepEnOwed
  let us : W32 := BitVec.ofNat 32 ((now s - s.boot.resetTime).toNat / 8000)
  let bub := s.pwr.bubEn || s.boot.bubEnOwed
  let s := { s with boot := { s.boot with phase := .run, linkto, us, stepEnOwed := false, bubEnOwed := false } }
  let s := { s with felt := { s.felt with streams := s.felt.streams.map (fun t => { t with syncs := 0 }) } }
  let s := modPwr (fun p => { p with bubEn := bub }) s
  if owed then stepStart s else s

/-- Every pinned stream is UP. -/
def linksUp (s : State) : Bool := s.felt.streams.all (fun t => !t.pinned || t.st == .up)

/-- LINKS ends when every pinned stream is UP. -/
def linksCheck (s : State) : State := if s.boot.phase = .links ∧ linksUp s then enterRun false s else s

/-! ## Before the command -/

/-- The clock GCLK runs: rows that only GCLK drives have no effect in DOZE, SLEEP or OFF (16 R373). -/
def gclkOn (s : State) : Bool := s.pwr.st != .doze && s.pwr.st != .sleep && !s.pwr.off && s.boot.phase != .reset

/-- IRQ[15:0] in cycle `c`: they follow their sources while GCLK runs and hold their levels while it is stopped (15 R363,
R369). -/
def irqNext (c : Nat) (s : State) : List (Nat × BitVec 16) × BitVec 16 :=
  if gclkOn s then irqPlan c s else (s.irq.due, s.pins.irq)

/-- A cycle begins: the outputs of one cycle end and its counts restart. -/
def tick (s : State) : State :=
  let q := irqNext (s.clk.cycle + 1) s
  { s with
    irq := { s.irq with due := q.1 }
    pins := { s.pins with irq := q.2, calLoad := [] }
    clk := { s.clk with cycle := s.clk.cycle + 1 }
    res := { s.res with waiting := s.res.waiting - 1 }
    cal := { s.cal with p := if s.cal.edges = 0 then 0 else min 63 (s.cal.p + Config.aoscQuarters s.clk.cycle) }
    felt := { s.felt with wire := [] }
    reel := { s.reel with closing := false }
    hb := { s.hb with slot0 := false, granted := 0, grantedR := 0 } }

/-! ## After it -/

/-- A frame of this die to itself, taken in. -/
def loopOne (s : State) : State :=
  match s.felt.loop with
  | [] => s
  | (stage, b) :: r => handOver (myDie s) stage b { s with felt := { s.felt with loop := r } }

/-- A frame handed back, treated by its unit. -/
def returnOne (s : State) : State :=
  match s.felt.returned with
  | [] => s
  | f :: r => returnedFrame fwBounce f { s with felt := { s.felt with returned := r } }

/-- An answer to the step unit, taken in. -/
def stepOne (s : State) : State :=
  match s.step.inbox with
  | [] => s
  | f :: r => stepTake f { s with step := { s.step with inbox := r } }

/-- Take in what this cycle built for this die itself, up to `n` of each. -/
def drain : Nat → State → State
  | 0, s => s
  | n + 1, s =>
    if s.felt.loop.isEmpty && s.felt.returned.isEmpty && s.step.inbox.isEmpty then s
    else drain n (stepOne (returnOne (loopOne s)))

/-- Test the Watermarks of the six block queues (08 R205, R206). -/
def qwmAll (s : State) : State :=
  qwmTest 5 32 (storeUsed s) (qwmTest 4 1 (notifWaiting s) (qwmTest 3 4 (redUsed s)
    (qwmTest 2 16 (barPend s) (qwmTest 1 256 (watchUsed s) (qwmTest 0 32 (poolUsed s) s)))))

/-- The rest of a cycle: acceptance, grants, and what they bring about. `chain`: a chained INVOKE waited when the cycle
began (06 R161). -/
def settle (chain : Bool) (s : State) : State :=
  let s := resumeWalks (drain 256 (acceptPorts (handCells s)))
  let s := drain 256 (grantCycle chain s)
  let s := drain 256 (stepTry (dumpResume (braceGo (clearGo (payOwed s)))))
  let s := raiseGrants (seekWaiting (answerCloses s))
  emit (qwmAll (linksCheck (pumpTx (flashNext s))))

/-- The map of the agents to the MESH ports, put in place. -/
def withMap (m : BitVec 2048) (s : State) : State := { s with regp := { s.regp with meshMap := m } }

/-- A command that falls in one cycle. Neither the queue of commands nor the Kind Table is the cycle's to change, and a write of
GS_MESH_MAP counts for the flits of the next cycle on (19 R437). -/
def inCycle (f : State → State) (s : State) : State :=
  let u := f (tick s)
  let t := withMap u.regp.meshMap (settle (!s.hb.chains.isEmpty) (withMap s.regp.meshMap u))
  { t with pending := s.pending, kt := { t.kt with kinds := s.kt.kinds } }

/-- A reset or the end of LOAD, in one cycle: these alone change the Kind Table (04 R116). -/
def bootCycle (f : State → State) (s : State) : State :=
  let u := f (tick s)
  let t := settle false u
  { t with pending := s.pending, kt := { t.kt with kinds := u.kt.kinds } }

/-- A cycle in which no command comes (log entry 1). -/
def idleCycle (s : State) : State := inCycle (fun s => s) s

/-- An effect that GCLK drives. -/
def whenClk (f : State → State) (s : State) : State := if gclkOn s then f s else s

end Sys2Proof.Machine
end

