-- ==== Sys2Proof/Machine/Mesh.lean ====
section
/-! DEFINITION. The commands on the MESH ports, and the cycles in which what they started goes on: a flit offered on a
port waits there until it is accepted, and takes effect when it is granted (02 R36-R39, R44, R46; 06 R160; 19 R433). -/

namespace Sys2Proof.Machine

/-- A flit offered on a MESH port, in one cycle. -/
def meshRow (p : Port) (opcode : Byte) (f : Flit) (s : State) : Host.Outcome State Fault Refusal :=
  .next (inCycle (offer { port := p, opcode, f }) s)

/-- NOP (02 R34). -/
def execNop (p : Port) (f : Flit) (s : State) : Host.Outcome State Fault Refusal := meshRow p opNop f s

/-- READ (03 R78). -/
def execRead (p : Port) (f : Flit) (s : State) : Host.Outcome State Fault Refusal := meshRow p opRead f s

/-- SIGNAL (03 R78). -/
def execSignal (p : Port) (f : Flit) (s : State) : Host.Outcome State Fault Refusal := meshRow p opSignal f s

/-- SET (03 R78). -/
def execSet (p : Port) (f : Flit) (s : State) : Host.Outcome State Fault Refusal := meshRow p opSet f s

/-- TAKE (03 R78, 08 R189). -/
def execTake (p : Port) (f : Flit) (s : State) : Host.Outcome State Fault Refusal := meshRow p opTake f s

/-- GIVE (03 R78). -/
def execGive (p : Port) (f : Flit) (s : State) : Host.Outcome State Fault Refusal := meshRow p opGive f s

/-- ARRIVE (06 R148-R153). -/
def execArrive (p : Port) (f : Flit) (s : State) : Host.Outcome State Fault Refusal := meshRow p opArrive f s

/-- ARRIVE_R (07 R164-R189). -/
def execArriveR (p : Port) (f : Flit) (s : State) : Host.Outcome State Fault Refusal := meshRow p opArriveR f s

/-- CAS (03 R78). -/
def execCas (p : Port) (f : Flit) (s : State) : Host.Outcome State Fault Refusal := meshRow p opCas f s

/-- WATCH (05 R119-R123). -/
def execWatch (p : Port) (f : Flit) (s : State) : Host.Outcome State Fault Refusal := meshRow p opWatch f s

/-- UNWATCH (05 R128-R131). -/
def execUnwatch (p : Port) (f : Flit) (s : State) : Host.Outcome State Fault Refusal := meshRow p opUnwatch f s

/-- MOVE (05 R139-R141). -/
def execMove (p : Port) (f : Flit) (s : State) : Host.Outcome State Fault Refusal := meshRow p opMove f s

/-- QBEGIN (09 R210, R211). -/
def execQbegin (p : Port) (f : Flit) (s : State) : Host.Outcome State Fault Refusal := meshRow p opQbegin f s

/-- QOP (09 R213, R214). -/
def execQop (p : Port) (f : Flit) (s : State) : Host.Outcome State Fault Refusal := meshRow p opQop f s

/-- QCOMMIT (09 R215). -/
def execQcommit (p : Port) (f : Flit) (s : State) : Host.Outcome State Fault Refusal := meshRow p opQcommit f s

/-- QABORT (09 R216). -/
def execQabort (p : Port) (f : Flit) (s : State) : Host.Outcome State Fault Refusal := meshRow p opQabort f s

/-- ARM (10 R241-R245). -/
def execArm (p : Port) (f : Flit) (s : State) : Host.Outcome State Fault Refusal := meshRow p opArm f s

/-- DISARM (10 R249). -/
def execDisarm (p : Port) (f : Flit) (s : State) : Host.Outcome State Fault Refusal := meshRow p opDisarm f s

/-- INVOKE (04 R94). -/
def execInvoke (p : Port) (f : Flit) (s : State) : Host.Outcome State Fault Refusal := meshRow p opInvoke f s

/-- PROBE (03 R82, 17 R408). -/
def execProbe (p : Port) (f : Flit) (s : State) : Host.Outcome State Fault Refusal := meshRow p opProbe f s

/-- TRACE_MARK (14 R345-R347). -/
def execTraceMark (p : Port) (f : Flit) (s : State) : Host.Outcome State Fault Refusal := meshRow p opTraceMark f s

/-- An opcode that 02 R32 leaves undefined (R33). -/
def execUndefinedOpcode (p : Port) (opcode : Byte) (f : Flit) (s : State) : Host.Outcome State Fault Refusal :=
  meshRow p opcode f s

/-- A continuation flit (02 R36-R38). -/
def execBurstContinuation (p : Port) (opcode : Byte) (f : Flit) (s : State) : Host.Outcome State Fault Refusal :=
  meshRow p opcode { f with cont := true } s

/-- 1,024 GCLK without the continuation of an agent's burst (02 R38). -/
def execBurstTimeout (agent : AgentId) (s : State) : Host.Outcome State Fault Refusal :=
  .next (inCycle (whenClk (burstTimeout agent)) s)

/-! ## Egress (01 R21; 02 R49; 05 R137; 06 R148) -/

/-- A flit that waits for a port and was built in an earlier cycle. -/
def egWaits (s : State) (p : Port) (f : EgFlit) : Bool := portOf s f.f.agent == p.val && decide (f.built < s.clk.cycle)

/-- A flit has waited 16 cycles from its first arbitration cycle, the one after it was built. -/
def egAged (s : State) (f : EgFlit) : Bool := decide (f.built + 17 ≤ s.clk.cycle)

/-- The flit that a port sends next: the second flit of one half sent, else in order of production once one has waited 16
cycles, else by class. -/
def egPick (s : State) (p : Port) : Option EgFlit :=
  let l := s.eg.queue.filter (egWaits s p)
  match l.find? (·.half) with
  | some f => some f
  | none =>
    if l.any (egAged s) then l.head?
    else match l.find? (fun f => f.prio == 0) with
      | some f => some f
      | none => match l.find? (fun f => f.prio == 1) with
        | some f => some f
        | none => l.head?

/-- A flit has left: the pending arrival that waited for its release ends (06 R148). -/
def egLeft (f : EgFlit) (s : State) : State :=
  let s := { s with eg := { s.eg with queue := dropFirst (· == f) s.eg.queue } }
  match f.pend with
  | none => s
  | some i => { s with couch := { s.couch with pend := s.couch.pend.filter (fun a => a.id != i) } }

/-- One transfer on a port. -/
def egTransfer (p : Port) (s : State) : State :=
  match egPick s p with
  | none => s
  | some f =>
    let s := { s with eg := { s.eg with out := tset s.eg.out p.val (f.f, f.half) } }
    if f.f.two && !f.half then
      { s with eg := { s.eg with queue := s.eg.queue.map (fun g => if g = f then { g with half := true } else g) } }
    else egLeft f s

/-- EGRESS_TRANSFER: the mesh takes a flit on a port. -/
def execEgressTransfer (p : Port) (s : State) : Host.Outcome State Fault Refusal :=
  .next (inCycle (whenClk (egTransfer p)) s)

/-! ## Grants beside the ports -/

/-- A chained INVOKE takes slot 0 (04 R109-R111; 06 R161). -/
def execChainedInvoke (s : State) : Host.Outcome State Fault Refusal :=
  .next (inCycle (fun s => if canGrant s then grantChain s else s) s)

/-- The first post-operation of the launcher goes to the die arbiter as a LINK operation (10 R246). -/
def postNext (s : State) : State :=
  match s.la.posts with
  | [] => s
  | k :: r => { s with la := { s.la with posts := r }, hb := { s.hb with link := s.hb.link ++ [.post k] } }

/-- POST_OPERATION. -/
def execPostOperation (s : State) : Host.Outcome State Fault Refusal :=
  .next (inCycle (fun s => if canGrant s && s.pwr.st != .doze then postNext s else s) s)

/-- LOCKED_OP_RESTART (09 R222). -/
def execLockedOpRestart (s : State) : Host.Outcome State Fault Refusal := .next (inCycle (whenClk restartHeld) s)

/-- QUIRE_PREPARE_UNPARK (09 R222, R226). -/
def execQuirePrepareUnpark (s : State) : Host.Outcome State Fault Refusal := .next (inCycle (whenClk unpark) s)

/-- TABLE_WALK_START (11 R267). -/
def execTableWalkStart (s : State) : Host.Outcome State Fault Refusal := .next (inCycle (whenClk walkNext) s)

/-! ## Watch timers -/

/-- The lifetime of a forwarding stub ends (05 R141). -/
def execStubExpiry (agent : AgentId) (inc : Byte) (s : State) : Host.Outcome State Fault Refusal :=
  .next (inCycle (whenClk (stubExpire agent inc)) s)

/-- The holdoff of a Watermark ends, which wakes the die from DOZE (08 R200; 16 R375). -/
def execWmHoldoffEnd (rec : BitVec 13) (s : State) : Host.Outcome State Fault Refusal :=
  .next (inCycle (fun s =>
    if (tget s.wm.recs rec.toNat).any (·.holdoff) then whenClk (wmHoldoffEnd rec.toNat) (wakeDoze s) else s) s)

end Sys2Proof.Machine
end

