-- ==== Sys2Proof/Machine/Scrub.lean ====
section
/-! DEFINITION. The scrubber, uncorrectable errors in every array, fatal errors, and GS_RES_CMD (13 R304, R308, R310-R313; 01 R25;
07 R186; 14 R350). What an array's word belongs to follows from the sizes of 01 R25 (log entry 47). -/

namespace Sys2Proof.Machine

/-! ## ARRAY_UE and FATAL (R311, R313) -/

/-- An array's number in the order of 01 R25. -/
def arrayNo : ArrayId → Nat
  | .vatA => 0 | .vatB => 1 | .watch => 2 | .pool => 3 | .launcher => 4 | .red => 5 | .retx => 6 | .sqmem => 7 | .ctx => 8
  | .kind => 9 | .counters => 10 | .cache => 11 | .quire => 12 | .log => 13

/-- SUBJECT of an ARRAY_UE entry. -/
def arraySubject (a : ArrayId) (word : BitVec 24) : W32 := BitVec.ofNat 32 (2 ^ 24 * arrayNo a + word.toNat)

/-- A fatal error (R313). -/
def fatal (subject : W32) (s : State) : State :=
  logEvent 0x11 none subject 0 0
    { s with res := { s.res with fatal := true }, pins := { s.pins with fatalN := false } }

/-! ## Per array (R311) -/

/-- A watch-table entry lost. A request freed from a queue changes nothing else of its object (log entry 91). -/
def lostEntry (ix : Nat) (s : State) : State :=
  match tget s.wt.entries ix with
  | none => s
  | some (.queued n op held) =>
    let before := bytesAt s n
    let s := if (slotAt s n).lost then unlink n ix s
      else match held with
        | none => answerZ op stRetry (unlink n ix s)
        | some e => sendRelease op (releaseFlit op stRetry e 0 0) none (unlink n ix s)
    bumpIf n before s
  | some (.watch w) => dropWatch ix w s
  | some (.armed n d) =>
    let before := bytesAt s n
    disarmDesc d none (bumpIf n before (unlink n ix s))
  | some (.standby w _ _) => freeEntry ix (putList w.slot ((listAt s w.slot).filter (· != ix)) s)
  | some _ => freeEntry ix s

/-- A launcher-store slot lost. -/
def lostStore (k : Nat) (s : State) : State :=
  match tget s.la.descs k with
  | some d =>
    let before := bytesAt s d.slot
    disarmDesc k none (if descArmed s k then bumpIf d.slot before (unlink d.slot d.entry s) else s)
  | none => match tget s.wm.recs k with
    | some r => wmDetach k r.slot s
    | none => s

/-- A lane is lost with a reduction slot's word: a lane takes five words of 64 bits, and after eight lanes comes the slot's
state. -/
def laneLost (w i : Nat) : Bool := decide (40 ≤ w) || i == w / 5

/-- Poison the lanes of a set that a word's error loses. -/
def poisonAt (w : Nat) (l : Lanes) : Lanes :=
  { l with parts := l.parts.mapIdx (fun i p => if laneLost w i then poisonLane p else p) }

/-- The sets of lanes held: objects first, then die records, then role records. A set's place is its reduction slot's number
(log entry 87). -/
def laneSets (s : State) : List Lanes :=
  s.couch.objs.filterMap (·.2.lanes) ++ s.couch.recs.filterMap (·.lanes) ++ s.couch.roles.filterMap (·.lanes)

/-- Log and count the lanes that an error in a set poisons (07 R186; 13 R329). -/
def notePoison (k w : Nat) (s : State) : State :=
  match (laneSets s)[k]? with
  | none => s
  | some l =>
    let lost := l.parts.zipIdx.filter (fun p => laneLost w p.2)
    let mask := lost.foldl (fun m p => m + 2 ^ p.2) 0
    let fresh := (lost.filter (fun p => poisonLane p.1 != p.1)).length
    if lost.isEmpty then s
    else logEvent 0x08 none (BitVec.ofNat 32 k) (BitVec.ofNat 64 mask) 0
      { s with couch := { s.couch with redPoison := min 0xFFFF (s.couch.redPoison + fresh) } }

/-- Poison the `k`-th set of lanes held. -/
def lostLanes (k w : Nat) (s : State) : State :=
  let s := notePoison k w s
  let c := s.couch
  let hit := fun (n : Nat) (o : Option Lanes) => match o with
    | some l => (n + 1, some (if n = k then poisonAt w l else l))
    | none => (n, none)
  let (n, objs) := c.objs.foldl (fun (acc : Nat × Tbl ObjArr) e =>
    let (n, l) := hit acc.1 e.2.lanes
    (n, acc.2 ++ [(e.1, { e.2 with lanes := l })])) (0, [])
  let (n, recs) := c.recs.foldl (fun (acc : Nat × List DieRec) r =>
    let (n, l) := hit acc.1 r.lanes
    (n, acc.2 ++ [{ r with lanes := l }])) (n, [])
  let (_, roles) := c.roles.foldl (fun (acc : Nat × List RoleRec) r =>
    let (n, l) := hit acc.1 r.lanes
    (n, acc.2 ++ [{ r with lanes := l }])) (n, [])
  modCouch (fun c => { c with objs, recs, roles }) s

/-- The stream that holds the `k`-th 64-byte cell of the retransmit store. -/
def cellStream (k : Nat) : List Stream → Option Stream
  | [] => none
  | t :: r =>
    let n := t.unacked.foldl (fun m u => m + (bodyLen u.body + 63) / 64) 0
    if k < n then some t else cellStream (k - n) r

/-- A quire record lost: at its origin the quire aborts with cause RESOURCE; at a home it votes NO. -/
def lostQuire (q : Nat) (s : State) : State :=
  let key := keyOf s q
  let s : State := match tget s.qu.recs q with
    | none => s
    | some r =>
      if r.state = .opened then abortOpen q r 8 s
      else if r.state = .preparing then
        if isDieLevel s key then decideDie key true 8 s
        else sendAll (voteHosts s r.level r.coord) (.qvote key true 8 0 stRetry) s
      else s
  (s.qu.homes.filter (fun h => h.key.qid.toNat == q && !h.voted)).foldl (fun s h =>
    let s := { s with qu := { s.qu with parked := s.qu.parked.filter (fun p => p.key != h.key) } }
    let s := modHome h.key (fun h => { h with
      no := some (8, ((h.members.find? (fun m => !m.done)).map (·.pos)).getD 0)
      members := h.members.map (fun m => if m.done then m else { m with done := true, refused := true, status := stRetry }) }) s
    castVote h.key s) s

/-- Counters that read all ones until they are cleared: two of an agent, both of a context, or an always-on one. -/
def lostCounters (w : Nat) (s : State) : State :=
  let l := if w < 4096 then [(0, 2 * w), (0, 2 * w + 1)]
    else if w < 8192 then [(1, 2 * (w - 4096)), (1, 2 * (w - 4096) + 1)] else [(2, w % 20)]
  { s with res := { s.res with stuck := (s.res.stuck ++ l).eraseDups } }

/-- The kinds' share of the store, 85 words each. -/
def lostKind (w : Nat) (s : State) : State :=
  match s.kt.kinds[w / 85]? with
  | none => s
  | some u => { s with kt := { s.kt with bad := if s.kt.bad.contains u.code then s.kt.bad else s.kt.bad ++ [u.code] } }

/-! ## Visits (R304, R312) -/

/-- What the check bits of a slot's copies show. -/
def markCopies (n : Nat) (a b : CopyErr) (s : State) : State :=
  let x := slotAt s n
  let or_ := fun (x y : CopyErr) => { ue := x.ue || y.ue, seqUe := x.seqUe || y.seqUe, single := x.single || y.single : CopyErr }
  putSlot n { x with a := { x.a with err := or_ x.a.err a }, b := { x.b with err := or_ x.b.err b } } s

/-- An uncorrectable error in a word of an array. -/
def arrayError (a : ArrayId) (word : BitVec 24) (s : State) : State :=
  let w := word.toNat
  let count := fun (s : State) => { s with res := { s.res with ue := sat16 s.res.ue } }
  let log := fun (s : State) => logEvent 0x07 (some 0x08) (arraySubject a word) 0 0 (count s)
  match a with
  | .vatA => readSlot (w / 4 % 131072) (markCopies (w / 4 % 131072) { ue := true } {} s)
  | .vatB => readSlot (w / 4 % 131072) (markCopies (w / 4 % 131072) {} { ue := true } s)
  | .watch => lostEntry (w / 4) (log s)
  | .pool => fatal (arraySubject a word) (log s)
  | .ctx => fatal (arraySubject a word) (log s)
  | .launcher => lostStore (w / 8) (log s)
  | .red => lostLanes (w / 48) (w % 48) (log s)
  | .retx =>
    let s := log s
    match cellStream (w / 8) s.felt.streams with
    | some t => streamDown t .retransmit s
    | none => s
  | .sqmem => restartSq (if w < 32768 then 0 else 1) 1 (log s)
  | .kind => lostKind w (log s)
  | .counters => lostCounters w (log s)
  | .cache =>
    let s := log s
    { s with xl := { s.xl with cache := s.xl.cache.eraseIdx (w % 4096) } }
  | .quire => lostQuire (w / 8 % 512) (log s)
  | .log => log (logFail (word.setWidth 32) s)

/-- A word of an array as its check bits show it. The translation cache has parity alone, which corrects nothing. -/
def arrayWord (a : ArrayId) (word : BitVec 24) (e : WordErr) (s : State) : State :=
  let n := word.toNat / 4 % 131072
  match e, a with
  | .none, _ => s
  | .ue, _ => arrayError a word s
  | .single, .cache => arrayError .cache word s
  | .single, .vatA => readSlot n (markCopies n { single := true } {} s)
  | .single, .vatB => readSlot n (markCopies n {} { single := true } s)
  | .single, _ => countCorr s

/-- One visit of the scrubber. -/
def scrubVisit (site : ScrubSite) (s : State) : State := match site with
  | .slot n a b =>
    let s := if a = {} ∧ b = {} then s else markCopies n.toNat a b s
    if s.res.scrubEn then readSlot n.toNat s else s
  | .watch ix e => arrayWord .watch (BitVec.ofNat 24 (4 * ix.toNat)) e s
  | .log ix e => arrayWord .log (BitVec.ofNat 24 (4 * ix.toNat)) e s
  | .array a word e => arrayWord a word e s

/-- SCRUB_VISIT. -/
def execScrubVisit (site : ScrubSite) (s : State) : Host.Outcome State Fault Refusal :=
  .next (inCycle (whenClk (scrubVisit site)) s)

/-! ## ACCEPT (R310) -/

/-- ACCEPT in GS_RES_CMD: it reads the slot as every access does. -/
def acceptSlot (n : Nat) (s : State) : State :=
  let s := readSlot n s
  if !(objAt s n).diverged then { s with res := { s.res with cmdErr := 1 } }
  else
    let before := bytesAt s n
    untrack n (bumpIf n before
      (modObj n (fun o => { o with diverged := false }) { s with res := { s.res with cmdErr := 0 } }))

end Sys2Proof.Machine
end

