-- ==== Sys2Proof/Machine/Events.lean ====
section
/-! DEFINITION. The commands of MEMP and of the timed units: responses and timeouts, power, pins, the step unit, the Calender, the
sequencers' hardware and the calibration commands' ends (10, 14, 16, 18, 19). -/

namespace Sys2Proof.Machine

/-- The block is powered and out of reset. -/
def alive (s : State) : Bool := !s.pwr.off && s.boot.phase != .reset

/-- An effect that needs no GCLK. -/
def whenOn (f : State → State) (s : State) : State := if alive s then f s else s

/-! ## MEMP (19 R439-R441, R475) -/

/-- WALK_READ_RESPONSE (11 R258-R264). -/
def execWalkReadResponse (tag : Byte) (err : BitVec 2) (data : BitVec 512) (s : State) : Host.Outcome State Fault Refusal :=
  .next (inCycle (whenClk (mempGot (fun u => match u with | .walk .. => true | _ => false) tag err data)) s)

/-- CONS_READ_RESPONSE (10 R240, R252). -/
def execConsReadResponse (tag : Byte) (err : BitVec 2) (data : BitVec 512) (s : State) : Host.Outcome State Fault Refusal :=
  .next (inCycle (whenClk (mempGot (fun u => match u with | .cons _ => true | .reelCons => true | _ => false) tag err data)) s)

/-- LAUNCH_WRITE_RESPONSE (10 R246, R252). -/
def execLaunchWriteResponse (tag : Byte) (err : BitVec 2) (s : State) : Host.Outcome State Fault Refusal :=
  .next (inCycle (whenClk (mempGot (fun u => match u with | .entry .. => true | .doorbell .. => true | _ => false) tag err 0)) s)

/-- REEL_WRITE_RESPONSE (14 R348). -/
def execReelWriteResponse (tag : Byte) (err : BitVec 2) (s : State) : Host.Outcome State Fault Refusal :=
  .next (inCycle (whenClk (mempGot (fun u => match u with | .reel _ => true | _ => false) tag err 0)) s)

/-- DUMP_WRITE_RESPONSE (14 R356). -/
def execDumpWriteResponse (tag : Byte) (err : BitVec 2) (s : State) : Host.Outcome State Fault Refusal :=
  .next (inCycle (whenClk (mempGot (fun u => match u with | .dump _ => true | _ => false) tag err 0)) s)

/-- BRACE_SUMMARY_RESPONSE (16 R382). -/
def execBraceSummaryResponse (tag : Byte) (err : BitVec 2) (s : State) : Host.Outcome State Fault Refusal :=
  .next (inCycle (whenClk (mempGot (fun u => match u with | .summary => true | _ => false) tag err 0)) s)

/-- CALW_BUFFER_RESPONSE (18 R424). -/
def execCalwBufferResponse (tag : Byte) (err : BitVec 2) (data : BitVec 512) (s : State) : Host.Outcome State Fault Refusal :=
  .next (inCycle (whenClk (mempGot (fun u => match u with | .calRead _ => true | .calStore _ => true | _ => false) tag err data)) s)

/-- MEMP_TIMEOUT (19 R441). -/
def execMempTimeout (tag : Byte) (s : State) : Host.Outcome State Fault Refusal :=
  .next (inCycle (whenClk (mempTimeout tag)) s)

/-- MEMP_LATE_RESPONSE (19 R441). -/
def execMempLateResponse (tag : Byte) (s : State) : Host.Outcome State Fault Refusal :=
  .next (inCycle (whenClk (mempLate tag)) s)

/-- MEMP_REQUEST_TRANSFER (19 R439, R475). -/
def execMempRequestTransfer (s : State) : Host.Outcome State Fault Refusal :=
  .next (inCycle (whenClk mempTransfer) s)

/-- LAUNCH_ISSUE (10 R239, R245-R248). -/
def execLaunchIssue (queue : Fin 16) (s : State) : Host.Outcome State Fault Refusal :=
  .next (inCycle (whenClk (launchIssue queue.val)) s)

/-- REEL_FLUSH (14 R346). -/
def execReelFlush (s : State) : Host.Outcome State Fault Refusal :=
  .next (inCycle (whenClk reelFlush) s)

/-- A CONS re-read, which wakes the die from DOZE when it is due (16 R375). -/
def consRereadRun (q : Nat) (s : State) : State :=
  if s.pwr.st = .sleep then s
  else
    let t := consReread q s
    if t.memp = s.memp then s else wakeDoze t

/-- CONS_REREAD (10 R240). -/
def execConsReread (queue : Fin 16) (s : State) : Host.Outcome State Fault Refusal :=
  .next (inCycle (whenOn (consRereadRun queue.val)) s)

/-! ## Power and pins (16) -/

/-- COOLANT_LOSS (16 R384; 12 R303). -/
def execCoolantLoss (s : State) : Host.Outcome State Fault Refusal :=
  .next (inCycle (whenOn coolantLoss) s)

/-- HALT_IN (16 R384; 12 R303). -/
def execHaltIn (s : State) : Host.Outcome State Fault Refusal :=
  .next (inCycle (whenOn haltIn) s)

/-- PWR_WARN_ASSERT (16 R379). -/
def execPwrWarnAssert (s : State) : Host.Outcome State Fault Refusal :=
  .next (inCycle (whenOn pwrWarnAssert) s)

/-- BRACED (16 R380, R382). -/
def execBraced (s : State) : Host.Outcome State Fault Refusal :=
  .next (inCycle (whenOn braced) s)

/-- PWR_WARN_DEASSERT (16 R379, R383). -/
def execPwrWarnDeassert (s : State) : Host.Outcome State Fault Refusal :=
  .next (inCycle (whenOn pwrWarnDeassert) s)

/-- DOZE_ENTRY (16 R373, R374). -/
def execDozeEntry (s : State) : Host.Outcome State Fault Refusal :=
  .next (inCycle (whenOn dozeEntry) s)

/-- SLEEP_ENTRY_COMPLETE (16 R376). -/
def execSleepEntryComplete (s : State) : Host.Outcome State Fault Refusal :=
  .next (inCycle (whenOn sleepComplete) s)

/-- SLEEP_ENTRY_TIMEOUT (16 R376). -/
def execSleepEntryTimeout (s : State) : Host.Outcome State Fault Refusal :=
  .next (inCycle (whenOn sleepTimeout) s)

/-- SLEEP_EXIT (16 R377, R378). -/
def execSleepExit (s : State) : Host.Outcome State Fault Refusal :=
  .next (inCycle (whenOn sleepExit) s)

/-- THERMAL_SAMPLE (16 R396, R398). -/
def execThermalSample (temp : Byte) (s : State) : Host.Outcome State Fault Refusal :=
  .next (inCycle (whenOn (thermalSample temp)) s)

/-- DROOP_CHANGE (16 R393, R394). -/
def execDroopChange (level : BitVec 3) (s : State) : Host.Outcome State Fault Refusal :=
  .next (inCycle (whenOn (droopChange level)) s)

/-! ## The step unit (16 R387-R392) -/

/-- STEP_TICK (16 R388-R390). -/
def execStepTick (stepReq : BitVec 6) (s : State) : Host.Outcome State Fault Refusal :=
  .next (inCycle (whenOn (stepTick stepReq)) s)

/-- STEP_GRANT_RISE (16 R391). -/
def execStepGrantRise (s : State) : Host.Outcome State Fault Refusal :=
  .next (inCycle (whenOn stepGrantRise) s)

/-- STEP_GRANT_FALL (16 R391). -/
def execStepGrantFall (s : State) : Host.Outcome State Fault Refusal :=
  .next (inCycle (whenOn stepGrantFall) s)

/-! ## The Calender and the agent counters (14) -/

/-- A TSYNC that is due wakes the die from DOZE (16 R375). -/
def tsyncDue (s : State) : State :=
  let t := tsyncInterval s
  if t.cal.xn = s.cal.xn then s else wakeDoze t

/-- TSYNC_INTERVAL (14 R338). -/
def execTsyncInterval (s : State) : Host.Outcome State Fault Refusal :=
  .next (inCycle (whenOn tsyncDue) s)

/-- FIT_POINT (14 R340). -/
def execFitPoint (s : State) : Host.Outcome State Fault Refusal :=
  .next (inCycle (whenOn fitPoint) s)

/-- FIT_END (14 R340). -/
def execFitEnd (s : State) : Host.Outcome State Fault Refusal :=
  .next (inCycle (whenOn fitEnd) s)

/-- PPS_IN (14 R344). -/
def execPpsIn (s : State) : Host.Outcome State Fault Refusal :=
  .next (inCycle (whenOn ppsEdge) s)

/-- PPS_OUT_RISE (14 R344). -/
def execPpsOutRise (s : State) : Host.Outcome State Fault Refusal :=
  .next (inCycle (whenOn ppsOutRise) s)

/-- PPS_OUT_FALL (14 R344). -/
def execPpsOutFall (s : State) : Host.Outcome State Fault Refusal :=
  .next (inCycle (whenOn ppsOutFall) s)

/-- REFCLK_EDGE (14 R334, R341). -/
def execRefclkEdge (s : State) : Host.Outcome State Fault Refusal :=
  .next (inCycle (whenOn refclkEdge) s)

/-- AGENT_COUNTER_TICK (14 R350, R351). -/
def execAgentCounterTick (s : State) : Host.Outcome State Fault Refusal :=
  .next (inCycle (whenOn agentTick) s)

/-! ## Sequencers, calibration, LINKS (18) -/

/-- LINKWAIT passes in LINKS (18 R421). -/
def linkwaitEnd (s : State) : State := if s.boot.phase = .links then enterRun true s else s

/-- WDOG_EXPIRY (18 R427). -/
def execWdogExpiry (sq : Fin 2) (s : State) : Host.Outcome State Fault Refusal :=
  .next (inCycle (whenOn (wdogExpiry sq.val)) s)

/-- SQ_FAULT (18 R427). -/
def execSqFault (sq : Fin 2) (s : State) : Host.Outcome State Fault Refusal :=
  .next (inCycle (whenOn (sqFault sq.val)) s)

/-- SQ_RELOAD_DONE (18 R428). -/
def execSqReloadDone (sq : Fin 2) (image : List Byte) (s : State) : Host.Outcome State Fault Refusal :=
  .next (inCycle (whenOn (sqReloadDone sq.val image)) s)

/-- CAL_FLASH_DONE (18 R424). -/
def execCalFlashDone (readback : BitVec 2048) (s : State) : Host.Outcome State Fault Refusal :=
  .next (inCycle (whenOn (calFlashDone readback)) s)

/-- CAL_FLASH_TIMEOUT (18 R424). -/
def execCalFlashTimeout (s : State) : Host.Outcome State Fault Refusal :=
  .next (inCycle (whenOn calFlashTimeout) s)

/-- LINKCAL_DONE (18 R425; 19 R445). -/
def execLinkcalDone (code : W32) (s : State) : Host.Outcome State Fault Refusal :=
  .next (inCycle (whenOn (linkcalDone code)) s)

/-- LINKCAL_TIMEOUT (18 R425). -/
def execLinkcalTimeout (s : State) : Host.Outcome State Fault Refusal :=
  .next (inCycle (whenOn linkcalTimeout) s)

/-- LINKWAIT_TIMEOUT (18 R421). -/
def execLinkwaitTimeout (s : State) : Host.Outcome State Fault Refusal :=
  .next (inCycle (whenOn linkwaitEnd) s)

end Sys2Proof.Machine
end

