-- ==== Sys2Proof/Machine/Security.lean ====
section
/-! DEFINITION. The security state, the TAP's instructions and the unlock (17 R399-R406). REGACC stands with the registers. -/

namespace Sys2Proof.Machine

/-- Change the security unit's state. -/
def modSec (f : Sec → Sec) (s : State) : State := { s with sec := f s.sec }

/-- What the TAP shifts out. -/
def tapOut (v : BitVec 256) (s : State) : State := modSec (fun c => { c with capture := v }) s

/-- STATE as GS_SEC_STAT shows it (R401). -/
def secCode : SecState → Nat
  | .virgin => 0 | .sealed_ => 1 | .openAuth => 2

/-- The rights in force (R401): all in VIRGIN, none in SEALED. -/
def grantNow (s : State) : BitVec 4 := match s.sec.st with
  | .virgin => 15
  | .sealed_ => 0
  | .openAuth => s.sec.grant

/-- GS_SEC_STAT (R401). -/
def secStat (s : State) : W32 :=
  let c := s.sec
  BitVec.ofNat 32 (2 ^ 30 * secCode c.st + 2 ^ 29 * bit c.token.isSome + 2 ^ 28 * bit c.lockout + 2 ^ 20 * c.fails
    + 2 ^ 16 * c.lastres.toNat + (grantNow s).toNat)

/-! ## The instruction register (R402) -/

/-- The TAP's instructions. -/
inductive TapInstr where
  | bypass | idcode | challenge | response | dbgstat | regacc | lock | vendor
  deriving DecidableEq, Repr

/-- The instruction that a code selects: each reserved one acts as BYPASS, and the vendor test codes do outside VIRGIN. -/
def tapInstr (virgin : Bool) (ir : BitVec 5) : TapInstr :=
  match ir.toNat with
  | 1 => .idcode
  | 2 => .challenge
  | 3 => .response
  | 4 => .dbgstat
  | 5 => .regacc
  | 6 => .lock
  | n => if virgin && decide (0x10 ≤ n) && decide (n ≤ 0x1E) then .vendor else .bypass

/-- Load the instruction register. -/
def tapLoad (ir : BitVec 5) : State → State := modSec (fun c => { c with ir })

/-! ## Instructions without effect on Gasuar (R402) -/

/-- IDCODE. -/
def idcodeWord : W32 := BitVec.ofNat 32 (2 ^ 28 * 3 + 2 ^ 12 * 0x6A51 + 2 * Config.idcodeMfr.toNat + 1)

/-- A scan through the register of the instruction in IR: BYPASS delays it by the one bit; what a vendor test shifts out in VIRGIN
is not stated (log entry 92). -/
def tapBypass (tdi : Bool) (s : State) : State :=
  if tapInstr (s.sec.st == .virgin) s.sec.ir = .vendor then
    let (v, s) := unstated s
    tapOut (v.setWidth 256) s
  else tapOut (BitVec.ofNat 256 (Machine.bit tdi)) s

/-- Capture of DBGSTAT. -/
def dbgstat (s : State) : State := tapOut ((secStat s).setWidth 256) s

/-! ## The unlock (R403, R404, R406, R409) -/

/-- Capture of CHALLENGE: a fresh nonce replaces any earlier one; in SLEEP and during a verification zeros, and none is issued. -/
def challenge (s : State) : State :=
  if s.pwr.st = .sleep ∨ s.sec.token.isSome then tapOut 0 s
  else
    let n := Config.nonce s.clk.free
    tapOut n (modSec (fun c => { c with nonce := some n }) { s with clk := { s.clk with free := s.clk.free + 1 } })

/-- GRANT of a token. -/
def tokenGrant (t : BitVec 1216) : BitVec 4 := t.extractLsb' 96 4

/-- EXPIRY of a token. -/
def tokenExpiry (t : BitVec 1216) : W64 := t.extractLsb' 128 64

/-- LASTRES of a RESPONSE as far as the checks before the signature go; 0 where all of them pass (R404). -/
def tokenErr (s : State) (t : BitVec 1216) : Nat :=
  let n := t.toNat
  let g := tokenGrant t
  let x := tokenExpiry t
  if s.sec.lockout then 2
  else if s.pwr.st = .sleep ∨ s.pwr.sleep ≠ .none ∨ s.sec.st ≠ .sealed_ then 3
  else if s.sec.token.isSome then 4
  else if fld n 0 32 ≠ 0x47445531 ∨ fld n 52 12 ≠ 0 ∨ fld n 100 12 ≠ 0 ∨ fld n 112 16 ≠ 0 ∨ g = 0 then 5
  else if s.sec.nonce ≠ some (t.extractLsb' 192 256) then 6
  else if fld n 32 20 ≠ (myDie s).toNat then 7
  else if fld n 72 24 ≠ versionReg.toNat / 2 ^ 8 then 8
  else if g &&& ~~~ s.boot.policy.dbgAllow ≠ 0 ∨ s.boot.policy.dbgKey.isNone then 9
  else if x ≠ 0 ∧ x.toNat ≤ (now s).toNat then 10
  else 0

/-- A failure that counts: the nonce is consumed, and the eighth one sets LOCKOUT. -/
def unlockFail (t : BitVec 1216) (res : Nat) (s : State) : State :=
  let s := modSec (fun c => { c with
    lastres := BitVec.ofNat 4 res, nonce := none, fails := satInc 15 c.fails
    lockout := c.lockout || decide (8 ≤ c.fails + 1) }) s
  logUnlock (tokenGrant t) (tokenExpiry t) res 0 s

/-- Update of RESPONSE: the checks up to the signature, which is then verified. -/
def response (t : BitVec 1216) (s : State) : State :=
  let e := tokenErr s t
  if e = 0 then modSec (fun c => { c with token := some t, spoiled := false }) s
  else if e ≤ 4 then modSec (fun c => { c with lastres := BitVec.ofNat 4 e }) s
  else unlockFail t e s

/-- The signature of a token under the debug key. -/
def tokenSigned (s : State) (t : BitVec 1216) : Bool := match s.boot.policy.dbgKey with
  | none => false
  | some k => Config.ecdsaP384 k (Config.sha384 56 (t.toNat % 2 ^ 448)) (t.extractLsb' 448 768)

/-- Verification ends. -/
def verifyDone (s : State) : State := match s.sec.token with
  | none => s
  | some t =>
    let bad := s.sec.spoiled
    let s := modSec (fun c => { c with token := none, spoiled := false }) s
    if bad then modSec (fun c => { c with lastres := 3 }) s
    else if !tokenSigned s t then unlockFail t 11 s
    else
      logUnlock (tokenGrant t) (tokenExpiry t) 1 0 (modSec (fun c => { c with
        lastres := 1, nonce := none, st := .openAuth, grant := tokenGrant t, expiry := tokenExpiry t }) s)

/-- TIME reaches a nonzero EXPIRY. -/
def unlockExpiry (s : State) : State :=
  if s.sec.expiry ≠ 0 ∧ s.sec.expiry.toNat ≤ (now s).toNat then endUnlock 3 s else s

/-! ## Commands -/

/-- IDCODE (R402). -/
def execIdcode (s : State) : Host.Outcome State Fault Refusal :=
  .next (inCycle (whenOn (fun s => tapOut (idcodeWord.setWidth 256) (tapLoad 1 s))) s)

/-- CHALLENGE (R403, R404). -/
def execChallenge (s : State) : Host.Outcome State Fault Refusal :=
  .next (inCycle (whenOn (fun s => challenge (tapLoad 2 s))) s)

/-- RESPONSE (R403, R404). -/
def execResponse (token : BitVec 1216) (s : State) : Host.Outcome State Fault Refusal :=
  .next (inCycle (whenOn (fun s => response token (tapLoad 3 s))) s)

/-- DBGSTAT (R401). -/
def execDbgstat (s : State) : Host.Outcome State Fault Refusal :=
  .next (inCycle (whenOn (fun s => dbgstat (tapLoad 4 s))) s)

/-- TAP_LOCK (R406). -/
def execTapLock (s : State) : Host.Outcome State Fault Refusal :=
  .next (inCycle (whenOn (fun s => endUnlock 1 (tapLoad 6 s))) s)

/-- BYPASS, with each code that acts as it (R402). -/
def execBypass (b : TapShift) (s : State) : Host.Outcome State Fault Refusal :=
  .next (inCycle (whenOn (fun s => tapBypass b.tdi (tapLoad b.ir s))) s)

/-- UNLOCK_VERIFY_DONE (R404, R405). -/
def execUnlockVerifyDone (s : State) : Host.Outcome State Fault Refusal := .next (inCycle (whenOn verifyDone) s)

/-- UNLOCK_EXPIRY (R406). -/
def execUnlockExpiry (s : State) : Host.Outcome State Fault Refusal := .next (inCycle (whenOn unlockExpiry) s)

end Sys2Proof.Machine
end

