-- ==== Sys2Proof/Machine/RegRead.lean ====
section
/-! DEFINITION. What a read of each register returns and clears, block by block of the register map (21 R458-R471). Offsets are byte
offsets; `none` is a reserved address. -/

namespace Sys2Proof.Machine

/-! ## Words -/

/-- A register word from a number. -/
def rw (n : Nat) : Option W32 := some (BitVec.ofNat 32 n)

/-- LO word of an address kept without its `d` low bits. -/
def loWord (d : Nat) (x : BitVec n) : Option W32 := rw (x.toNat * 2 ^ d)

/-- HI word of such an address. -/
def hiWord (d : Nat) (x : BitVec n) : Option W32 := rw (x.toNat * 2 ^ d / 2 ^ 32)

/-- Word `i` of a wide register. -/
def wordOf (x : BitVec n) (i : Nat) : Option W32 := rw (x.toNat / 2 ^ (32 * i))

/-- `a` is one of `k` words four bytes apart from `base` on. -/
def inWords (a base k : Nat) : Bool := decide (base ≤ a) && decide (a < base + 4 * k) && a % 4 == base % 4

/-! ## LO and HI pairs (21 R464) -/

/-- The pairs that a LO read latches: the LO offset gives the pair's number. -/
def pairOf (a : Nat) : Option Nat :=
  if a = 0x1C00 then some 0
  else if a = 0x1C18 then some 1
  else if 0x1C40 ≤ a ∧ a < 0x1CE0 ∧ a % 8 = 0 then some (2 + (a - 0x1C40) / 8)
  else if a = 0x1F24 then some 22
  else if a = 0x2004 then some 23
  else none

/-- A requester's number. -/
def rqNo : Requester → Nat
  | .regp => 0 | .sq0 => 1 | .sq1 => 2 | .regacc => 3

/-- The value of an always-on counter; one that an error left unreadable reads all ones (13 R311). -/
def aonValue (s : State) (c : Nat) : W64 :=
  if s.res.stuck.contains (2, c) then BitVec.allOnes 64 else s.aon.getD c 0

/-- The 64-bit value of a pair. -/
def pairValue (s : State) (p : Nat) : W64 :=
  if p = 0 then now s
  else if p = 1 then s.cal.ppsTime
  else if p = 22 then s.step.at_
  else if p = 23 then s.sec.expiry
  else aonValue s (p - 2)

/-- A HI word as a requester latched it; 0 if it made no LO read since reset. -/
def hiLatch (s : State) (q : Requester) (p : Nat) : Option W32 := some (tgetD s.regp.latches (64 * rqNo q + p) 0)

/-- A LO read latches the HI word for its requester. -/
def latchLo (q : Requester) (a : Nat) (s : State) : State :=
  match pairOf a with
  | none => s
  | some p =>
    { s with regp := { s.regp with
      latches := tset s.regp.latches (64 * rqNo q + p) ((pairValue s p).extractLsb' 32 32) } }

/-- The value of a pair's LO or HI word. -/
def pairWord (s : State) (q : Requester) (a : Nat) : Option W32 :=
  match pairOf a with
  | some p => some ((pairValue s p).setWidth 32)
  | none => if a < 4 then none else match pairOf (a - 4) with
    | some p => hiLatch s q p
    | none => none

/-! ## Page 0 (21 R467-R470) -/

/-- GS_GSTAT. -/
def gstat (s : State) : Nat :=
  2 ^ 31 * bit (s.boot.phase == .run) + 2 ^ 30 * bit (s.boot.phase == .failed) + 2 ^ 29 * bit s.res.fatal
    + 2 ^ 28 * bit s.res.failed + 2 ^ 27 * bit s.pwr.halted + 2 ^ 24 * (powerNow s).toNat
    + 2 ^ 22 * (match s.pwr.bphase with | .none => 0 | .bracing => 1 | .braced => 2 | .unbracing => 3)
    + 2 ^ 20 * secCode s.sec.st + 2 ^ 18 * (calCode s.cal.st).toNat + 2 ^ 17 * bit s.kt.loaded
    + 2 ^ 16 * bit s.boot.caldef + 2 ^ 15 * bit (s.felt.downEth || s.felt.downD2d != 0)
    + 2 ^ 14 * bit (divergedCount s != 0) + 2 ^ 13 * bit s.couch.taken
    + 2 ^ 12 * bit (s.sq.sq0.st == .stopped || s.sq.sq1.st == .stopped)

/-- Page 0. -/
def readPage0 (s : State) (a : Nat) : Option W32 :=
  if a = 0x00 then some versionReg
  else if a = 0x04 then rw 0x6A510000
  else if a = 0x08 then rw 0x11100C09
  else if a = 0x0C then rw 0x0A0D0D08
  else if a = 0x10 then rw 0x60100842
  else if a = 0x14 then rw s.felt.dieReg.toNat
  else if a = 0x18 then rw (gstat s)
  else if a = 0x1C then rw s.regp.rsvd
  else if a = 0x20 then rw (2 ^ 31 * bit s.regp.rsvdWr + 4 * s.regp.rsvdAddr.toNat)
  else if inWords a 0x30 4 then wordOf s.regp.scratch ((a - 0x30) / 4)
  else none

/-! ## 0x1000-0x17FF -/

/-- Agents (02 R58). -/
def readAgents (s : State) (a : Nat) : Option W32 :=
  if a = 0x1000 then rw 0
  else if a = 0x1004 then rw s.ag.incSel.toNat
  else if a = 0x1008 then rw ((tgetD s.ag.inc s.ag.incSel.toNat 0).toNat + 2 ^ 8 * bit (resetPending s s.ag.incSel.toNat))
  else if a = 0x100C then rw s.hb.burstDiscard
  else none

/-- Objects (03 R73). -/
def readObjs (s : State) (a : Nat) : Option W32 :=
  if a = 0x1100 then rw s.vat.objSlot.toNat
  else if inWords a 0x1104 8 then wordOf s.vat.w ((a - 0x1104) / 4)
  else if a = 0x1124 then rw (2 ^ 31 * bit s.vat.cmdBusy + 2 ^ 28 * s.vat.cmdErr.toNat)
  else if a = 0x1128 then rw s.vat.reject
  else none

/-- The map of defined kinds (04 R118). -/
def kindMap (s : State) : Nat := (liveKinds s).foldl (fun n u => n + 2 ^ (u.code.toNat - 0x20)) 0

/-- Kinds (04 R118). -/
def readKinds (s : State) (a : Nat) : Option W32 :=
  let k := s.kt
  if a = 0x1200 then rw (2 ^ 31 * bit k.done + 2 ^ 30 * bit k.loaded + 2 ^ 24 * k.err.toNat + 2 ^ 16 * k.kind.toNat + k.offset.toNat)
  else if inWords a 0x1204 3 then rw (kindMap s / 2 ^ (8 * (a - 0x1204)))
  else if a = 0x1210 then rw k.chainMiss
  else if a = 0x1214 then rw k.chainCut
  else none

/-- Watches (05). -/
def readWatches (s : State) (a : Nat) : Option W32 :=
  let t := s.wt
  if a = 0x1300 then rw (watchUsed s)
  else if a = 0x1304 then rw t.peak
  else if a = 0x1308 then rw t.full
  else if a = 0x130C then rw t.fwd
  else if a = 0x1310 then rw (2 ^ 16 * t.dropStub + t.dropStale)
  else if a = 0x1314 then
    rw (2 ^ 31 * bit (!s.ag.resets.isEmpty) + 2 ^ 30 * bit (!s.ag.moves.isEmpty) + (s.ag.stubs.filter (·.live)).length)
  else none

/-- Barriers and the arbiter (06). -/
def readBars (s : State) (a : Nat) : Option W32 :=
  if a = 0x1400 then some (couchRoleReg s)
  else if a = 0x1404 then rw (barPend s)
  else if a = 0x1408 then rw s.couch.barFull
  else if a = 0x140C then rw (2 ^ 16 * s.hb.rounds + (activeAgents s).length)
  else if a = 0x1410 then rw s.hb.maxWait
  else none

/-- Reductions (07). -/
def readReds (s : State) (a : Nat) : Option W32 :=
  let c := s.couch
  if a = 0x1500 then rw (2 ^ 16 * rsvUsed s + redUsed s)
  else if a = 0x1504 then rw c.roleRsv.toNat
  else if a = 0x1508 then rw (2 ^ 16 * c.redFullRole + c.redFullAgent)
  else if a = 0x150C then rw (2 ^ 16 * c.redNonfin + c.redOvf)
  else if a = 0x1510 then rw c.redPoison
  else none

/-- Watermarks (08). -/
def readWms (s : State) (a : Nat) : Option W32 :=
  if inWords a 0x1600 8 then wordOf s.wm.w ((a - 0x1600) / 4)
  else if a = 0x1620 then rw (2 ^ 31 * bit s.wm.cmdBusy + 2 ^ 28 * s.wm.cmdErr.toNat + 2 ^ 3 * s.wm.index.toNat)
  else if a = 0x1624 then rw s.wm.recs.length
  else if inWords a 0x1630 12 then
    let q := s.wm.q.getD ((a - 0x1630) / 8) {}
    if a % 8 = 0 then rw (2 ^ 17 * bit q.hen + 2 ^ 16 * bit q.len + 2 ^ 8 * q.high.toNat + q.low.toNat)
    else rw (2 ^ 31 * bit q.up + 2 ^ 30 * bit q.dn + 2 ^ 16 * q.cross + 2 ^ 8 * q.peak + sideCode q.side)
  else none

/-- Quires (09). -/
def readQuires (s : State) (a : Nat) : Option W32 :=
  let q := s.qu
  if a = 0x1700 then rw (2 ^ 16 * q.recs.length + memberCount s)
  else if a = 0x1704 then rw q.locks.length
  else if a = 0x1708 then rw (2 ^ 16 * q.commits + q.aborts)
  else if a = 0x170C then rw (2 ^ 16 * q.wounds + q.dies)
  else if a = 0x1710 then rw (2 ^ 28 * q.lastCause.toNat + 2 ^ 24 * q.lastPos.toNat + q.lastQid.toNat)
  else if a = 0x1714 then rw q.lastAgent.toNat
  else none

/-! ## 0x1800-0x1BFF -/

/-- The launcher (10). -/
def readLaunch (s : State) (a : Nat) : Option W32 :=
  let l := lqAt s s.la.sel.toNat
  if a = 0x1800 then rw s.la.sel.toNat
  else if a = 0x1804 then loWord 6 l.base
  else if a = 0x1808 then hiWord 6 l.base
  else if a = 0x180C then loWord 2 l.db
  else if a = 0x1810 then hiWord 2 l.db
  else if a = 0x1814 then loWord 2 l.consAddr
  else if a = 0x1818 then hiWord 2 l.consAddr
  else if a = 0x181C then rw (2 ^ 31 * bit l.en + 2 ^ 16 * l.ctx.toNat + l.logsize.toNat)
  else if a = 0x1820 then rw (2 ^ 31 * bit l.fault + 2 ^ 30 * bit (dbRetry s s.la.sel.toNat) + l.pending.length)
  else if a = 0x1824 then some (lqProd l)
  else if a = 0x1830 then rw (s.la.descs.filter (fun d => descArmed s d.1)).length
  else if a = 0x1834 then rw s.la.done
  else if a = 0x1838 then rw (2 ^ 16 * s.la.drop + s.la.postMiss)
  else if a = 0x183C then
    rw (2 ^ 31 * bit s.la.faultValid + 2 ^ 29 * s.la.faultType.toNat + 2 ^ 28 * bit s.la.faultTimeout
      + 2 ^ 24 * s.la.faultQueue.toNat + s.la.faultSlot.toNat)
  else none

/-- STATE of a context (11 R254). -/
def ctxCode : CtxState → Nat
  | .free => 0 | .live => 1 | .clearing => 2

/-- Contexts and translation (11). -/
def readCtxs (s : State) (a : Nat) : Option W32 :=
  let e := tgetD s.ctx.tab s.ctx.sel.toNat {}
  let x := s.xl
  let w := x.windows.getD x.dwSel.toNat {}
  if a = 0x1900 then rw s.ctx.sel.toNat
  else if a = 0x1904 then loWord 12 e.l1base
  else if a = 0x1908 then hiWord 12 e.l1base
  else if a = 0x190C then rw e.l1len.toNat
  else if a = 0x1910 then rw (2 ^ 31 * bit s.ctx.busy + 2 ^ 28 * s.ctx.err.toNat)
  else if a = 0x1914 then rw (2 ^ 30 * ctxCode e.state + e.chain.length)
  else if a = 0x1918 then rw (2 ^ 31 * bit s.ctx.clrDone + s.ctx.clrCtx.toNat)
  else if a = 0x1920 then rw (2 ^ 31 * bit x.tcBusy + 2 ^ 16 * x.tcCtx.toNat)
  else if a = 0x1924 then some x.tcHandle
  else if a = 0x1928 then rw (2 ^ 16 * x.hits + x.misses)
  else if a = 0x192C then
    rw (2 ^ 31 * bit x.lastValid + 2 ^ 30 * bit x.lastDev + 2 ^ 12 * x.lastDetail.toNat + x.lastCtx.toNat)
  else if a = 0x1930 then some x.lastHandle
  else if a = 0x1934 then rw (x.lastAddr.toNat / 8 * 8)
  else if a = 0x1938 then hiWord 0 x.lastAddr
  else if a = 0x1940 then rw x.dwSel.toNat
  else if a = 0x1944 then loWord 12 w.base
  else if a = 0x1948 then hiWord 12 w.base
  else if a = 0x194C then rw (w.limit.toNat * 2 ^ 12 % 2 ^ 32 + bit w.en)
  else if a = 0x1950 then hiWord 12 w.limit
  else if a = 0x1960 then rw s.regp.deny
  else none

/-- STATE of a stream (12). -/
def streamCode : StState → Nat
  | .closed => 0 | .sync => 1 | .up => 2 | .down => 3 | .closing => 4

/-- GS_FELT_PEER_STAT and GS_FELT_PEER_CNT of the selected stream; zero where there is none. -/
def readPeer (s : State) (cnt : Bool) : Option W32 := match selStream s with
  | none => rw 0
  | some t =>
    if cnt then
      rw (2 ^ 24 * t.unacked.length + 2 ^ 16 * (min 255 (t.granted - t.exp.setWidth 16).toNat) + 2 ^ 8 * t.held.length)
    else
      rw (2 ^ 29 * streamCode t.st + 2 ^ 28 * bit (t.peerPower == 2) + 2 ^ 27 * bit t.pinned + t.peer.toNat)

/-- Felt (12). -/
def readFelt (s : State) (a : Nat) : Option W32 :=
  let f := s.felt
  if a = 0x1A00 then
    rw (2 ^ 31 * bit f.ipv4 + 2 ^ 30 * bit f.vlanEn + 2 ^ 24 * f.dscp.toNat + 2 ^ 16 * f.hoplim.toNat + f.udpPort.toNat)
  else if a = 0x1A04 then rw f.vlan.toNat
  else if a = 0x1A08 then loWord 0 f.mac
  else if a = 0x1A0C then hiWord 0 f.mac
  else if a = 0x1A10 then loWord 0 f.gw
  else if a = 0x1A14 then hiWord 0 f.gw
  else if a = 0x1A18 then rw (2 ^ 20 * f.iid.toNat + f.dieReg.toNat)
  else if inWords a 0x1A1C 3 then wordOf f.ip ((a - 0x1A1C) / 4)
  else if a = 0x1A28 then rw (2 ^ 20 * f.prefix4.toNat + f.dieReg.toNat)
  else if a = 0x1A30 then rw f.peerSel.toNat
  else if a = 0x1A34 then readPeer s false
  else if a = 0x1A38 then readPeer s true
  else if a = 0x1A3C then rw (2 ^ 31 * bit f.cmdBusy + 2 ^ 28 * f.cmdErr.toNat)
  else if a = 0x1A40 then rw (2 ^ 16 * bit f.downEth + f.downD2d.toNat)
  else if a = 0x1A44 then rw (2 ^ 16 * f.errCrc + f.errHdr)
  else if a = 0x1A48 then rw (2 ^ 16 * f.discLate + f.discSleep)
  else if a = 0x1A4C then rw (2 ^ 16 * f.retxTimer + f.retxHole)
  else if a = 0x1A50 then rw (2 ^ 16 * (f.streams.filter (fun t => t.eth && t.st != .closed)).length + f.noStream)
  else none

/-- An event-log entry as its 32 bytes (13 R328). -/
def logImage (e : LogEntry) : BitVec 256 :=
  BitVec.ofNat 256 (e.time.toNat + 2 ^ 64 * e.code.toNat + 2 ^ 72 * e.sev.toNat + 2 ^ 74 * bit e.irq + 2 ^ 80 * e.num.toNat
    + 2 ^ 96 * e.subject.toNat + 2 ^ 128 * e.data0.toNat + 2 ^ 192 * e.data1.toNat)

/-- A word of the selected log entry; zero in last-resort mode (13 R330) and where nothing was written. -/
def readLog (s : State) (i : Nat) : Option W32 :=
  if s.res.failed then rw 0
  else match tget s.res.log s.res.sel.toNat with
    | none => rw 0
    | some e => wordOf (logImage e) i

/-- Resilience (13). -/
def readRes (s : State) (a : Nat) : Option W32 :=
  let r := s.res
  if a = 0x1B00 then rw (2 ^ 31 * bit r.toldOvf + 2 ^ 30 * bit r.noShadow + 2 ^ 29 * bit r.fatal + divergedCount s)
  else if a = 0x1B04 then rw (2 ^ 28 * r.cmdErr.toNat + 2 ^ 2 * r.cmdSlot.toNat)
  else if a = 0x1B08 then rw (2 ^ 16 * r.corr + r.ue)
  else if a = 0x1B0C then rw (2 ^ 16 * r.cmpSeq + r.cmpThree)
  else if a = 0x1B10 then rw (2 ^ 24 * r.takeovers + 2 ^ 16 * r.stale + r.dup)
  else if a = 0x1B14 then rw (2 ^ 31 * bit r.scrubEn + r.scrubInt.toNat)
  else if a = 0x1B20 then
    rw (2 ^ 31 * bit r.failed + 2 ^ 30 * bit r.wrapped + 2 ^ 26 * r.lrDrop + 2 ^ 16 * r.dropped + r.head.toNat)
  else if a = 0x1B24 then rw r.sel.toNat
  else if inWords a 0x1B28 8 then readLog s ((a - 0x1B28) / 4)
  else if inWords a 0x1B50 4 then
    let l := r.lr.getD ((a - 0x1B50) / 4) {}
    rw (2 ^ 24 * l.code.toNat + 2 ^ 20 * l.rep.toNat + l.subject.toNat)
  else none

/-! ## 0x1C00-0x1FFF -/

/-- ROOT of GS_CAL_STAT: set once start-up has given the die its role, or a takeover has (14 R335, R344). -/
def rootNow (s : State) : Bool := isRoot s && (s.cal.st != .free || !s.couch.takers.isEmpty)

/-- The Calender (14), its pairs apart. -/
def readCal (s : State) (a : Nat) : Option W32 :=
  let c := s.cal
  if a = 0x1C08 then
    rw (2 ^ 30 * (calCode c.st).toNat + 2 ^ 29 * bit (rootNow s) + 2 ^ 28 * bit c.hold + 2 ^ 27 * bit c.pps
      + 2 ^ 26 * bit c.range + 2 ^ 25 * bit c.alarm)
  else if a = 0x1C0C then
    rw (2 ^ 31 * bit c.ppsAlign + 2 ^ 30 * bit c.ppsoEn + 2 ^ 12 * c.asymD2d.toNat + c.asymEth.toNat)
  else if a = 0x1C10 then some c.rate
  else if a = 0x1C14 then some c.offset
  else if a = 0x1C20 then rw (2 ^ 31 * bit c.cmdBusy + 2 ^ 28 * c.cmdErr.toNat)
  else none

/-- The eight counters of the selected agent (14 R350, R351). -/
def paCounters (s : State) : List W32 :=
  let i := s.ag.paSel.toNat
  (tgetD s.ag.pa i [0, 0, 0, 0, 0, 0, 0, 0]).mapIdx (fun k c =>
    if s.res.stuck.contains (0, 8 * i + k) then BitVec.allOnes 32 else c)

/-- Agent counters, Reel and dump (14). -/
def readTrace (s : State) (a : Nat) : Option W32 :=
  let r := s.reel
  let d := s.dump
  if a = 0x1D00 then rw s.ag.paSel.toNat
  else if a = 0x1D04 then some ((paCounters s).getD 0 0)
  else if inWords a 0x1D08 7 then some (s.ag.paSnap.getD ((a - 0x1D04) / 4) 0)
  else if a = 0x1D40 then loWord 6 r.base
  else if a = 0x1D44 then hiWord 6 r.base
  else if a = 0x1D48 then loWord 2 r.consAddr
  else if a = 0x1D4C then hiWord 2 r.consAddr
  else if a = 0x1D50 then rw (2 ^ 31 * bit r.en + 2 ^ 30 * bit r.allctx + 2 ^ 16 * r.ctx.toNat + r.logsize.toNat)
  else if a = 0x1D54 then some r.prod
  else if a = 0x1D58 then rw (2 ^ 31 * bit r.fault + r.dropped)
  else if a = 0x1D80 then loWord 6 d.base
  else if a = 0x1D84 then hiWord 6 d.base
  else if a = 0x1D88 then loWord 6 d.lim
  else if a = 0x1D8C then rw (2 ^ 31 * bit d.busy + 2 ^ 28 * d.err.toNat + 2 ^ 27 * bit d.all + 2 ^ 12 * d.ctx.toNat)
  else if a = 0x1D90 then rw (64 * d.ok)
  else none

/-- Bits of 32 sources. -/
def srcBits (s : State) (k : Nat) (f : IrqSrc → Bool) : Nat :=
  (List.range 32).foldl (fun n i => if f (irqGet s (32 * k + i)) then n + 2 ^ i else n) 0

/-- Interrupts (15). A claim through REGACC finds nothing (17 R407). -/
def readIrq (s : State) (q : Requester) (a : Nat) : Option W32 :=
  let r := irqGet s s.irq.sel.toNat
  if a = 0x1E00 then rw s.irq.sel.toNat
  else if a = 0x1E04 then rw (2 ^ 31 * bit r.en + 2 ^ 30 * bit r.wake + r.target.toNat)
  else if a = 0x1E08 then rw (2 ^ 31 * bit r.pending + r.count)
  else if a = 0x1E0C then rw 0
  else if inWords a 0x1E20 8 then rw (srcBits s ((a - 0x1E20) / 4) (·.en))
  else if inWords a 0x1E40 8 then rw (srcBits s ((a - 0x1E40) / 4) (·.pending))
  else if inWords a 0x1E80 16 then
    if q = .regacc then rw 0x3FF else some (irqClaim ((a - 0x1E80) / 4) s).1
  else if a = 0x1EC0 then rw s.irq.rsvdSrc
  else none

/-- Power and the step unit (16). -/
def readPower (s : State) (a : Nat) : Option W32 :=
  let p := s.pwr
  let t := s.step
  if a = 0x1F00 then rw (2 ^ 31 * bit p.autoDoze + p.dozeIdle.toNat)
  else if a = 0x1F04 then rw (2 ^ 31 * bit p.cmdBusy + 2 ^ 28 * p.cmdErr.toNat)
  else if a = 0x1F08 then
    rw (2 ^ 29 * (powerNow s).toNat
      + 2 ^ 27 * (match p.bphase with | .none => 0 | .bracing => 1 | .braced => 2 | .unbracing => 3)
      + 2 ^ 26 * bit p.halted + 2 ^ 25 * bit p.sumErr + 2 ^ 24 * bit p.warnDeb + 2 ^ 23 * bit s.pins.coolantLossN
      + 2 ^ 8 * p.hcause.toNat + p.warns)
  else if a = 0x1F0C then loWord 6 p.braceBase
  else if a = 0x1F10 then hiWord 6 p.braceBase
  else if a = 0x1F14 then rw (2 ^ 31 * bit (t.en || s.boot.stepEnOwed) + 2 ^ 16 * t.lead.toNat + t.period.toNat)
  else if a = 0x1F18 then some t.handle
  else if a = 0x1F1C then rw t.fwReq.toNat
  else if a = 0x1F20 then
    rw (2 ^ 31 * bit t.late + 2 ^ 30 * bit t.clamp + 2 ^ 29 * bit t.pend + 2 ^ 16 * t.lasterr.toNat + 2 ^ 8 * t.val.toNat
      + t.sent.toNat)
  else if a = 0x1F2C then rw (2 ^ 8 * p.floor.toNat + p.maxup.toNat)
  else if a = 0x1F30 then rw (2 ^ 8 * p.thalt.toNat + p.ttrip.toNat)
  else if a = 0x1F34 then rw p.maxops.toNat
  else if a = 0x1F38 then rw (2 ^ 8 * p.peak.toNat + p.temp.toNat)
  else if a = 0x1F3C then rw (2 ^ 31 * bit (p.bubEn || s.boot.bubEnOwed) + 2 ^ 16 * p.bubLevel.toNat + p.umask.toNat)
  else if inWords a 0x1F40 2 then wordOf p.cmask ((a - 0x1F40) / 4)
  else none

/-! ## 0x2000-0x23FF and the context pages -/

/-- Security (17). -/
def readSec (s : State) (a : Nat) : Option W32 :=
  if a = 0x2000 then some (secStat s) else if a = 0x200C then rw 0 else none

/-- PHASE (18 R411). -/
def phaseCode : Phase → Nat
  | .reset => 0 | .selftest => 1 | .discover => 2 | .verify => 3 | .load => 4 | .check => 5 | .config => 6 | .links => 7
  | .run => 8 | .failed => 9 | .held => 10

/-- STATE of a sequencer (18). -/
def sqCode : SqState → Nat
  | .run => 0 | .reload => 1 | .stopped => 2 | .wait => 3

/-- One sequencer's half of GS_SQ_STAT. -/
def sqStat (q : Seqr) : Nat := 2 ^ 15 * bit q.role + 2 ^ 13 * sqCode q.st + 2 ^ 8 * q.cause.toNat + q.count

/-- GS_SQn_SEND. -/
def sqSendWord (s : State) (n : Nat) : Option W32 :=
  let q := sqAt s n
  rw (2 ^ 31 * bit (sqSendBusy s n) + 2 ^ 20 * q.words.toNat + q.dst.toNat)

/-- GS_SQn_MBOX. -/
def mboxWord (q : Seqr) : Option W32 := rw (2 ^ 16 * q.head + 2 ^ 8 * q.msgs)

/-- Start-up and sequencers (18). -/
def readBoot (s : State) (a : Nat) : Option W32 :=
  let b := s.boot
  if a = 0x2100 then
    rw (2 ^ 28 * phaseCode b.phase + 2 ^ 24 * b.err.toNat + 2 ^ 23 * bit b.warm + 2 ^ 22 * bit b.mode114
      + 2 ^ 21 * bit b.linkto + 2 ^ 18 * b.part.toNat)
  else if a = 0x2104 then some b.imgver
  else if a = 0x2108 then some b.us
  else if a = 0x2110 then rw (2 ^ 28 * s.sq.cmdErr.toNat + 2 ^ 2 * bit s.sq.cmdSq)
  else if a = 0x2114 then rw (2 ^ 16 * sqStat s.sq.sq0 + sqStat s.sq.sq1)
  else if a = 0x2118 then rw (2 ^ 16 * s.sq.sq0.limit.toNat)
  else if a = 0x211C then rw (2 ^ 16 * s.sq.sq1.limit.toNat)
  else if inWords a 0x2120 8 then wordOf s.sq.sq0.keep ((a - 0x2120) / 4)
  else if inWords a 0x2140 8 then wordOf s.sq.sq1.keep ((a - 0x2140) / 4)
  else if a = 0x2160 then
    rw (2 ^ 31 * bit s.sq.holdHalt + 2 ^ 30 * bit s.sq.holdGrant + 2 ^ 29 * bit s.sq.holdSq + s.sq.holdIrq.toNat)
  else if a = 0x2164 then sqSendWord s 0
  else if a = 0x2168 then sqSendWord s 1
  else if a = 0x216C then mboxWord s.sq.sq0
  else if a = 0x2170 then mboxWord s.sq.sq1
  else if a = 0x2174 then loWord 6 b.calwAddr
  else if a = 0x2178 then hiWord 6 b.calwAddr
  else if a = 0x217C then rw (2 ^ 31 * bit (b.calw != .idle) + 2 ^ 28 * b.calwErr.toNat)
  else if a = 0x2180 then rw (2 ^ 31 * bit b.factory + 2 ^ 30 * bit b.caldef + b.writes)
  else none

/-- Ports (19). -/
def readPorts (s : State) (a : Nat) : Option W32 :=
  if a = 0x2200 then rw (2 ^ 16 * s.regp.d2dDrop + s.regp.ethDrop)
  else if a = 0x2204 then rw (2 ^ 24 * s.memp.outst.length + 2 ^ 16 * s.memp.retired.length + s.memp.late)
  else if inWords a 0x2300 64 then wordOf s.regp.meshMap ((a - 0x2300) / 4)
  else none

/-- The per-context pages (14 R352). -/
def readPages (s : State) (a : Nat) : Option W32 :=
  let n := (a - 0x1000000) / 0x1000
  let c := tgetD s.ctx.cnt n {}
  let show_ := fun (k : Nat) (v : W32) => some (if s.res.stuck.contains (1, 2 * n + k) then BitVec.allOnes 32 else v)
  if a % 0x1000 = 0 then show_ 0 c.ops else if a % 0x1000 = 4 then show_ 1 c.nacks else none

/-- What a read by requester `q` at offset `a` returns; none at a reserved address (21 R460). -/
def regVal (s : State) (q : Requester) (a : Nat) : Option W32 :=
  if a < 0x1000 then readPage0 s a
  else if a < 0x1100 then readAgents s a
  else if a < 0x1200 then readObjs s a
  else if a < 0x1300 then readKinds s a
  else if a < 0x1400 then readWatches s a
  else if a < 0x1500 then readBars s a
  else if a < 0x1600 then readReds s a
  else if a < 0x1700 then readWms s a
  else if a < 0x1800 then readQuires s a
  else if a < 0x1900 then readLaunch s a
  else if a < 0x1A00 then readCtxs s a
  else if a < 0x1B00 then readFelt s a
  else if a < 0x1C00 then readRes s a
  else if a < 0x1D00 then (pairWord s q a).or (readCal s a)
  else if a < 0x1E00 then readTrace s a
  else if a < 0x1F00 then readIrq s q a
  else if a < 0x2000 then (pairWord s q a).or (readPower s a)
  else if a < 0x2100 then (pairWord s q a).or (readSec s a)
  else if a < 0x2200 then readBoot s a
  else if a < 0x2400 then readPorts s a
  else if 0x1000000 ≤ a ∧ a < 0x2000000 then readPages s a
  else none

/-! ## What a read clears (21 R461) -/

/-- RC fields below 0x1800. -/
def clearLow (a : Nat) (s : State) : State :=
  if a = 0x1C then { s with regp := { s.regp with rsvd := 0 } }
  else if a = 0x100C then { s with hb := { s.hb with burstDiscard := 0 } }
  else if a = 0x1128 then { s with vat := { s.vat with reject := 0 } }
  else if a = 0x1210 then { s with kt := { s.kt with chainMiss := 0 } }
  else if a = 0x1214 then { s with kt := { s.kt with chainCut := 0 } }
  else if a = 0x1304 then { s with wt := { s.wt with peak := watchUsed s } }
  else if a = 0x1308 then { s with wt := { s.wt with full := 0 } }
  else if a = 0x130C then { s with wt := { s.wt with fwd := 0 } }
  else if a = 0x1310 then { s with wt := { s.wt with dropStub := 0, dropStale := 0 } }
  else if a = 0x1408 then modCouch (fun c => { c with barFull := 0 }) s
  else if a = 0x140C then { s with hb := { s.hb with rounds := 0 } }
  else if a = 0x1410 then { s with hb := { s.hb with maxWait := 0 } }
  else if a = 0x1508 then modCouch (fun c => { c with redFullRole := 0, redFullAgent := 0 }) s
  else if a = 0x150C then modCouch (fun c => { c with redNonfin := 0, redOvf := 0 }) s
  else if a = 0x1510 then modCouch (fun c => { c with redPoison := 0 }) s
  else if a = 0x1708 then { s with qu := { s.qu with commits := 0, aborts := 0 } }
  else if a = 0x170C then { s with qu := { s.qu with wounds := 0, dies := 0 } }
  else s

/-- RC fields from 0x1800 on; a claim and a read of GS_PA_CNT0 act here too (15 R364; 14 R350). -/
def clearHigh (a : Nat) (s : State) : State :=
  if a = 0x1834 then { s with la := { s.la with done := 0 } }
  else if a = 0x1838 then { s with la := { s.la with drop := 0, postMiss := 0 } }
  else if a = 0x1928 then { s with xl := { s.xl with hits := 0, misses := 0 } }
  else if a = 0x1960 then { s with regp := { s.regp with deny := 0 } }
  else if a = 0x1A44 then { s with felt := { s.felt with errCrc := 0, errHdr := 0 } }
  else if a = 0x1A48 then { s with felt := { s.felt with discLate := 0, discSleep := 0 } }
  else if a = 0x1A4C then { s with felt := { s.felt with retxTimer := 0, retxHole := 0 } }
  else if a = 0x1A50 then { s with felt := { s.felt with noStream := 0 } }
  else if a = 0x1B08 then { s with res := { s.res with corr := 0, ue := 0 } }
  else if a = 0x1B0C then { s with res := { s.res with cmpSeq := 0, cmpThree := 0 } }
  else if a = 0x1B10 then { s with res := { s.res with takeovers := 0, stale := 0, dup := 0 } }
  else if a = 0x1B20 then { s with res := { s.res with lrDrop := 0, dropped := 0 } }
  else if a = 0x1D04 then { s with ag := { s.ag with paSnap := paCounters s } }
  else if a = 0x1D58 then modReel (fun r => { r with dropped := 0 }) s
  else if inWords a 0x1E80 16 then (irqClaim ((a - 0x1E80) / 4) s).2
  else if a = 0x1EC0 then { s with irq := { s.irq with rsvdSrc := 0 } }
  else if a = 0x1F08 then modPwr (fun p => { p with warns := 0 }) s
  else if a = 0x1F38 then modPwr (fun p => { p with peak := 0 }) s
  else if a = 0x2200 then { s with regp := { s.regp with d2dDrop := 0, ethDrop := 0 } }
  else if a = 0x2204 then { s with memp := { s.memp with late := 0 } }
  else s

/-- Every RC field of the register at `a`. -/
def rcClear (a : Nat) (s : State) : State := if a < 0x1800 then clearLow a s else clearHigh a s

end Sys2Proof.Machine
end

