-- ==== Sys2Proof/Machine/RegWrite.lean ====
section
/-! DEFINITION. What a write to each register does, block by block of the register map (21 R458-R471), and the registers that the
initial register values may name (18 R419). -/

namespace Sys2Proof.Machine

/-! ## Words -/

/-- Write LO of an address kept without its `d` low bits. -/
def putLo (d : Nat) (x : BitVec n) (v : W32) : BitVec n :=
  BitVec.ofNat n ((x.toNat * 2 ^ d / 2 ^ 32 * 2 ^ 32 + v.toNat) / 2 ^ d)

/-- Write HI of such an address. -/
def putHi (d : Nat) (x : BitVec n) (v : W32) : BitVec n :=
  BitVec.ofNat n ((v.toNat * 2 ^ 32 + x.toNat * 2 ^ d % 2 ^ 32) / 2 ^ d)

/-- Write word `i` of a wide register. -/
def putWord (x : BitVec n) (i : Nat) (v : W32) : BitVec n :=
  BitVec.ofNat n (x.toNat % 2 ^ (32 * i) + 2 ^ (32 * i) * (v.toNat + 2 ^ 32 * (x.toNat / 2 ^ (32 * (i + 1)))))

/-- A field of a word. -/
def part (v : W32) (lo w : Nat) : Nat := fld v.toNat lo w

/-! ## 0x0000-0x17FF -/

/-- Page 0: the scratch registers. -/
def writePage0 (a : Nat) (v : W32) (s : State) : State :=
  if inWords a 0x30 4 then { s with regp := { s.regp with scratch := putWord s.regp.scratch ((a - 0x30) / 4) v } } else s

/-- Agents (02 R58, R59). -/
def writeAgents (a : Nat) (v : W32) (s : State) : State :=
  if a = 0x1000 then agentReset (v.setWidth 10) s
  else if a = 0x1004 then { s with ag := { s.ag with incSel := v.setWidth 10 } }
  else s

/-- Objects (03 R73). -/
def writeObjs (c : Acc) (a : Nat) (v : W32) (s : State) : State :=
  if a = 0x1100 then { s with vat := { s.vat with objSlot := v.setWidth 17 } }
  else if inWords a 0x1104 8 then { s with vat := { s.vat with w := putWord s.vat.w ((a - 0x1104) / 4) v } }
  else if a = 0x1124 then objCommand c (v.setWidth 3) s
  else s

/-- Reductions (07): a value above 512 is ignored. -/
def writeReds (a : Nat) (v : W32) (s : State) : State :=
  if a = 0x1504 ∧ part v 0 10 ≤ 512 then modCouch (fun c => { c with roleRsv := v.setWidth 10 }) s else s

/-- The level of block queue `n` (08 R205), and the queue's unit. -/
def queueLevel (s : State) (n : Nat) : Nat × Nat :=
  if n = 0 then (poolUsed s, 32)
  else if n = 1 then (watchUsed s, 256)
  else if n = 2 then (barPend s, 16)
  else if n = 3 then (redUsed s, 4)
  else if n = 4 then (notifWaiting s, 1)
  else (storeUsed s, 32)

/-- GS_QWM_CFGn: HEN and LEN with HIGH not above LOW is ignored as a whole. -/
def qwmCfg (n : Nat) (v : W32) (s : State) : State :=
  let q := s.wm.q.getD n {}
  let hen := v.getLsbD 17
  let len := v.getLsbD 16
  if hen && len && decide (part v 8 8 ≤ part v 0 8) then s
  else
    { s with wm := { s.wm with
      q := s.wm.q.set n { q with hen, len, high := v.extractLsb' 8 8, low := v.extractLsb' 0 8 } } }

/-- GS_QWM_STATn (08 R206): a write that leaves UP and DN at 0 zeroes CROSS and restarts PEAK. -/
def qwmStat (n : Nat) (v : W32) (s : State) : State :=
  let q := s.wm.q.getD n {}
  let up := q.up && !v.getLsbD 31
  let dn := q.dn && !v.getLsbD 30
  let (cur, unit) := queueLevel s n
  let q := if up || dn then { q with up, dn } else { q with up, dn, cross := 0, peak := min 255 (cur / unit) }
  { s with wm := { s.wm with q := s.wm.q.set n q } }

/-- Watermarks (08). -/
def writeWms (a : Nat) (v : W32) (s : State) : State :=
  if inWords a 0x1600 8 then { s with wm := { s.wm with w := putWord s.wm.w ((a - 0x1600) / 4) v } }
  else if a = 0x1620 then wmCommand (v.setWidth 3) (v.extractLsb' 3 13) s
  else if inWords a 0x1630 12 then
    if a % 8 = 0 then qwmCfg ((a - 0x1630) / 8) v s else qwmStat ((a - 0x1630) / 8) v s
  else s

/-! ## 0x1800-0x1BFF -/

/-- Change the selected launch queue while it is disabled (10 GS_LQ_CFG). -/
def lqIdle (f : LQueue → LQueue) (s : State) : State :=
  modLq s.la.sel.toNat (fun l => if l.en then l else f l) s

/-- GS_LQ_CFG: LOGSIZE 0 or 1 is ignored as a whole; a write that sets EN starts the ring again. -/
def lqCfg (v : W32) (s : State) : State :=
  if part v 0 4 < 2 then s
  else
    modLq s.la.sel.toNat (fun l =>
      let en := v.getLsbD 31
      if l.en then { l with en }
      else
        let l := { l with ctx := v.extractLsb' 16 12, logsize := v.setWidth 4 }
        if en then
          let back := (l.gaps.filter (fun g => g.2.isSome)).zipIdx.map (fun g => (BitVec.ofNat 32 g.2, g.1.2))
          { l with en, prod := BitVec.ofNat 32 back.length, cons := 0, gaps := back }
        else l) s

/-- The launcher (10). -/
def writeLaunch (a : Nat) (v : W32) (s : State) : State :=
  if a = 0x1800 then { s with la := { s.la with sel := v.setWidth 4 } }
  else if a = 0x1804 then lqIdle (fun l => { l with base := putLo 6 l.base v }) s
  else if a = 0x1808 then lqIdle (fun l => { l with base := putHi 6 l.base v }) s
  else if a = 0x180C then lqIdle (fun l => { l with db := putLo 2 l.db v }) s
  else if a = 0x1810 then lqIdle (fun l => { l with db := putHi 2 l.db v }) s
  else if a = 0x1814 then lqIdle (fun l => { l with consAddr := putLo 2 l.consAddr v }) s
  else if a = 0x1818 then lqIdle (fun l => { l with consAddr := putHi 2 l.consAddr v }) s
  else if a = 0x181C then lqCfg v s
  else if a = 0x1820 then modLq s.la.sel.toNat (fun l => { l with fault := l.fault && !v.getLsbD 31 }) s
  else if a = 0x183C then { s with la := { s.la with faultValid := s.la.faultValid && !v.getLsbD 31 } }
  else s

/-- Change the selected context while it is FREE (11). -/
def ctxIdle (f : CtxEntry → CtxEntry) (s : State) : State :=
  if (tgetD s.ctx.tab s.ctx.sel.toNat {}).state = .free then modCtx s.ctx.sel.toNat f s else s

/-- Change the selected window (11 R265). -/
def modWindow (f : Window → Window) (s : State) : State :=
  { s with xl := { s.xl with windows := s.xl.windows.modify s.xl.dwSel.toNat f } }

/-- GS_TC_CMD: CTX is stored, and the command runs, unless an invalidation runs. -/
def tcWrite (v : W32) (s : State) : State := tcCommand (v.setWidth 2) (v.extractLsb' 16 12) s

/-- Contexts and translation (11). -/
def writeCtxs (a : Nat) (v : W32) (s : State) : State :=
  if a = 0x1900 then modCtxs (fun x => { x with sel := v.setWidth 12 }) s
  else if a = 0x1904 then ctxIdle (fun e => { e with l1base := putLo 12 e.l1base v }) s
  else if a = 0x1908 then ctxIdle (fun e => { e with l1base := putHi 12 e.l1base v }) s
  else if a = 0x190C then
    if part v 0 21 ≤ 1048576 then ctxIdle (fun e => { e with l1len := v.setWidth 21 }) s else s
  else if a = 0x1910 then ctxCommand (v.setWidth 2) s
  else if a = 0x1918 then modCtxs (fun x => { x with clrDone := x.clrDone && !v.getLsbD 31 }) s
  else if a = 0x1920 then tcWrite v s
  else if a = 0x1924 then { s with xl := { s.xl with tcHandle := v } }
  else if a = 0x192C then { s with xl := { s.xl with lastValid := s.xl.lastValid && !v.getLsbD 31 } }
  else if a = 0x1940 then { s with xl := { s.xl with dwSel := v.setWidth 3 } }
  else if a = 0x1944 then modWindow (fun w => { w with base := putLo 12 w.base v }) s
  else if a = 0x1948 then modWindow (fun w => { w with base := putHi 12 w.base v }) s
  else if a = 0x194C then modWindow (fun w => { w with limit := putLo 12 w.limit v, en := v.getLsbD 0 }) s
  else if a = 0x1950 then modWindow (fun w => { w with limit := putHi 12 w.limit v }) s
  else s

/-- Start-up has not ended (18 R411). -/
def starting (s : State) : Bool := !(s.boot.phase == .run || s.boot.phase == .failed || s.boot.phase == .held)

/-- Change Felt's state. -/
def modFelt (f : Felt → Felt) (s : State) : State := { s with felt := f s.felt }

/-- Felt's addressing registers: writes after start-up are ignored (12). -/
def writeFeltCfg (a : Nat) (v : W32) (s : State) : State :=
  if !starting s then s
  else if a = 0x1A00 then
    modFelt (fun f => { f with
      ipv4 := v.getLsbD 31, vlanEn := v.getLsbD 30, dscp := v.extractLsb' 24 6, hoplim := v.extractLsb' 16 8
      udpPort := v.setWidth 16 }) s
  else if a = 0x1A04 then modFelt (fun f => { f with vlan := v.setWidth 16 }) s
  else if a = 0x1A08 then modFelt (fun f => { f with mac := putLo 0 f.mac v }) s
  else if a = 0x1A0C then modFelt (fun f => { f with mac := putHi 0 f.mac v }) s
  else if a = 0x1A10 then modFelt (fun f => { f with gw := putLo 0 f.gw v }) s
  else if a = 0x1A14 then modFelt (fun f => { f with gw := putHi 0 f.gw v }) s
  else if a = 0x1A18 then modFelt (fun f => { f with iid := v.extractLsb' 20 12 }) s
  else if inWords a 0x1A1C 3 then modFelt (fun f => { f with ip := putWord f.ip ((a - 0x1A1C) / 4) v }) s
  else if a = 0x1A28 then modFelt (fun f => { f with prefix4 := v.extractLsb' 20 12 }) s
  else s

/-- GS_FELT_PEER_CMD. -/
def peerCommand (v : W32) (s : State) : State :=
  if s.felt.cmdBusy then s
  else if part v 0 2 = 1 then rejoinCmd s
  else if part v 0 2 = 2 then closeCmd s
  else if part v 0 2 = 3 then feltErr 2 s
  else s

/-- Felt (12). -/
def writeFelt (a : Nat) (v : W32) (s : State) : State :=
  if a < 0x1A30 then writeFeltCfg a v s
  else if a = 0x1A30 then modFelt (fun f => { f with peerSel := v.setWidth 9 }) s
  else if a = 0x1A3C then peerCommand v s
  else if a = 0x1A40 then
    modFelt (fun f => { f with downEth := f.downEth && !v.getLsbD 16, downD2d := f.downD2d &&& ~~~ (v.setWidth 16) }) s
  else s

/-- GS_RES_CMD (13 R310). -/
def resCommand (v : W32) (s : State) : State :=
  let s := { s with res := { s.res with cmdSlot := v.extractLsb' 2 17 } }
  if part v 0 2 = 0 then s
  else if part v 0 2 = 1 then acceptSlot (part v 2 17) s
  else { s with res := { s.res with cmdErr := 2 } }

/-- Resilience (13). -/
def writeRes (a : Nat) (v : W32) (s : State) : State :=
  if a = 0x1B00 then
    { s with res := { s.res with
      toldOvf := s.res.toldOvf && !v.getLsbD 31, noShadow := s.res.noShadow && !v.getLsbD 30 } }
  else if a = 0x1B04 then resCommand v s
  else if a = 0x1B14 then
    { s with res := { s.res with
      scrubEn := v.getLsbD 31, scrubInt := if part v 0 16 = 0 then s.res.scrubInt else v.setWidth 16 } }
  else if a = 0x1B24 then { s with res := { s.res with sel := v.setWidth 9 } }
  else s

/-! ## 0x1C00-0x1FFF -/

/-- GS_CAL_CMD. -/
def calCommand (v : W32) (s : State) : State :=
  if s.cal.cmdBusy ∨ part v 0 2 = 0 then s
  else if part v 0 2 = 1 then refit s
  else modCal (fun c => { c with cmdErr := 2 }) s

/-- The Calender (14). -/
def writeCal (a : Nat) (v : W32) (s : State) : State :=
  if a = 0x1C08 then modCal (fun c => { c with pps := c.pps && !v.getLsbD 27, alarm := c.alarm && !v.getLsbD 25 }) s
  else if a = 0x1C0C then
    modCal (fun c => { c with
      ppsAlign := v.getLsbD 31, ppsoEn := v.getLsbD 30, asymD2d := v.extractLsb' 12 12, asymEth := v.setWidth 12 }) s
  else if a = 0x1C20 then calCommand v s
  else s

/-- Change the Reel while it is disabled. -/
def reelIdle (f : Reel → Reel) (s : State) : State := modReel (fun r => if r.en then r else f r) s

/-- GS_REEL_CFG (14): LOGSIZE outside 4 to 24 is ignored as a whole. -/
def reelCfg (v : W32) (s : State) : State :=
  if part v 0 5 < 4 ∨ 24 < part v 0 5 then s
  else if s.reel.en then modReel (fun r => { r with en := v.getLsbD 31, closing := !v.getLsbD 31 }) s
  else if v.getLsbD 31 then reelOpen v s
  else
    modReel (fun r => { r with allctx := v.getLsbD 30, ctx := v.extractLsb' 16 12, logsize := v.setWidth 5 }) s

/-- GS_DUMP_CMD (14). -/
def dumpCommand (v : W32) (s : State) : State :=
  if s.dump.busy then s
  else
    let s := modDump (fun d => { d with all := v.getLsbD 27, ctx := v.extractLsb' 12 12 }) s
    if part v 0 2 = 0 then s
    else if part v 0 2 = 1 then dumpStart (v.getLsbD 27) (v.extractLsb' 12 12) s
    else modDump (fun d => { d with err := 4 }) s

/-- Agent counters, Reel and dump (14). -/
def writeTrace (a : Nat) (v : W32) (s : State) : State :=
  if a = 0x1D00 then { s with ag := { s.ag with paSel := v.setWidth 10 } }
  else if a = 0x1D40 then reelIdle (fun r => { r with base := putLo 6 r.base v }) s
  else if a = 0x1D44 then reelIdle (fun r => { r with base := putHi 6 r.base v }) s
  else if a = 0x1D48 then reelIdle (fun r => { r with consAddr := putLo 2 r.consAddr v }) s
  else if a = 0x1D4C then reelIdle (fun r => { r with consAddr := putHi 2 r.consAddr v }) s
  else if a = 0x1D50 then reelCfg v s
  else if a = 0x1D58 then modReel (fun r => { r with fault := r.fault && !v.getLsbD 31 }) s
  else if a = 0x1D80 then modDump (fun d => { d with base := putLo 6 d.base v }) s
  else if a = 0x1D84 then modDump (fun d => { d with base := putHi 6 d.base v }) s
  else if a = 0x1D88 then modDump (fun d => { d with lim := v.extractLsb' 6 26 }) s
  else if a = 0x1D8C then dumpCommand v s
  else s

/-- GS_IRQ_ENk: EN of 32 sources. -/
def irqEnWrite (k : Nat) (v : W32) (s : State) : State :=
  (List.range 32).foldl (fun s i =>
    let n := 32 * k + i
    let r := irqGet s n
    irqSetCfg n (v.getLsbD i) r.wake r.target s) s

/-- GS_IRQ_PENDk (15 R366). -/
def irqPendWrite (k : Nat) (v : W32) (s : State) : State :=
  (List.range 32).foldl (fun s i => if v.getLsbD i then irqW1C (32 * k + i) s else s) s

/-- Interrupts (15). -/
def writeIrq (a : Nat) (v : W32) (s : State) : State :=
  let n := s.irq.sel.toNat
  if a = 0x1E00 then { s with irq := { s.irq with sel := v.setWidth 8 } }
  else if a = 0x1E04 then irqSetCfg n (v.getLsbD 31) (v.getLsbD 30) (v.setWidth 16) s
  else if a = 0x1E08 then if v.getLsbD 31 then irqW1C n s else s
  else if a = 0x1E0C then assertSource (part v 0 8) s
  else if inWords a 0x1E20 8 then irqEnWrite ((a - 0x1E20) / 4) v s
  else if inWords a 0x1E40 8 then irqPendWrite ((a - 0x1E40) / 4) v s
  else s

/-- GS_PWR_CMD (16). -/
def pwrCommand (v : W32) (s : State) : State :=
  if s.pwr.cmdBusy ∨ part v 0 2 = 0 then s
  else if part v 0 2 = 1 then sleepCommand s
  else if part v 0 2 = 2 then haltOwn 4 false (modPwr (fun p => { p with cmdErr := 0 }) s)
  else modPwr (fun p => { p with cmdErr := 3 }) s

/-- GS_STEP_CFG (16 R388): a 0 in LEAD or PERIOD is ignored; an EN set before RUN takes effect with it (18 R419). -/
def stepCfg (v : W32) (s : State) : State :=
  let en := v.getLsbD 31
  let s := modStep (fun t => { t with
    lead := if part v 16 8 = 0 then t.lead else v.extractLsb' 16 8
    period := if part v 0 16 = 0 then t.period else v.setWidth 16 }) s
  if s.boot.phase ≠ .run then modBoot (fun b => { b with stepEnOwed := en }) s
  else if en && !s.step.en then stepStart s
  else modStep (fun t => { t with en }) s

/-- GS_BUBBLE_CFG (16 R393); an EN set before RUN takes effect with it (18 R419). -/
def bubCfg (v : W32) (s : State) : State :=
  let en := v.getLsbD 31
  let s := modPwr (fun p => { p with umask := v.setWidth 16 }) s
  if s.boot.phase ≠ .run then modBoot (fun b => { b with bubEnOwed := en }) s else modPwr (fun p => { p with bubEn := en }) s

/-- Power and the step unit (16). -/
def writePower (a : Nat) (v : W32) (s : State) : State :=
  if a = 0x1F00 then
    modPwr (fun p => { p with autoDoze := v.getLsbD 31, dozeIdle := if part v 0 16 = 0 then p.dozeIdle else v.setWidth 16 }) s
  else if a = 0x1F04 then pwrCommand v s
  else if a = 0x1F08 then modPwr (fun p => { p with sumErr := p.sumErr && !v.getLsbD 25 }) s
  else if a = 0x1F0C then modPwr (fun p => { p with braceBase := putLo 6 p.braceBase v }) s
  else if a = 0x1F10 then modPwr (fun p => { p with braceBase := putHi 6 p.braceBase v }) s
  else if a = 0x1F14 then stepCfg v s
  else if a = 0x1F18 then modStep (fun t => if t.en then t else { t with handle := v }) s
  else if a = 0x1F1C then modStep (fun t => { t with fwReq := v.setWidth 6 }) s
  else if a = 0x1F20 then modStep (fun t => { t with late := t.late && !v.getLsbD 31, clamp := t.clamp && !v.getLsbD 30 }) s
  else if a = 0x1F3C then bubCfg v s
  else if inWords a 0x1F40 2 then modPwr (fun p => { p with cmask := putWord p.cmask ((a - 0x1F40) / 4) v }) s
  else s

/-! ## 0x2000-0x23FF -/

/-- Security (17 R401, R406). -/
def writeSec (a : Nat) (v : W32) (s : State) : State := if a = 0x200C ∧ part v 0 2 = 1 then endUnlock 2 s else s

/-- GS_SQ_CMD (18 R428). -/
def sqCmd (c : Acc) (v : W32) (s : State) : State :=
  let s := { s with sq := { s.sq with cmdSq := v.getLsbD 2 } }
  if part v 0 2 = 0 then s
  else if part v 0 2 = 1 then sqCommand c (part v 2 1) s
  else { s with sq := { s.sq with cmdErr := 2 } }

/-- GS_SQn_WDOG (18 R427). -/
def sqWdog (n : Nat) (v : W32) (s : State) : State :=
  if v.getLsbD 0 then wdogKick n (v.extractLsb' 16 16) s else modSq n (fun q => { q with limit := v.extractLsb' 16 16 }) s

/-- GS_CAL_WCMD (18 R424): ignored while BUSY. -/
def calwCommand (v : W32) (s : State) : State :=
  if part v 0 2 = 1 then capture s
  else if part v 0 2 = 2 then calWrite s
  else if part v 0 2 = 3 then linkcal s
  else s

/-- Start-up and sequencers (18). A write of GS_SQn_SEND sends what OUTBOX holds. -/
def writeBoot (c : Acc) (a : Nat) (v : W32) (s : State) : State :=
  if a = 0x2110 then sqCmd c v s
  else if a = 0x2118 then sqWdog 0 v s
  else if a = 0x211C then sqWdog 1 v s
  else if inWords a 0x2120 8 then modSq 0 (fun q => { q with keep := putWord q.keep ((a - 0x2120) / 4) v }) s
  else if inWords a 0x2140 8 then modSq 1 (fun q => { q with keep := putWord q.keep ((a - 0x2140) / 4) v }) s
  else if a = 0x2164 then sqSend 0 (v.extractLsb' 20 6) (v.setWidth 20) s
  else if a = 0x2168 then sqSend 1 (v.extractLsb' 20 6) (v.setWidth 20) s
  else if a = 0x216C then if v.getLsbD 0 then mboxPop 0 s else s
  else if a = 0x2170 then if v.getLsbD 0 then mboxPop 1 s else s
  else if a = 0x2174 then modBoot (fun b => { b with calwAddr := putLo 6 b.calwAddr v }) s
  else if a = 0x2178 then modBoot (fun b => { b with calwAddr := putHi 6 b.calwAddr v }) s
  else if a = 0x217C then calwCommand v s
  else s

/-- Ports (19 R437). -/
def writePorts (a : Nat) (v : W32) (s : State) : State :=
  if inWords a 0x2300 64 then
    { s with regp := { s.regp with meshMap := putWord s.regp.meshMap ((a - 0x2300) / 4) v } }
  else s

/-- What a write of `v` at offset `a` does. -/
def regPut (c : Acc) (a : Nat) (v : W32) (s : State) : State :=
  if a < 0x1000 then writePage0 a v s
  else if a < 0x1100 then writeAgents a v s
  else if a < 0x1200 then writeObjs c a v s
  else if a < 0x1500 then s
  else if a < 0x1600 then writeReds a v s
  else if a < 0x1700 then writeWms a v s
  else if a < 0x1800 then s
  else if a < 0x1900 then writeLaunch a v s
  else if a < 0x1A00 then writeCtxs a v s
  else if a < 0x1B00 then writeFelt a v s
  else if a < 0x1C00 then writeRes a v s
  else if a < 0x1D00 then writeCal a v s
  else if a < 0x1E00 then writeTrace a v s
  else if a < 0x1F00 then writeIrq a v s
  else if a < 0x2000 then writePower a v s
  else if a < 0x2100 then writeSec a v s
  else if a < 0x2200 then writeBoot c a v s
  else if a < 0x2400 then writePorts a v s
  else s

/-! ## What REGS may name (18 R419) -/

/-- The registers with a RW field in 0x1000-0x2FFF that are no command registers. -/
def regsAllowed (a : Nat) : Bool :=
  [0x1004, 0x1100, 0x1504, 0x1924, 0x1A30, 0x1B14, 0x1B24, 0x1C0C, 0x1D00, 0x1D50, 0x1D80, 0x1D84, 0x1D88, 0x1F00, 0x1F3C,
    0x2118, 0x211C, 0x2174, 0x2178].contains a
    || inWords a 0x1104 8 || inWords a 0x1600 8 || (inWords a 0x1630 12 && a % 8 == 0) || inWords a 0x1800 8
    || inWords a 0x1900 4 || inWords a 0x1940 5 || inWords a 0x1A00 11 || inWords a 0x1D40 4 || inWords a 0x1E00 2
    || inWords a 0x1E20 8 || inWords a 0x1F0C 5 || inWords a 0x1F40 2 || inWords a 0x2120 8 || inWords a 0x2140 8
    || inWords a 0x2300 64

end Sys2Proof.Machine
end

