-- ==== Sys2Proof/Machine/Registers.lean ====
section
/-! DEFINITION. A register access from its transfer to its effect, REGACC, and the commands that are accesses (11 R273; 17 R407;
19 R442; 21 R458-R466). -/

namespace Sys2Proof.Machine

/-! ## Serving an access -/

/-- REGP_CTX as it counts: SQ0, SQ1 and REGACC carry 0 (11 R273, 17 R407). -/
def accCtx (c : Acc) : Nat := if c.rq = .regp then c.ctx.toNat else 0

/-- 11 R273 admits the access: context 0 everywhere, another context in its own page. -/
def admitted (c : Acc) (a : Nat) : Bool := accCtx c == 0 || (decide (0x1000000 ≤ a) && (a - 0x1000000) / 0x1000 == accCtx c)

/-- Count an access to a reserved address (21 R460, R470). -/
def countRsvd (wr : Bool) (addr : BitVec 23) (s : State) : State :=
  { s with regp := { s.regp with rsvd := sat16 s.regp.rsvd, rsvdWr := wr, rsvdAddr := addr } }

/-- The effect of an admitted read beside its value: RC fields and latches; through REGACC its own latches alone. -/
def readEffect (q : Requester) (a : Nat) (s : State) : State :=
  let s := latchLo q a s
  if q = .regacc then s else rcClear a s

/-- Serve an access: the data it returns, zero for a write, and its effect. A REGACC read changes nothing, and so is not counted
(17 R407). -/
def regServe (x : RegAcc) (s : State) : W32 × State :=
  let a := 4 * x.addr.toNat
  if !admitted x.acc a then (0, { s with regp := { s.regp with deny := sat16 s.regp.deny } })
  else match (if x.far then none else regVal s x.acc.rq a) with
    | none => (0, if x.acc.rq = .regacc ∧ !x.wr then s else countRsvd x.wr x.addr s)
    | some v => if x.wr then (0, regPut x.acc a x.data s) else (v, readEffect x.acc.rq a s)

/-- The REGACC register as a capture shows it: the status, and the data of the latest completed read (17 R407). -/
def regaccPut (r : BitVec 72) (status : Nat) (data : W32) : BitVec 72 :=
  BitVec.ofNat 72 (2 ^ 71 * bit (r.getLsbD 71) + 2 ^ 69 * status + 2 ^ 32 * fld r.toNat 32 32 + data.toNat)

/-- Complete an access at its requester. -/
def regDone (x : RegAcc) (v : W32) (s : State) : State :=
  if x.acc.rq = .regacc then
    modSec (fun c => { c with regacc := regaccPut c.regacc 0 (if x.wr then c.regacc.setWidth 32 else v) }) s
  else { s with regp := { s.regp with rdata := v } }

/-- Serve and complete. -/
def regRun (x : RegAcc) (s : State) : State :=
  let (v, s) := regServe x s
  regDone x v s

/-! ## Waiting (19 R442; 16 R375, R377) -/

/-- REGP_READY is 0: before SELFTEST ends, and in SLEEP. -/
def regpHeld (s : State) : Bool := s.boot.phase == .reset || s.boot.phase == .selftest || s.pwr.st == .sleep

/-- An access presented: it waits while REGP_READY is 0, and wakes the die from DOZE. -/
def regOffer (x : RegAcc) (s : State) : State :=
  if s.pwr.off then s
  else if regpHeld s then { s with regp := { s.regp with stalled := s.regp.stalled ++ [x] } }
  else regRun x (wakeDoze s)

/-- Serve the accesses that waited, REGP first (21 R465). -/
def regDrain (s : State) : State :=
  let l := s.regp.stalled
  let of_ := fun (q : Requester) => l.filter (fun x => x.acc.rq == q)
  (of_ .regp ++ of_ .sq0 ++ of_ .sq1 ++ of_ .regacc).foldl (fun s x => regRun x s)
    { s with regp := { s.regp with stalled := [] } }

/-- A read. -/
def regRead (c : Acc) (a : Nat) : State → State := regOffer { acc := c, wr := false, addr := BitVec.ofNat 23 (a / 4), data := 0 }

/-- A write. -/
def regWrite (c : Acc) (a v : Nat) : State → State :=
  regOffer { acc := c, wr := true, addr := BitVec.ofNat 23 (a / 4), data := BitVec.ofNat 32 v }

/-! ## REGACC (17 R407, R409) -/

/-- The access that a REGACC update presents. An offset that is no multiple of 4 or lies above 0x01FF_FFFF is an address that the
index does not list (21 R460; log entry 49). -/
def regaccOf (r : BitVec 72) : RegAcc :=
  { acc := { rq := .regacc }, wr := r.getLsbD 71, addr := r.extractLsb' 34 23, data := r.setWidth 32
    far := r.extractLsb' 57 7 != 0 || r.extractLsb' 32 2 != 0 }

/-- The debug grant allows the access. -/
def regaccAllowed (s : State) (wr : Bool) : Bool := (grantNow s).getLsbD (if wr then 1 else 0)

/-- An update of REGACC: DENIED, BUSY while the previous access waits, or the access. -/
def regaccRun (r : BitVec 72) (s : State) : State :=
  let x := regaccOf r
  let show_ := fun (status : Nat) => modSec (fun c => { c with regacc := regaccPut r status (c.regacc.setWidth 32) }) s
  if !regaccAllowed s x.wr then show_ 1
  else if s.regp.stalled.any (fun y => y.acc.rq == .regacc) then show_ 2
  else regOffer x (show_ 2)

/-- REGACC (17 R407). -/
def execRegacc (reg : BitVec 72) (s : State) : Host.Outcome State Fault Refusal :=
  .next (inCycle (whenOn (fun s => regaccRun reg (tapLoad 5 s))) s)

/-- GCLK_ACK (16 R372, R378): the clock is back, and the accesses that waited are served. -/
def gclkBack (s : State) : State :=
  let t := gclkUp s
  if regpHeld t then t else regDrain t

/-- GCLK_ACK (16 R372, R378). -/
def execGclkAck (s : State) : Host.Outcome State Fault Refusal := .next (inCycle (whenOn gclkBack) s)

/-- An access reaches Gasuar in every state but OFF. -/
def whenPower (f : State → State) (s : State) : State := if s.pwr.off then s else f s

/-! ## Agents, objects, Watermarks (02 R59; 03 R73, R74; 08 R208) -/

/-- AGENT_RESET (02 R59; 05 R144). -/
def execAgentReset (acc : Acc) (agent : BitVec 10) (s : State) : Host.Outcome State Fault Refusal :=
  .next (inCycle (whenPower (regWrite acc 0x1000 agent.toNat)) s)

/-- CREATE (03 R74, R75). -/
def execCreate (acc : Acc) (s : State) : Host.Outcome State Fault Refusal :=
  .next (inCycle (whenPower (regWrite acc 0x1124 1)) s)

/-- DESTROY (03 R74). -/
def execDestroy (acc : Acc) (s : State) : Host.Outcome State Fault Refusal :=
  .next (inCycle (whenPower (regWrite acc 0x1124 2)) s)

/-- DESTROY_FORCE (03 R74, R77). -/
def execDestroyForce (acc : Acc) (s : State) : Host.Outcome State Fault Refusal :=
  .next (inCycle (whenPower (regWrite acc 0x1124 3)) s)

/-- FETCH (03 R74). -/
def execFetch (acc : Acc) (s : State) : Host.Outcome State Fault Refusal :=
  .next (inCycle (whenPower (regWrite acc 0x1124 4)) s)

/-- ATTACH (08 R196, R208). -/
def execAttach (acc : Acc) (s : State) : Host.Outcome State Fault Refusal :=
  .next (inCycle (whenPower (regWrite acc 0x1620 1)) s)

/-- DETACH (08 R204, R208). -/
def execDetach (acc : Acc) (idx : BitVec 13) (s : State) : Host.Outcome State Fault Refusal :=
  .next (inCycle (whenPower (regWrite acc 0x1620 (2 ^ 3 * idx.toNat + 2))) s)

/-- WM_READ (08 R208, R209). -/
def execWmRead (acc : Acc) (idx : BitVec 13) (s : State) : Host.Outcome State Fault Refusal :=
  .next (inCycle (whenPower (regWrite acc 0x1620 (2 ^ 3 * idx.toNat + 3))) s)

/-- WM_RETARGET (08 R207, R208). -/
def execWmRetarget (acc : Acc) (idx : BitVec 13) (s : State) : Host.Outcome State Fault Refusal :=
  .next (inCycle (whenPower (regWrite acc 0x1620 (2 ^ 3 * idx.toNat + 4))) s)

/-! ## Launch queues, contexts, translation (10 R239, R252; 11 R268-R274) -/

/-- LQ_FAULT_CLEAR (10 R252). -/
def execLqFaultClear (acc : Acc) (s : State) : Host.Outcome State Fault Refusal :=
  .next (inCycle (whenPower (regWrite acc 0x1820 (2 ^ 31))) s)

/-- LQ_ENABLE (10 R239). -/
def execLqEnable (acc : Acc) (v : W32) (s : State) : Host.Outcome State Fault Refusal :=
  .next (inCycle (whenPower (regWrite acc 0x181C v.toNat)) s)

/-- OPEN (11 R256, R274). -/
def execOpenCtx (acc : Acc) (s : State) : Host.Outcome State Fault Refusal :=
  .next (inCycle (whenPower (regWrite acc 0x1910 1)) s)

/-- DECKLE_CLEAR (11 R269-R272). -/
def execDeckleClear (acc : Acc) (s : State) : Host.Outcome State Fault Refusal :=
  .next (inCycle (whenPower (regWrite acc 0x1910 2)) s)

/-- INV_HANDLE (11 R268). -/
def execInvHandle (acc : Acc) (ctx : CtxId) (s : State) : Host.Outcome State Fault Refusal :=
  .next (inCycle (whenPower (regWrite acc 0x1920 (2 ^ 16 * ctx.toNat + 1))) s)

/-- INV_CTX (11 R268). -/
def execInvCtx (acc : Acc) (ctx : CtxId) (s : State) : Host.Outcome State Fault Refusal :=
  .next (inCycle (whenPower (regWrite acc 0x1920 (2 ^ 16 * ctx.toNat + 2))) s)

/-- INV_ALL (11 R268). -/
def execInvAll (acc : Acc) (s : State) : Host.Outcome State Fault Refusal :=
  .next (inCycle (whenPower (regWrite acc 0x1920 3)) s)

/-! ## Links, resilience, Calender, Reel, dump (12 R297, R300; 13 R310; 14) -/

/-- REJOIN (12 R300). -/
def execRejoin (acc : Acc) (s : State) : Host.Outcome State Fault Refusal :=
  .next (inCycle (whenPower (regWrite acc 0x1A3C 1)) s)

/-- CLOSE (12 R297). -/
def execCloseStream (acc : Acc) (s : State) : Host.Outcome State Fault Refusal :=
  .next (inCycle (whenPower (regWrite acc 0x1A3C 2)) s)

/-- ACCEPT (13 R310). -/
def execAccept (acc : Acc) (slot : BitVec 17) (s : State) : Host.Outcome State Fault Refusal :=
  .next (inCycle (whenPower (regWrite acc 0x1B04 (2 ^ 2 * slot.toNat + 1))) s)

/-- REFIT (14 R340). -/
def execRefit (acc : Acc) (s : State) : Host.Outcome State Fault Refusal :=
  .next (inCycle (whenPower (regWrite acc 0x1C20 1)) s)

/-- REEL_ENABLE (14 R345). -/
def execReelEnable (acc : Acc) (v : W32) (s : State) : Host.Outcome State Fault Refusal :=
  .next (inCycle (whenPower (regWrite acc 0x1D50 v.toNat)) s)

/-- DUMP_START (14 R353). -/
def execDumpStart (acc : Acc) (all : Bool) (ctx : CtxId) (s : State) : Host.Outcome State Fault Refusal :=
  .next (inCycle (whenPower (regWrite acc 0x1D8C (2 ^ 27 * Machine.bit all + 2 ^ 12 * ctx.toNat + 1))) s)

/-! ## Interrupts (15 R364-R368)

The operand `same` says which sources are asserted by hardware in the same cycle. -/

/-- Assert the sources of a mask. -/
def assertMask (k : Nat) (m : W32) (s : State) : State :=
  (List.range 32).foldl (fun s i => if m.getLsbD i then assertSource (32 * k + i) s else s) s

/-- A claim, with an assertion of the source that it returns in the same cycle (15 R367). -/
def claimRow (c : Acc) (p : Nat) (same : Bool) (s : State) : State :=
  let hit := if regpHeld s || !admitted c 0x1E80 || c.rq == .regacc then none else irqSelect s p
  let s := regRead c (0x1E80 + 4 * p) s
  match hit with
  | some (n, _) => if same then assertSource n s else s
  | none => s

/-- IRQ_CLAIM (15 R364, R367). -/
def execIrqClaim (acc : Acc) (p : Fin 16) (same : Bool) (s : State) : Host.Outcome State Fault Refusal :=
  .next (inCycle (whenPower (claimRow acc p.val same)) s)

/-- IRQ_SET (15 R368). -/
def execIrqSet (acc : Acc) (src : Byte) (same : Bool) (s : State) : Host.Outcome State Fault Refusal :=
  .next (inCycle (whenPower (fun s =>
    let s := regWrite acc 0x1E0C src.toNat s
    if same then assertSource src.toNat s else s)) s)

/-- IRQ_PENDING_CLEAR (15 R366). -/
def execIrqPendingClear (acc : Acc) (k : Fin 8) (mask same : W32) (s : State) : Host.Outcome State Fault Refusal :=
  .next (inCycle (whenPower (fun s => assertMask k.val same (regWrite acc (0x1E40 + 4 * k.val) mask.toNat s))) s)

/-! ## Power, step unit, security (16; 17 R406) -/

/-- HALT_COMMAND (16 R384; 12 R303). -/
def execHaltCommand (acc : Acc) (s : State) : Host.Outcome State Fault Refusal :=
  .next (inCycle (whenPower (regWrite acc 0x1F04 2)) s)

/-- SLEEP (16 R376). -/
def execSleep (acc : Acc) (s : State) : Host.Outcome State Fault Refusal :=
  .next (inCycle (whenPower (regWrite acc 0x1F04 1)) s)

/-- STEP_ENABLE (16 R388). -/
def execStepEnable (acc : Acc) (v : W32) (s : State) : Host.Outcome State Fault Refusal :=
  .next (inCycle (whenPower (regWrite acc 0x1F14 v.toNat)) s)

/-- SEC_LOCK (17 R406). -/
def execSecLock (acc : Acc) (s : State) : Host.Outcome State Fault Refusal :=
  .next (inCycle (whenPower (regWrite acc 0x200C 1)) s)

/-! ## Sequencers and calibration (18 R424, R427, R428, R430) -/

/-- RESTART (18 R428). -/
def execRestart (acc : Acc) (sq : Fin 2) (s : State) : Host.Outcome State Fault Refusal :=
  .next (inCycle (whenPower (regWrite acc 0x2110 (2 ^ 2 * sq.val + 1))) s)

/-- WDOG_KICK (18 R427). -/
def execWdogKick (acc : Acc) (sq : Fin 2) (limit : BitVec 16) (s : State) : Host.Outcome State Fault Refusal :=
  .next (inCycle (whenPower (regWrite acc (0x2118 + 4 * sq.val) (2 ^ 16 * limit.toNat + 1))) s)

/-- SQ_SEND (18 R430). -/
def execSqSend (acc : Acc) (sq : Fin 2) (words : BitVec 6) (dst : DieId) (outbox : List Byte) (s : State) : Host.Outcome State Fault Refusal :=
  .next (inCycle (whenPower (fun s =>
    regWrite acc (0x2164 + 4 * sq.val) (2 ^ 20 * words.toNat + dst.toNat) 
      (modSq sq.val (fun q => { q with mem := memWrite 0x1BE00 outbox q.mem }) s))) s)

/-- MBOX_POP (18 R430). -/
def execMboxPop (acc : Acc) (sq : Fin 2) (s : State) : Host.Outcome State Fault Refusal :=
  .next (inCycle (whenPower (regWrite acc (0x216C + 4 * sq.val) 1)) s)

/-- CAPTURE (18 R424). -/
def execCapture (acc : Acc) (s : State) : Host.Outcome State Fault Refusal :=
  .next (inCycle (whenPower (regWrite acc 0x217C 1)) s)

/-- CAL_WRITE (18 R424). -/
def execCalWrite (acc : Acc) (s : State) : Host.Outcome State Fault Refusal :=
  .next (inCycle (whenPower (regWrite acc 0x217C 2)) s)

/-- LINKCAL (18 R424). -/
def execLinkcal (acc : Acc) (s : State) : Host.Outcome State Fault Refusal :=
  .next (inCycle (whenPower (regWrite acc 0x217C 3)) s)

/-! ## Accesses in general (21 R460-R465; 11 R273) -/

/-- REGP_RSVD_ACCESS (21 R460). -/
def execRegpRsvdAccess (acc : Acc) (wr : Bool) (addr : BitVec 23) (data : W32) (s : State) : Host.Outcome State Fault Refusal :=
  .next (inCycle (whenPower (regOffer { acc, wr, addr, data })) s)

/-- REGP_DENIED (11 R273). -/
def execRegpDenied (acc : Acc) (wr : Bool) (addr : BitVec 23) (data : W32) (s : State) : Host.Outcome State Fault Refusal :=
  .next (inCycle (whenPower (regOffer { acc, wr, addr, data })) s)

/-- REGISTER_WRITE (21 R461). -/
def execRegisterWrite (acc : Acc) (addr : BitVec 23) (data : W32) (s : State) : Host.Outcome State Fault Refusal :=
  .next (inCycle (whenPower (regOffer { acc, wr := true, addr, data })) s)

/-- RC_REGISTER_READ (21 R461, R464). -/
def execRcRegisterRead (acc : Acc) (addr : BitVec 23) (s : State) : Host.Outcome State Fault Refusal :=
  .next (inCycle (whenPower (regOffer { acc, wr := false, addr, data := 0 })) s)

end Sys2Proof.Machine
end

