-- ==== Sys2Proof/Machine/KindLoad.lean ====
section
/-! DEFINITION. Loading the Kind Table: its layout and the load-time checks (04 R96-R100, R114-R117). -/

namespace Sys2Proof.Machine

/-! ## Rows (R96-R100, R117) -/

/-- An OUT that its kind's options do not allow: the HEADER failure made on the row. -/
def rowOutBad (irq link : Bool) (w : Nat) : Bool :=
  let out := fld w 48 8
  (out == 0x40 && !irq) || (decide (1 ≤ out) && decide (out ≤ 0x3F) && !link)

/-- ROW_RSVD. -/
def rowRsvd (w : Nat) : Bool :=
  fld w 56 8 != 0 || fld w 46 2 != 0 || fld w 25 3 != 0 || fld w 14 2 != 0 || decide (7 ≤ fld w 4 4) ||
    decide (12 ≤ fld w 16 4) || decide (14 ≤ fld w 32 4) || decide (4 ≤ fld w 40 3) || fld w 44 2 == 3 ||
    decide (0x41 ≤ fld w 48 8)

/-- ROW_STATE. -/
def rowState (nst w : Nat) : Bool := decide (nst ≤ fld w 0 4) || decide (nst ≤ fld w 28 4)

/-- ROW_OPERAND. -/
def rowOperand (w : Nat) : Bool :=
  let gop := fld w 16 4
  let vop := fld w 32 4
  (fld w 8 6 != 0 && fld w 4 4 != 6)
    || ((gop == 0 || decide (9 ≤ gop)) && (fld w 20 2 != 0 || fld w 22 3 != 0))
    || ((gop == 7 || gop == 8) && fld w 20 2 == 3)
    || (vop == 0 && (fld w 36 3 != 0 || fld w 39 1 != 0)) || ((vop == 12 || vop == 13) && fld w 36 3 != 0)

/-- ROW_REFUSAL. -/
def rowRefusal (w : Nat) : Bool :=
  fld w 44 2 != 0 &&
    (fld w 28 4 != fld w 0 4 || fld w 32 4 != 0 || fld w 40 3 != 0 || fld w 43 1 != 0 || fld w 48 8 != 0)

/-- ROW_QUEUE. -/
def rowQueue (w : Nat) : Bool := fld w 40 3 == 1 && (fld w 4 4 == 1 || fld w 4 4 == 5)

/-- ERR of a row, the lowest code that applies; 0 for none (R117). -/
def rowErr (nst : Nat) (irq link : Bool) (x : W64) : Nat :=
  let w := x.toNat
  if rowOutBad irq link w then 6
  else if rowRsvd w then 7
  else if rowState nst w then 8
  else if rowOperand w then 9
  else if rowRefusal w then 10
  else if rowQueue w then 11
  else 0

/-! ## Kind headers (R115) -/

/-- The kind that a header describes, less its rows. -/
def kindOfHead (h : Nat) : UKind :=
  { code := BitVec.ofNat 8 h, nstates := fld h 8 8, init := fld h 24 4, cgop := fld h 32 8, cgl := fld h 40 2
    cgr := fld h 42 3, kfmask := BitVec.ofNat 8 (h >>> 48), irqEn := h.testBit 56, linkEn := h.testBit 57
    irqsrc := BitVec.ofNat 8 (h >>> 64), linkoff := BitVec.ofNat 18 (h >>> 96), name := BitVec.ofNat 128 (h >>> 128)
    cs := (List.range 4).map (fun i => BitVec.ofNat 64 (h >>> (256 + 64 * i))), rows := [] }

/-- The field offsets of a header and whether each breaks its rule, in order. -/
def headRules (h : Nat) : List (Nat × Bool) :=
  let u := kindOfHead h
  [ (1, u.nstates == 0 || decide (16 < u.nstates))
  , (2, fld h 16 8 == 0 || decide (64 < fld h 16 8))
  , (3, decide (u.nstates ≤ u.init) || fld h 28 4 != 0)
  , (4, decide (8 < u.cgop))
  , (5, decide (1 < u.cgl) || u.cgr == 1 || u.cgr == 2 || fld h 45 3 != 0 || (u.cgop == 0 && (u.cgl != 0 || u.cgr != 0)))
  , (7, fld h 58 6 != 0)
  , (8, !u.irqEn && u.irqsrc != 0)
  , (9, fld h 72 24 != 0)
  , (12, u.linkEn == (u.linkoff == 0) || fld h 114 14 != 0) ]

/-- The first field that breaks its rule. -/
def headErr (h : Nat) : Option Nat := ((headRules h).find? (·.2)).map (·.1)

/-! ## The table (R114, R117) -/

/-- `k` rows from offset `o` on; a failure is ERR and offset. -/
def kindRows (n len nst : Nat) (irq link : Bool) : Nat → Nat → Except (Nat × Nat) (List W64)
  | 0, _ => .ok []
  | k + 1, o =>
    if len < o + 8 then .error (2, o)
    else
      let w := BitVec.ofNat 64 (n >>> (8 * o))
      if rowErr nst irq link w = 0 then (kindRows n len nst irq link k (o + 8)).map (w :: ·)
      else .error (rowErr nst irq link w, o)

/-- ORDER: the code out of range, not ascending, or not marked in DEFINED. -/
def orderBad (defs prev code : Nat) : Bool :=
  decide (code < 0x20) || decide (0x7F < code) || decide (code ≤ prev) || !defs.testBit (code - 0x20)

/-- `k` kinds from offset `o` on, and where the last ends; a failure is ERR, KIND and OFFSET. -/
def kindHeads (n len defs : Nat) : Nat → Nat → Nat → Except (Nat × Nat × Nat) (List UKind × Nat)
  | 0, _, o => .ok ([], o)
  | k + 1, prev, o =>
    let h := fld n (8 * o) 512
    let code := fld h 0 8
    if len < o + 64 then .error (2, if o < len then code else 0, o)
    else if orderBad defs prev code then .error (5, code, o)
    else match headErr h with
      | some f => .error (6, code, o + f)
      | none =>
        let u := kindOfHead h
        let m := fld h 16 8
        match kindRows n len u.nstates u.irqEn u.linkEn m (o + 64) with
        | .error (e, r) => .error (e, code, r)
        | .ok rows => match kindHeads n len defs k code (o + 64 + 8 * m) with
          | .error e => .error e
          | .ok (l, z) => .ok ({ u with rows } :: l, z)

/-- The ones in a number's low `k` bits. -/
def ones (n k : Nat) : Nat := ((List.range k).filter n.testBit).length

/-- The checks of R117 on the table header alone. -/
def tableErr (bs : List Byte) (n : Nat) : Option (Nat × Nat) :=
  let len := fld n 64 32
  if fld n 0 32 ≠ 0x47544B31 then some (1, 0)
  else if fld n 32 16 ≠ 1 then some (1, 4)
  else if len < 64 ∨ 65536 < len ∨ bs.length < len then some (2, 8)
  else if fld n 96 32 ≠ (crc32c (bs.take 12 ++ [0, 0, 0, 0] ++ (bs.take len).drop 16)).toNat then some (3, 12)
  else if 96 < fld n 48 16 ∨ fld n 48 16 ≠ ones (fld n 128 96) 96 then some (4, 6)
  else if fld n 224 288 ≠ 0 then some (6, 28)
  else none

/-- The kinds of a table, or the first failure as ERR, KIND and OFFSET. -/
def loadKinds (bs : List Byte) : Except (Nat × Nat × Nat) (List UKind) :=
  let n := leNat bs
  let len := fld n 64 32
  match tableErr bs n with
  | some (e, o) => .error (e, 0, o)
  | none => match kindHeads n len (fld n 128 96) (fld n 48 16) 0 64 with
    | .error e => .error e
    | .ok (l, z) => if z = len then .ok l else .error (2, 0, 8)

/-- Load the table (R116): all of it, or nothing and the first failure recorded, logged and signalled. -/
def placeKinds (bs : List Byte) (s : State) : State :=
  match loadKinds bs with
  | .ok l => { s with kt := { s.kt with kinds := l, done := true, loaded := true } }
  | .error (e, k, o) =>
    let s := { s with kt := { s.kt with
      kinds := [], done := true, loaded := false, err := BitVec.ofNat 4 e, kind := BitVec.ofNat 8 k, offset := BitVec.ofNat 16 o } }
    logEvent 0x09 (some 0x01) ((readKinds s 0x1200).getD 0) 0 0 s

end Sys2Proof.Machine
end

