-- ==== Sys2Proof/Machine/Boot.lean ====
section
/-! DEFINITION. Resets and start-up: what each reset keeps, the phases, the image's header and partitions, their checks, and CONFIG
(12 R276, R277; 17 R399, R400; 18 R410-R423; 21 R466). -/

namespace Sys2Proof.Machine

/-! ## Resets (R410; 21 R466) -/

/-- What lies outside the block and outlives a reset: the commands that wait, the flits and accesses that wait on their ports, the
levels of input pins, and the model's own counters. -/
def keepOutside (s d : State) : State :=
  { d with
    pending := s.pending, clk := s.clk, hb := { d.hb with ports := s.hb.ports }
    regp := { d.regp with stalled := s.regp.stalled }
    pins := { d.pins with coolantLossN := s.pins.coolantLossN, droop := s.pins.droop }
    pwr := { d.pwr with droopSeen := s.pins.droop } }

/-- Release of PORST_N. -/
def porst (lcSealed : Bool) (s : State) : State :=
  let d := keepOutside s {}
  { d with
    sec := { d.sec with st := if lcSealed then .sealed_ else .virgin }
    boot := { d.boot with phase := .selftest }
    pins := { d.pins with gclkReq := true } }

/-- Every entry of the incarnation table one up. -/
def incAll (t : Tbl Byte) : Tbl Byte :=
  (List.range 1024).filterMap (fun i => if tgetD t i 0 + 1 = 0 then none else some (i, tgetD t i 0 + 1))

/-- Release of WARM_RST_N. OPEN-AUTH ends first (17 R406). A role stays with its taker, and a taker stays recorded, until PORST_N
(13 R321, R326), and a lost copy holder stays lost (R325; log entry 93). -/
def warmReset (s : State) : State :=
  let s := endUnlock 5 s
  let d := keepOutside s {}
  { d with
    ag := { d.ag with inc := incAll s.ag.inc }
    kt := { d.kt with bad := s.kt.bad }
    couch := { d.couch with takers := s.couch.takers, steppedDown := s.couch.steppedDown, taken := s.couch.taken }
    vat := { d.vat with lostHolders := s.vat.lostHolders }
    felt := { d.felt with
      session := s.felt.session
      streams := (s.felt.streams.filter (·.pinned)).map (fun t => { eth := t.eth, idx := t.idx, peer := t.peer, pinned := true }) }
    res := { d.res with lr := s.res.lr, failed := s.res.failed, stuck := s.res.stuck.filter (fun e => e.1 == 2) }
    cal := { s.cal with
      ppsAlign := false, ppsoEn := false, asymD2d := 0, asymEth := 0, cmdBusy := false, cmdErr := 0 }
    aon := s.aon
    pwr := { d.pwr with warnDeb := s.pwr.warnDeb }
    sec := { s.sec with token := none, spoiled := false, lastres := 0 }
    boot := { d.boot with phase := .selftest, warm := true, resetTime := now s, writes := s.boot.writes }
    pins := { d.pins with gclkReq := true, logfailN := s.pins.logfailN } }

/-- The supply of PD_AON fails: everything is lost (16 R373). -/
def supplyFails (s : State) : State :=
  let d := keepOutside s {}
  { d with pwr := { d.pwr with off := true } }

/-! ## Phases (R411, R413) -/

/-- Start-up fails. -/
def bootFail (err : Nat) (part : Nat) (s : State) : State :=
  let us : W32 := BitVec.ofNat 32 ((now s - s.boot.resetTime).toNat / 8000)
  modPins (fun p => { p with fatalN := false })
    (modBoot (fun b => { b with phase := .failed, err := BitVec.ofNat 4 err, part := BitVec.ofNat 3 part, us }) s)

/-- SELFTEST ends (R411; 17 R400; 19 R442). -/
def selftest (pass : Bool) (s : State) : State :=
  if s.boot.phase ≠ .selftest then s
  else
    regDrain (
      if !pass then bootFail 1 0 s
      else modBoot (fun b => { b with phase := if s.sec.st = .virgin then .held else .discover }) s)

/-- The size of the smallest erase type listed; with none listed CALOFF is held to no alignment (log entry 95). -/
def smallestErase (l : List EraseType) : Nat :=
  match l.filter (fun e => e.log != 0) with
  | [] => 1
  | e :: r => r.foldl (fun n f => min n (2 ^ f.log.toNat)) (2 ^ e.log.toNat)

/-- DISCOVER ends (R412). -/
def discover (f : Sfdp) (s : State) : State :=
  if s.boot.phase ≠ .discover then s
  else if f.signature ≠ 0x50444653 ∨ !f.bfpt then bootFail 2 0 s
  else
    modBoot (fun b => { b with
      phase := .verify, mode114 := f.fast114 && f.quadReq, addr4 := f.addr4only, flash := some f
      eraseSize := smallestErase f.erase }) s

/-! ## The header (R414, R415) -/

/-- Directory entry `i`. -/
def partAt (n i : Nat) : Part :=
  let b := 512 + 512 * i
  { off := fld n b 32, len := fld n (b + 32) 32, digest := BitVec.ofNat 384 (n >>> (b + 128)) }

/-- The length a partition may have (R415). -/
def partLenOk (i len : Nat) : Bool :=
  if i = 0 then decide (64 ≤ len) && decide (len ≤ 2240)
  else if i = 1 then decide (64 ≤ len) && decide (len ≤ 65536)
  else if i = 2 then len == 128
  else if i = 5 then decide (len ≤ 8192) && len % 8 == 0
  else decide (4 ≤ len) && decide (len ≤ 114176) && len % 4 == 0

/-- Two partitions do not overlap; an empty one (R415 entry 5) overlaps none. -/
def apart (p q : Part) : Bool := p.len == 0 || q.len == 0 || decide (p.off + p.len ≤ q.off) || decide (q.off + q.len ≤ p.off)

/-- A directory keeps R415. -/
def directoryOk (n length : Nat) (l : List Part) : Bool :=
  (List.range 6).all (fun i => match l[i]? with
    | none => false
    | some p =>
      fld n (512 + 512 * i + 64) 64 == 0 && p.off % 64 == 0 && decide (640 ≤ p.off) && decide (p.off + p.len ≤ length) &&
        partLenOk i p.len && (l.drop (i + 1)).all (apart p))

/-- The header's fields, where they keep R414 and R415. -/
def readHeader (eraseSize : Nat) (h : BitVec 5120) : Option Header :=
  let n := h.toNat
  let length := fld n 64 32
  let caloff := fld n 160 32
  let parts := (List.range 6).map (partAt n)
  if fld n 0 32 == 0x47494D31 && fld n 32 16 == 1 && decide (4 ≤ fld n 48 8) && decide (fld n 48 8 ≤ 16) && fld n 57 7 == 0
      && decide (640 ≤ length) && decide (length ≤ 1048576) && fld n 128 16 != 0 && fld n 144 16 == 0
      && caloff % eraseSize == 0 && decide (length ≤ caloff) && decide (caloff < 2 ^ 24) && fld n 192 320 == 0
      && directoryOk n length parts
  then some
    { sckDiv := fld n 48 8, rolemap := n.testBit 56, length, imgver := BitVec.ofNat 32 (n >>> 96), linkwait := fld n 128 16
      caloff, parts }
  else none

/-- VERIFY ends (R415 steps 1 to 3). -/
def verifyHeader (h : BitVec 5120) (s : State) : State :=
  if s.boot.phase ≠ .verify then s
  else match readHeader s.boot.eraseSize h with
    | none => bootFail 3 0 s
    | some d =>
      let key : BitVec 768 := h.extractLsb' 3584 768
      if Config.sha384 96 key.toNat ≠ Config.rootKeyHash then bootFail 4 0 s
      else if !Config.ecdsaP384 key (Config.sha384 544 (h.toNat % 2 ^ 4352)) (h.extractLsb' 4352 768) then bootFail 5 0 s
      else modBoot (fun b => { b with phase := .load, header := some d }) s

/-! ## The topology table (R416, R417) -/

/-- `k` role records from offset `o` on, where each keeps R417, and where the last ends. -/
def topoRecs (n len : Nat) : Nat → Nat → Option (List RoleDef × Nat)
  | 0, o => some ([], o)
  | k + 1, o =>
    let role := fld n (8 * o) 8
    let hold := fld n (8 * o + 8) 8
    let package := fld n (8 * o + 16) 16
    let parent := fld n (8 * o + 32) 16
    let m := fld n (8 * o + 48) 8
    let z := o + 8 + (2 * m + 7) / 8 * 8
    let children := (List.range m).map (fun i => fld n (8 * (o + 8 + 2 * i)) 16)
    if len < o + 8 ∨ len < z then none
    else if role = 0 ∨ 3 < role ∨ 1 < hold ∨ (role = 3 ∧ parent ≠ 0) ∨ m = 0 ∨ 64 < m ∨ fld n (8 * o + 56) 8 ≠ 0
        ∨ fld n (8 * (o + 8 + 2 * m)) (8 * (z - (o + 8 + 2 * m))) ≠ 0 ∨ children.contains package
        ∨ children.eraseDups.length ≠ m then none
    else match topoRecs n len k z with
      | none => none
      | some (l, e) => some ({ role, shadow := hold == 1, package, parent, children } :: l, e)

/-- What R277 counts. -/
def pinCount (l : List RoleDef) : Nat :=
  l.foldl (fun n r => n + 2 * r.children.length + (if r.role = 3 then 0 else 2)) 1

/-- Two records describe one role in one hold. -/
def sameRole (a b : RoleDef) : Bool := a.role == b.role && a.shadow == b.shadow && a.package == b.package

/-- No record is repeated. -/
def recsDistinct : List RoleDef → Bool
  | [] => true
  | r :: l => !l.any (sameRole r) && recsDistinct l

/-- The records as a whole keep R417, and their hosts R146: no shadow host is its primary host. -/
def recsOk (t : Topo) : Bool :=
  let prim := t.recs.filter (fun r => !r.shadow)
  (t.recs.isEmpty || t.die.toNat % 16 == t.pkgDie)
    && prim.all (fun r => r.package == t.die.toNat / 16 && r.role == t.tier) && decide (prim.length ≤ 1)
    && t.recs.all (fun r => !r.shadow || r.package != t.die.toNat / 16)
    && recsDistinct t.recs && decide (pinCount t.recs ≤ 224)

/-- The fields of the table's header, its records apart. -/
def topoHead (n : Nat) (recs : List RoleDef) : Topo :=
  { die := BitVec.ofNat 20 (n >>> 64), packages := fld n 96 17, dies := fld n 128 8, regions := fld n 136 8
    clusters := fld n 144 8, units := fld n 152 8, pkgDie := fld n 160 8, pkgShadow := fld n 168 8, tier := fld n 176 8
    partner := fld n 192 16, parent := fld n 208 16, ppartner := fld n 224 16, recs }

/-- The header's fields keep R416 and R417. -/
def topoOk (n : Nat) (t : Topo) : Bool :=
  fld n 84 12 == 0 && decide (1 ≤ t.packages) && decide (t.packages ≤ 65536) && fld n 113 15 == 0
    && decide (1 ≤ t.dies) && decide (t.dies ≤ 16) && decide (1 ≤ t.regions) && decide (t.regions ≤ 4)
    && decide (1 ≤ t.clusters) && decide (t.clusters ≤ 16) && decide (1 ≤ t.units) && decide (t.units ≤ 16)
    && decide (t.pkgDie < t.dies)
    && (if t.dies = 1 then t.pkgShadow == 0xFF else decide (t.pkgShadow < t.dies) && t.pkgShadow != t.pkgDie)
    && decide (t.tier ≤ 3) && (t.packages == 1 || t.partner != t.die.toNat / 16)
    && (t.tier != 3 || (t.parent == 0 && t.ppartner == 0)) && fld n 240 272 == 0
    && decide (t.die.toNat / 16 < t.packages) && decide (t.die.toNat % 16 < t.dies) && recsOk t

/-- The topology table of a partition, where it passes CHECK. -/
def loadTopo (bs : List Byte) : Option Topo :=
  let n := leNat bs
  let len := fld n 32 32
  if fld n 0 32 ≠ 0x47545031 ∨ len ≠ bs.length ∨ 16 < fld n 184 8 then none
  else match topoRecs n len (fld n 184 8) 64 with
    | none => none
    | some (recs, z) =>
      let t := topoHead n recs
      if z = len && topoOk n t then some t else none

/-! ## Policy and REGS (R418, R419) -/

/-- The security policy of a partition, where it passes CHECK. -/
def loadPolicy (bs : List Byte) : Option Policy :=
  let n := leNat bs
  let key := fld n 128 768
  let ttrip : Byte := BitVec.ofNat 8 (n >>> 64)
  let thalt : Byte := BitVec.ofNat 8 (n >>> 72)
  let maxops := fld n 80 16
  if fld n 0 32 == 0x47504C31 && fld n 35 5 == 0 && fld n 44 4 == 0 && decide (fld n 48 8 ≤ 63) && decide (fld n 56 8 ≤ 63)
      && decide (ttrip.toInt < thalt.toInt) && decide (64 ≤ maxops) && decide (maxops ≤ 1024) && fld n 96 32 == 0
      && (n.testBit 32 || key == 0) && fld n 896 128 == 0
  then some
    { dbgKey := if n.testBit 32 then some (BitVec.ofNat 768 key) else none, calwEn := n.testBit 33, privCreate := n.testBit 34
      dbgAllow := BitVec.ofNat 4 (n >>> 40), floor := BitVec.ofNat 6 (n >>> 48), maxup := BitVec.ofNat 6 (n >>> 56), ttrip, thalt
      maxops := BitVec.ofNat 11 maxops }
  else none

/-- The entries of REGS: offset and value. -/
def regsEntries (bs : List Byte) : List (Nat × W32) :=
  let n := leNat bs
  (List.range (bs.length / 8)).map (fun i => (fld n (64 * i) 32, BitVec.ofNat 32 (n >>> (64 * i + 32))))

/-- REGS passes CHECK. -/
def regsOk (bs : List Byte) : Bool := (regsEntries bs).all (fun e => regsAllowed e.1)

/-! ## The pinned streams (12 R276; log entry 50) -/

/-- The dies of other packages that the topology table relates to this die through a Couch role or its shadow. -/
def relatedDies (t : Topo) : List DieId :=
  let p := t.die.toNat / 16
  let d := t.die.toNat % 16
  let at_ := fun (q k : Nat) => (BitVec.ofNat 20 (q * 16 + k) : DieId)
  let both := fun (q : Nat) => if t.pkgShadow < 16 then [at_ q t.pkgDie, at_ q t.pkgShadow] else [at_ q t.pkgDie]
  let up := if t.tier = 3 then [] else [at_ t.parent t.pkgDie, at_ t.ppartner t.pkgDie]
  let par := fun (r : RoleDef) =>
    if r.role = 3 then []
    else if r.parent = t.parent then [at_ r.parent t.pkgDie, at_ t.ppartner t.pkgDie] else [at_ r.parent t.pkgDie]
  let all :=
    if d = t.pkgDie then
      [at_ t.partner t.pkgDie] ++ up ++
        t.recs.flatMap (fun r => (r.package :: r.children).flatMap both ++ par r)
    else if d = t.pkgShadow then (if t.tier = 0 then up else at_ t.partner t.pkgDie :: up)
    else []
  (all.filter (fun x => x.toNat / 16 != p)).eraseDups

/-- The stream table at CONFIG: a D2D stream to each other die of the package, an Ethernet stream to each related die. -/
def pinnedStreams (t : Topo) : List Stream :=
  let p := t.die.toNat / 16
  let d2d := ((List.range t.dies).filter (fun k => k != t.die.toNat % 16)).map (fun k =>
    { eth := false, idx := k, peer := BitVec.ofNat 20 (p * 16 + k), pinned := true : Stream })
  let eth := (relatedDies t).mapIdx (fun i x => { eth := true, idx := i, peer := x, pinned := true : Stream })
  d2d ++ eth

/-! ## CONFIG and LINKS (R420, R421) -/

/-- GS_COUCH_ROLE from the topology table (06 R145, R146), less a role that this die has left to its taker (13 R326). Where the
table holds relay records of different tiers, TIER is the first one's (log entry 94). -/
def rolesOf (s : State) (c : Couch) : Couch :=
  let hosts := pkgHosts s (myPkg s)
  let has := fun (root shadow : Bool) =>
    (rolesHere s).any (fun r => (r.role == 3) == root && r.shadow == shadow && (shadow || servesRole s r))
  { c with
    pkgP := hosts.head? == some (myDie s) && servesPkg s, pkgS := hosts[1]? == some (myDie s)
    sysP := has true false, sysS := has true true, rlyP := has false false, rlyS := has false true
    tier := match (rolesHere s).find? (fun r => r.role != 3) with
      | some r => BitVec.ofNat 2 r.role
      | none => 0 }

/-- Step 1 of R420. -/
def configTopo (t : Topo) (s : State) : State :=
  let s := modBoot (fun b => { b with topo := t }) s
  modFelt (fun f => { f with dieReg := t.die, streams := pinnedStreams t }) (modCouch (rolesOf s) s)

/-- Step 2 of R420. -/
def configRegs (bs : List Byte) (s : State) : State :=
  (regsEntries bs).foldl (fun s e => regPut { rq := .regp } e.1 e.2 s) s

/-- Step 3 of R420: the set, or the defaults of R423, and the deskew codes, each presented with D2D_CAL_LOAD (19 R445). -/
def configCal (v : BitVec 2048) (s : State) : State :=
  let good := calGood v
  let c : Cal := if good then calOf v else {}
  let s := modBoot (fun b => { b with cal := c, factory := good && c.factory, caldef := !good }) s
  let s := modCal (fun k => { k with
    asymD2d := if good then v.extractLsb' 112 12 else 0, asymEth := if good then v.extractLsb' 128 12 else 0 }) s
  (s.felt.streams.filter (fun t => !t.eth)).foldl (fun s t =>
    let peer := BitVec.ofNat 4 t.idx
    let code := c.deskew.getD t.idx 0
    modPins (fun p => { p with calPeer := peer, calCode := code, calLoad := p.calLoad ++ [(peer, code)] }) s) s

/-- Step 4 of R420. -/
def configLimits (p : Policy) (s : State) : State :=
  modPwr (fun w => { w with floor := p.floor, maxup := p.maxup, ttrip := p.ttrip, thalt := p.thalt, maxops := p.maxops })
    (modBoot (fun b => { b with policy := p }) s)

/-- LINKS begins: the sequencers are released, and SYNC goes out on every pinned stream (R421). -/
def linksBegin (h : Header) (parts : List (List Byte)) (s : State) : State :=
  let fw := fun (role : Bool) => parts.getD (if role then 4 else 3) []
  let s := modSq 0 (fun q => { q with role := h.rolemap, held := false, st := .run } |> loadFirmware (fw h.rolemap)) s
  let s := modSq 1 (fun q => { q with role := !h.rolemap, held := false, st := .run } |> loadFirmware (fw (!h.rolemap))) s
  let s := modBoot (fun b => { b with phase := .links }) s
  (s.felt.streams.filter (·.pinned)).foldl (fun s t => sendSync t.peer s) s

/-- CONFIG (R420). The Calender takes its state once its role and GS_CAL_CFG are loaded (14 R339). -/
def configure (h : Header) (t : Topo) (p : Policy) (cal : BitVec 2048) (parts : List (List Byte)) (s : State) : State :=
  let s := configCal cal (configRegs (parts.getD 5 []) (configTopo t (modBoot (fun b => { b with phase := .config }) s)))
  let s := configLimits p s
  if (tgetD s.ctx.tab 0 {}).l1len = 0 then bootFail 10 0 s else linksBegin h parts (calStart (openContext 0 s))

/-! ## LOAD and CHECK (R411, R415) -/

/-- The first partition whose bytes do not have the directory's length and digest. -/
def digestBad (h : Header) (parts : List (List Byte)) : Option Nat :=
  (List.range 6).find? (fun i => match h.parts[i]?, parts[i]? with
    | some p, some bs => !(bs.length == p.len && Config.sha384 bs.length (leNat bs) == p.digest)
    | _, _ => true)

/-- LOAD ends; CHECK and CONFIG follow. -/
def loadImage (cal : BitVec 2048) (parts : List (List Byte)) (s : State) : State :=
  match s.boot.header with
  | none => s
  | some h =>
    if s.boot.phase ≠ .load then s
    else match digestBad h parts with
      | some i => bootFail 6 i s
      | none =>
        let s := modBoot (fun b => { b with imgver := h.imgver }) s
        match loadTopo (parts.getD 0 []) with
        | none => bootFail 7 0 s
        | some t => match loadPolicy (parts.getD 2 []) with
          | none => bootFail 8 0 s
          | some p =>
            if !regsOk (parts.getD 5 []) then bootFail 9 5 s
            else configure h t p cal parts (placeKinds (parts.getD 1 []) s)

/-! ## Commands -/

/-- PORST_N (R410; 17 R399). -/
def execPorstN (lcSealed : Bool) (s : State) : Host.Outcome State Fault Refusal := .next (bootCycle (porst lcSealed) s)

/-- WARM_RST_N (R410). -/
def execWarmRstN (s : State) : Host.Outcome State Fault Refusal := .next (bootCycle (whenOn warmReset) s)

/-- PD_AON_SUPPLY_FAILS (16 R373). -/
def execPdAonSupplyFails (s : State) : Host.Outcome State Fault Refusal := .next (bootCycle supplyFails s)

/-- SELFTEST (R411). -/
def execSelftest (pass : Bool) (s : State) : Host.Outcome State Fault Refusal := .next (inCycle (whenOn (selftest pass)) s)

/-- DISCOVER (R412). -/
def execDiscover (sfdp : Sfdp) (s : State) : Host.Outcome State Fault Refusal := .next (inCycle (whenOn (discover sfdp)) s)

/-- VERIFY (R415). -/
def execVerify (header : BitVec 5120) (s : State) : Host.Outcome State Fault Refusal :=
  .next (inCycle (whenOn (verifyHeader header)) s)

/-- LOAD (R411, R415-R423). -/
def execLoad (cal : BitVec 2048) (parts : List (List Byte)) (s : State) : Host.Outcome State Fault Refusal :=
  .next (bootCycle (whenOn (loadImage cal parts)) s)

end Sys2Proof.Machine
end

