-- ==== Sys2Proof/Machine/Frames.lean ====
section
/-! DEFINITION. A Felt frame received, and Felt's timers (12; 13 R307, R317-R326; 09 R230-R234). A frame row stands for a
frame whose CRC is right; DATAGRAM_RX and D2D_CELL_RX read frames from bytes (log entry 19). -/

namespace Sys2Proof.Machine

/-- A frame received in one cycle. -/
def frameRow (h : FHdr) (b : Body) (s : State) : Host.Outcome State Fault Refusal := .next (inCycle (rxFrame h b) s)

/-- HEARTBEAT (12 R298, R302; 13 R326). -/
def execHeartbeat (h : FHdr) (power : BitVec 3) (halted taken : Bool) (time : W64)
    (s : State) : Host.Outcome State Fault Refusal :=
  frameRow h (.heartbeat power halted taken time) s

/-- ACK (12 R292-R295). -/
def execAck (h : FHdr) (s : State) : Host.Outcome State Fault Refusal := frameRow h .ack s

/-- SYNC (12 R296, R297). -/
def execSync (h : FHdr) (s : State) : Host.Outcome State Fault Refusal := frameRow h .sync s

/-- SYNC_ACK (12 R296, R297). -/
def execSyncAck (h : FHdr) (s : State) : Host.Outcome State Fault Refusal := frameRow h .syncAck s

/-- WAKE (12 R301, 16 R377). -/
def execWake (h : FHdr) (s : State) : Host.Outcome State Fault Refusal := frameRow h .wake s

/-- HALT (12 R303, 16 R384). -/
def execHaltFrame (h : FHdr) (origin : DieId) (cause : Byte) (time : W64)
    (s : State) : Host.Outcome State Fault Refusal :=
  frameRow h (.halt origin cause time) s

/-- TSYNC REQ (14 R337, R338). -/
def execTsyncReq (h : FHdr) (xn : Byte) (t1 : W64)
    (s : State) : Host.Outcome State Fault Refusal :=
  frameRow h (.tsyncReq xn t1) s

/-- TSYNC RESP (14 R338-R341). -/
def execTsyncResp (h : FHdr) (xn : Byte) (state : BitVec 2) (t1 t2 t3 : W64)
    (s : State) : Host.Outcome State Fault Refusal :=
  frameRow h (.tsyncResp xn state t1 t2 t3) s

/-- FWMSG (18 R430). -/
def execFwmsg (h : FHdr) (dst src : Byte) (tag : BitVec 16) (bounce : Bool) (msg : List W64)
    (s : State) : Host.Outcome State Fault Refusal :=
  frameRow h (.fwmsg dst src tag bounce msg) s

/-- OP (12 R281). -/
def execOp (h : FHdr) (opcode : Byte) (f : Flit) (slot : BitVec 17) (cont : Option (BitVec 256))
    (s : State) : Host.Outcome State Fault Refusal :=
  frameRow h (.op opcode f slot cont) s

/-- FLIT (12 R281). -/
def execFlit (h : FHdr) (f : OutFlit) (s : State) : Host.Outcome State Fault Refusal := frameRow h (.flit f) s

/-- NOTIFY (05 R133). -/
def execNotify (h : FHdr) (f : OutFlit) (s : State) : Host.Outcome State Fault Refusal := frameRow h (.notify f) s

/-- RELEASE (06 R153). -/
def execRelease (h : FHdr) (handle : W32) (ctx : CtxId) (status : Status) (epoch : W32) (lanes : Bool) (word : W64)
    (data : BitVec 512)
    (s : State) : Host.Outcome State Fault Refusal :=
  frameRow h (.release handle ctx status epoch lanes word data) s

/-- REPORT (06 R150-R152). -/
def execReport (h : FHdr) (handle : W32) (ctx : CtxId) (epoch weight : W32) (desc : Option LaneDesc) (parts : List Partial)
    (s : State) : Host.Outcome State Fault Refusal :=
  frameRow h (.report handle ctx epoch weight desc parts) s

/-- REFUSAL (06 R152). -/
def execRefusal (h : FHdr) (handle : W32) (ctx : CtxId) (status : Status) (epoch : W32)
    (s : State) : Host.Outcome State Fault Refusal :=
  frameRow h (.refusal handle ctx status epoch) s

/-- FREED (05 R131). -/
def execFreed (h : FHdr) (idx : BitVec 16) (target : AgentId)
    (s : State) : Host.Outcome State Fault Refusal :=
  frameRow h (.freed idx target) s

/-- RETARGET (05 R140). -/
def execRetarget (h : FHdr) (idx : BitVec 16) (oldInc newInc : Byte) (oldTarget newTarget : AgentId)
    (s : State) : Host.Outcome State Fault Refusal :=
  frameRow h (.retarget idx oldInc newInc oldTarget newTarget) s

/-- UNWATCH_RST (05 R144). -/
def execUnwatchRst (h : FHdr) (idx : BitVec 16) (oldInc : Byte) (target : AgentId)
    (s : State) : Host.Outcome State Fault Refusal :=
  frameRow h (.unwatchRst idx oldInc target) s

/-- WACK (05 R140, R144). -/
def execWack (h : FHdr) (idx : BitVec 16) (done rst : Bool)
    (s : State) : Host.Outcome State Fault Refusal :=
  frameRow h (.wack idx done rst) s

/-- SHADOW_UPD of subtype CREATE (13 R314, R317). -/
def execShadowUpdCreate (h : FHdr) (slot : BitVec 17) (seq : BitVec 16) (counting : Bool) (image : Image)
    (s : State) : Host.Outcome State Fault Refusal :=
  frameRow h (.shadow slot seq (.create counting image)) s

/-- SHADOW_UPD of subtype DESTROY (13 R316, R317). -/
def execShadowUpdDestroy (h : FHdr) (slot : BitVec 17) (seq : BitVec 16)
    (s : State) : Host.Outcome State Fault Refusal :=
  frameRow h (.shadow slot seq .destroy) s

/-- SHADOW_UPD of subtype SET (13 R316, R317). -/
def execShadowUpdSet (h : FHdr) (slot : BitVec 17) (seq : BitVec 16) (value : W64)
    (s : State) : Host.Outcome State Fault Refusal :=
  frameRow h (.shadow slot seq (.set value)) s

/-- SHADOW_UPD of subtype WATCH_ADD (13 R316, R317). -/
def execShadowUpdWatchAdd (h : FHdr) (slot : BitVec 17) (seq : BitVec 16) (idx : BitVec 16) (comparand : W64)
    (cond : Byte) (tinc : Byte) (cookie : BitVec 16) (target : AgentId) (ctx : CtxId) (handle : W32)
    (s : State) : Host.Outcome State Fault Refusal :=
  frameRow h (.shadow slot seq (.watchAdd idx comparand cond tinc cookie target ctx handle)) s

/-- SHADOW_UPD of subtype WATCH_FREE (13 R316, R317). -/
def execShadowUpdWatchFree (h : FHdr) (slot : BitVec 17) (seq : BitVec 16) (idx : BitVec 16)
    (s : State) : Host.Outcome State Fault Refusal :=
  frameRow h (.shadow slot seq (.watchFree idx)) s

/-- SHADOW_UPD of subtype FETCH (13 R307, R317). -/
def execShadowUpdFetch (h : FHdr) (slot : BitVec 17) (seq : BitVec 16)
    (s : State) : Host.Outcome State Fault Refusal :=
  frameRow h (.shadow slot seq .fetch) s

/-- SHADOW_UPD of subtype COPY (13 R307, R314). -/
def execShadowUpdCopy (h : FHdr) (slot : BitVec 17) (seq : BitVec 16) (counting conflict : Bool) (image : Image)
    (s : State) : Host.Outcome State Fault Refusal :=
  frameRow h (.shadow slot seq (.copy counting conflict image)) s

/-- TAKEOVER (13 R320, R321, R326). -/
def execTakeover (h : FHdr) (role : Byte) (primary : DieId) (time : W64)
    (s : State) : Host.Outcome State Fault Refusal :=
  frameRow h (.takeover role primary time) s

/-- QSTART (09 R230, R231). -/
def execQstart (h : FHdr) (key : QKey) (agent : AgentId) (time : W64) (homes : List DieId)
    (s : State) : Host.Outcome State Fault Refusal :=
  frameRow h (.qstart key agent time homes) s

/-- QPREP (09 R217, R230). -/
def execQprep (h : FHdr) (key : QKey) (inc : Byte) (agent : AgentId) (coord : DieId) (time : W64) (ctx : CtxId)
    (members : List QMember)
    (s : State) : Host.Outcome State Fault Refusal :=
  frameRow h (.qprep key inc agent coord time ctx members) s

/-- QVOTE (09 R230, R231). -/
def execQvote (h : FHdr) (key : QKey) (no : Bool) (cause : Byte) (pos : BitVec 4) (status : Status)
    (s : State) : Host.Outcome State Fault Refusal :=
  frameRow h (.qvote key no cause pos status) s

/-- QWOUND (09 R226). -/
def execQwound (h : FHdr) (key : QKey) (s : State) : Host.Outcome State Fault Refusal := frameRow h (.qwound key) s

/-- QDECIDE (09 R232-R234). -/
def execQdecide (h : FHdr) (key : QKey) (abort : Bool) (cause : Byte) (voted : List DieId)
    (s : State) : Host.Outcome State Fault Refusal :=
  frameRow h (.qdecide key abort cause voted) s

/-- QDONE (09 R234). -/
def execQdone (h : FHdr) (key : QKey) (answers : List QAnswer)
    (s : State) : Host.Outcome State Fault Refusal :=
  frameRow h (.qdone key answers) s

/-! ## Carriers -/

/-- DATAGRAM_RX (12 R285-R287; 19 R446). -/
def execDatagramRx (bytes : List Byte) (err full : Bool) (s : State) : Host.Outcome State Fault Refusal :=
  .next (inCycle (datagramRx bytes err full) s)

/-- D2D_CELL_RX (12 R283; 19 R444). -/
def execD2dCellRx (peer : BitVec 4) (sof err full : Bool) (cell : BitVec 512) (s : State) : Host.Outcome State Fault Refusal :=
  .next (inCycle (cellRx peer sof err full cell) s)

/-! ## Timers -/

/-- FELT_SEND: what waits and may leave is sent (12 R293, R294). -/
def execFeltSend (s : State) : Host.Outcome State Fault Refusal := .next (inCycle pumpTx s)

/-- DELAYED_ACK (12 R292). -/
def execDelayedAck (peer : DieId) (s : State) : Host.Outcome State Fault Refusal :=
  .next (inCycle (delayedAck peer) s)

/-- RETRANSMIT_TIMER (12 R295). -/
def execRetransmitTimer (peer : DieId) (seq : W32) (s : State) : Host.Outcome State Fault Refusal :=
  .next (inCycle (retransmitTimer peer seq) s)

/-- HEARTBEAT_TIMER (12 R298). -/
def execHeartbeatTimer (peer : DieId) (s : State) : Host.Outcome State Fault Refusal :=
  .next (inCycle (heartbeatTimer peer) s)

/-- STREAM_SILENCE_TIMEOUT (12 R299). -/
def execStreamSilenceTimeout (peer : DieId) (cause : DownCause) (s : State) : Host.Outcome State Fault Refusal :=
  .next (inCycle (silenceTimeout peer cause) s)

/-- SYNC_RESEND (12 R296). -/
def execSyncResend (peer : DieId) (s : State) : Host.Outcome State Fault Refusal :=
  .next (inCycle (syncResend peer) s)

/-- WAKE_RESEND (12 R302, R303). -/
def execWakeResend (peer : DieId) (s : State) : Host.Outcome State Fault Refusal :=
  .next (inCycle (wakeResend peer) s)

/-- HALT_COPY_TIMER (12 R303). -/
def execHaltCopyTimer (peer : DieId) (s : State) : Host.Outcome State Fault Refusal :=
  .next (inCycle (haltCopy peer) s)

/-- STREAM_SEEK_RETRY (12 R297). -/
def execStreamSeekRetry (peer : DieId) (s : State) : Host.Outcome State Fault Refusal :=
  .next (inCycle (seekRetry peer) s)

/-- PEER_DOWN_HOLD_TIMEOUT (13 R324). -/
def execPeerDownHoldTimeout (peer : DieId) (s : State) : Host.Outcome State Fault Refusal :=
  .next (inCycle (peerHoldTimeout peer) s)

/-- COPY_ANSWER_TIMEOUT (13 R307). -/
def execCopyAnswerTimeout (slot : BitVec 17) (s : State) : Host.Outcome State Fault Refusal :=
  .next (inCycle (whenClk (copyTimeout slot.toNat)) s)

/-- THIRD_COPY_TIMEOUT (13 R307). -/
def execThirdCopyTimeout (slot : BitVec 17) (s : State) : Host.Outcome State Fault Refusal :=
  .next (inCycle (whenClk (endFetch slot.toNat)) s)

/-- QUIRE_TIMEOUT (09 R233). -/
def execQuireTimeout (key : QKey) (s : State) : Host.Outcome State Fault Refusal :=
  .next (inCycle (whenClk (quireTimeout key)) s)

end Sys2Proof.Machine
end

