-- ==== Sys2Proof/Machine/Dispatch.lean ====
section
/-! DEFINITION. One arm per command of spec/opcode_table.json: a direct call of its meaning. -/

namespace Sys2Proof.Machine

def exec (i : Instr) (s : State) : Host.Outcome State Fault Refusal :=
  match i with
  | .nop p f => Sys2Proof.Machine.execNop p f s
  | .read p f => Sys2Proof.Machine.execRead p f s
  | .signal p f => Sys2Proof.Machine.execSignal p f s
  | .set p f => Sys2Proof.Machine.execSet p f s
  | .take p f => Sys2Proof.Machine.execTake p f s
  | .give p f => Sys2Proof.Machine.execGive p f s
  | .arrive p f => Sys2Proof.Machine.execArrive p f s
  | .arriveR p f => Sys2Proof.Machine.execArriveR p f s
  | .cas p f => Sys2Proof.Machine.execCas p f s
  | .watch p f => Sys2Proof.Machine.execWatch p f s
  | .unwatch p f => Sys2Proof.Machine.execUnwatch p f s
  | .move p f => Sys2Proof.Machine.execMove p f s
  | .qbegin p f => Sys2Proof.Machine.execQbegin p f s
  | .qop p f => Sys2Proof.Machine.execQop p f s
  | .qcommit p f => Sys2Proof.Machine.execQcommit p f s
  | .qabort p f => Sys2Proof.Machine.execQabort p f s
  | .arm p f => Sys2Proof.Machine.execArm p f s
  | .disarm p f => Sys2Proof.Machine.execDisarm p f s
  | .invoke p f => Sys2Proof.Machine.execInvoke p f s
  | .probe p f => Sys2Proof.Machine.execProbe p f s
  | .traceMark p f => Sys2Proof.Machine.execTraceMark p f s
  | .undefinedOpcode p opcode f => Sys2Proof.Machine.execUndefinedOpcode p opcode f s
  | .burstContinuation p opcode f => Sys2Proof.Machine.execBurstContinuation p opcode f s
  | .burstTimeout agent => Sys2Proof.Machine.execBurstTimeout agent s
  | .egressTransfer p => Sys2Proof.Machine.execEgressTransfer p s
  | .chainedInvoke => Sys2Proof.Machine.execChainedInvoke s
  | .postOperation => Sys2Proof.Machine.execPostOperation s
  | .lockedOpRestart => Sys2Proof.Machine.execLockedOpRestart s
  | .quirePrepareUnpark => Sys2Proof.Machine.execQuirePrepareUnpark s
  | .tableWalkStart => Sys2Proof.Machine.execTableWalkStart s
  | .walkReadResponse tag err data => Sys2Proof.Machine.execWalkReadResponse tag err data s
  | .mempTimeout tag => Sys2Proof.Machine.execMempTimeout tag s
  | .mempLateResponse tag => Sys2Proof.Machine.execMempLateResponse tag s
  | .launchIssue queue => Sys2Proof.Machine.execLaunchIssue queue s
  | .consReread queue => Sys2Proof.Machine.execConsReread queue s
  | .consReadResponse tag err data => Sys2Proof.Machine.execConsReadResponse tag err data s
  | .launchWriteResponse tag err => Sys2Proof.Machine.execLaunchWriteResponse tag err s
  | .lqFaultClear acc => Sys2Proof.Machine.execLqFaultClear acc s
  | .lqEnable acc v => Sys2Proof.Machine.execLqEnable acc v s
  | .reelEnable acc v => Sys2Proof.Machine.execReelEnable acc v s
  | .reelFlush => Sys2Proof.Machine.execReelFlush s
  | .reelWriteResponse tag err => Sys2Proof.Machine.execReelWriteResponse tag err s
  | .stubExpiry agent inc => Sys2Proof.Machine.execStubExpiry agent inc s
  | .wmHoldoffEnd rec => Sys2Proof.Machine.execWmHoldoffEnd rec s
  | .datagramRx bytes err full => Sys2Proof.Machine.execDatagramRx bytes err full s
  | .heartbeat h power halted taken time => Sys2Proof.Machine.execHeartbeat h power halted taken time s
  | .ack h => Sys2Proof.Machine.execAck h s
  | .sync h => Sys2Proof.Machine.execSync h s
  | .syncAck h => Sys2Proof.Machine.execSyncAck h s
  | .wake h => Sys2Proof.Machine.execWake h s
  | .haltFrame h origin cause time => Sys2Proof.Machine.execHaltFrame h origin cause time s
  | .tsyncReq h xn t1 => Sys2Proof.Machine.execTsyncReq h xn t1 s
  | .tsyncResp h xn state t1 t2 t3 => Sys2Proof.Machine.execTsyncResp h xn state t1 t2 t3 s
  | .fwmsg h dst src tag bounce msg => Sys2Proof.Machine.execFwmsg h dst src tag bounce msg s
  | .op h opcode f slot cont => Sys2Proof.Machine.execOp h opcode f slot cont s
  | .flit h f => Sys2Proof.Machine.execFlit h f s
  | .notify h f => Sys2Proof.Machine.execNotify h f s
  | .release h handle ctx status epoch lanes word data => Sys2Proof.Machine.execRelease h handle ctx status epoch lanes word data s
  | .report h handle ctx epoch weight desc parts => Sys2Proof.Machine.execReport h handle ctx epoch weight desc parts s
  | .refusal h handle ctx status epoch => Sys2Proof.Machine.execRefusal h handle ctx status epoch s
  | .freed h idx target => Sys2Proof.Machine.execFreed h idx target s
  | .retarget h idx oldInc newInc oldTarget newTarget => Sys2Proof.Machine.execRetarget h idx oldInc newInc oldTarget newTarget s
  | .unwatchRst h idx oldInc target => Sys2Proof.Machine.execUnwatchRst h idx oldInc target s
  | .wack h idx done rst => Sys2Proof.Machine.execWack h idx done rst s
  | .shadowUpdCreate h slot seq counting image => Sys2Proof.Machine.execShadowUpdCreate h slot seq counting image s
  | .shadowUpdDestroy h slot seq => Sys2Proof.Machine.execShadowUpdDestroy h slot seq s
  | .shadowUpdSet h slot seq value => Sys2Proof.Machine.execShadowUpdSet h slot seq value s
  | .shadowUpdWatchAdd h slot seq idx comparand cond tinc cookie target ctx handle => Sys2Proof.Machine.execShadowUpdWatchAdd h slot seq idx comparand cond tinc cookie target ctx handle s
  | .shadowUpdWatchFree h slot seq idx => Sys2Proof.Machine.execShadowUpdWatchFree h slot seq idx s
  | .shadowUpdFetch h slot seq => Sys2Proof.Machine.execShadowUpdFetch h slot seq s
  | .shadowUpdCopy h slot seq counting conflict image => Sys2Proof.Machine.execShadowUpdCopy h slot seq counting conflict image s
  | .copyAnswerTimeout slot => Sys2Proof.Machine.execCopyAnswerTimeout slot s
  | .thirdCopyTimeout slot => Sys2Proof.Machine.execThirdCopyTimeout slot s
  | .takeover h role primary time => Sys2Proof.Machine.execTakeover h role primary time s
  | .qstart h key agent time homes => Sys2Proof.Machine.execQstart h key agent time homes s
  | .qprep h key inc agent coord time ctx members => Sys2Proof.Machine.execQprep h key inc agent coord time ctx members s
  | .qvote h key no cause pos status => Sys2Proof.Machine.execQvote h key no cause pos status s
  | .qwound h key => Sys2Proof.Machine.execQwound h key s
  | .qdecide h key abort cause voted => Sys2Proof.Machine.execQdecide h key abort cause voted s
  | .qdone h key answers => Sys2Proof.Machine.execQdone h key answers s
  | .quireTimeout key => Sys2Proof.Machine.execQuireTimeout key s
  | .feltSend => Sys2Proof.Machine.execFeltSend s
  | .delayedAck peer => Sys2Proof.Machine.execDelayedAck peer s
  | .retransmitTimer peer seq => Sys2Proof.Machine.execRetransmitTimer peer seq s
  | .heartbeatTimer peer => Sys2Proof.Machine.execHeartbeatTimer peer s
  | .streamSilenceTimeout peer cause => Sys2Proof.Machine.execStreamSilenceTimeout peer cause s
  | .syncResend peer => Sys2Proof.Machine.execSyncResend peer s
  | .wakeResend peer => Sys2Proof.Machine.execWakeResend peer s
  | .haltCopyTimer peer => Sys2Proof.Machine.execHaltCopyTimer peer s
  | .streamSeekRetry peer => Sys2Proof.Machine.execStreamSeekRetry peer s
  | .peerDownHoldTimeout peer => Sys2Proof.Machine.execPeerDownHoldTimeout peer s
  | .scrubVisit site => Sys2Proof.Machine.execScrubVisit site s
  | .agentReset acc agent => Sys2Proof.Machine.execAgentReset acc agent s
  | .create acc => Sys2Proof.Machine.execCreate acc s
  | .destroy acc => Sys2Proof.Machine.execDestroy acc s
  | .destroyForce acc => Sys2Proof.Machine.execDestroyForce acc s
  | .fetch acc => Sys2Proof.Machine.execFetch acc s
  | .attach acc => Sys2Proof.Machine.execAttach acc s
  | .detach acc idx => Sys2Proof.Machine.execDetach acc idx s
  | .wmRead acc idx => Sys2Proof.Machine.execWmRead acc idx s
  | .wmRetarget acc idx => Sys2Proof.Machine.execWmRetarget acc idx s
  | .openCtx acc => Sys2Proof.Machine.execOpenCtx acc s
  | .deckleClear acc => Sys2Proof.Machine.execDeckleClear acc s
  | .invHandle acc ctx => Sys2Proof.Machine.execInvHandle acc ctx s
  | .invCtx acc ctx => Sys2Proof.Machine.execInvCtx acc ctx s
  | .invAll acc => Sys2Proof.Machine.execInvAll acc s
  | .rejoin acc => Sys2Proof.Machine.execRejoin acc s
  | .closeStream acc => Sys2Proof.Machine.execCloseStream acc s
  | .accept acc slot => Sys2Proof.Machine.execAccept acc slot s
  | .refit acc => Sys2Proof.Machine.execRefit acc s
  | .dumpStart acc all ctx => Sys2Proof.Machine.execDumpStart acc all ctx s
  | .dumpWriteResponse tag err => Sys2Proof.Machine.execDumpWriteResponse tag err s
  | .irqClaim acc p same => Sys2Proof.Machine.execIrqClaim acc p same s
  | .irqSet acc src same => Sys2Proof.Machine.execIrqSet acc src same s
  | .irqPendingClear acc k mask same => Sys2Proof.Machine.execIrqPendingClear acc k mask same s
  | .secLock acc => Sys2Proof.Machine.execSecLock acc s
  | .idcode => Sys2Proof.Machine.execIdcode s
  | .challenge => Sys2Proof.Machine.execChallenge s
  | .response token => Sys2Proof.Machine.execResponse token s
  | .dbgstat => Sys2Proof.Machine.execDbgstat s
  | .regacc reg => Sys2Proof.Machine.execRegacc reg s
  | .tapLock => Sys2Proof.Machine.execTapLock s
  | .bypass bit => Sys2Proof.Machine.execBypass bit s
  | .unlockVerifyDone => Sys2Proof.Machine.execUnlockVerifyDone s
  | .unlockExpiry => Sys2Proof.Machine.execUnlockExpiry s
  | .porstN lcSealed => Sys2Proof.Machine.execPorstN lcSealed s
  | .warmRstN => Sys2Proof.Machine.execWarmRstN s
  | .selftest pass => Sys2Proof.Machine.execSelftest pass s
  | .discover sfdp => Sys2Proof.Machine.execDiscover sfdp s
  | .verify header => Sys2Proof.Machine.execVerify header s
  | .load cal parts => Sys2Proof.Machine.execLoad cal parts s
  | .linkwaitTimeout => Sys2Proof.Machine.execLinkwaitTimeout s
  | .coolantLoss => Sys2Proof.Machine.execCoolantLoss s
  | .haltIn => Sys2Proof.Machine.execHaltIn s
  | .haltCommand acc => Sys2Proof.Machine.execHaltCommand acc s
  | .pwrWarnAssert => Sys2Proof.Machine.execPwrWarnAssert s
  | .braced => Sys2Proof.Machine.execBraced s
  | .braceSummaryResponse tag err => Sys2Proof.Machine.execBraceSummaryResponse tag err s
  | .pwrWarnDeassert => Sys2Proof.Machine.execPwrWarnDeassert s
  | .dozeEntry => Sys2Proof.Machine.execDozeEntry s
  | .sleep acc => Sys2Proof.Machine.execSleep acc s
  | .sleepEntryComplete => Sys2Proof.Machine.execSleepEntryComplete s
  | .sleepEntryTimeout => Sys2Proof.Machine.execSleepEntryTimeout s
  | .sleepExit => Sys2Proof.Machine.execSleepExit s
  | .gclkAck => Sys2Proof.Machine.execGclkAck s
  | .thermalSample temp => Sys2Proof.Machine.execThermalSample temp s
  | .droopChange level => Sys2Proof.Machine.execDroopChange level s
  | .stepEnable acc v => Sys2Proof.Machine.execStepEnable acc v s
  | .stepTick stepReq => Sys2Proof.Machine.execStepTick stepReq s
  | .stepGrantRise => Sys2Proof.Machine.execStepGrantRise s
  | .stepGrantFall => Sys2Proof.Machine.execStepGrantFall s
  | .tsyncInterval => Sys2Proof.Machine.execTsyncInterval s
  | .fitPoint => Sys2Proof.Machine.execFitPoint s
  | .fitEnd => Sys2Proof.Machine.execFitEnd s
  | .ppsIn => Sys2Proof.Machine.execPpsIn s
  | .ppsOutRise => Sys2Proof.Machine.execPpsOutRise s
  | .ppsOutFall => Sys2Proof.Machine.execPpsOutFall s
  | .restart acc sq => Sys2Proof.Machine.execRestart acc sq s
  | .wdogKick acc sq limit => Sys2Proof.Machine.execWdogKick acc sq limit s
  | .wdogExpiry sq => Sys2Proof.Machine.execWdogExpiry sq s
  | .sqFault sq => Sys2Proof.Machine.execSqFault sq s
  | .sqReloadDone sq image => Sys2Proof.Machine.execSqReloadDone sq image s
  | .sqSend acc sq words dst outbox => Sys2Proof.Machine.execSqSend acc sq words dst outbox s
  | .mboxPop acc sq => Sys2Proof.Machine.execMboxPop acc sq s
  | .capture acc => Sys2Proof.Machine.execCapture acc s
  | .calWrite acc => Sys2Proof.Machine.execCalWrite acc s
  | .calwBufferResponse tag err data => Sys2Proof.Machine.execCalwBufferResponse tag err data s
  | .calFlashDone readback => Sys2Proof.Machine.execCalFlashDone readback s
  | .calFlashTimeout => Sys2Proof.Machine.execCalFlashTimeout s
  | .linkcal acc => Sys2Proof.Machine.execLinkcal acc s
  | .linkcalDone code => Sys2Proof.Machine.execLinkcalDone code s
  | .linkcalTimeout => Sys2Proof.Machine.execLinkcalTimeout s
  | .regpRsvdAccess acc wr addr data => Sys2Proof.Machine.execRegpRsvdAccess acc wr addr data s
  | .regpDenied acc wr addr data => Sys2Proof.Machine.execRegpDenied acc wr addr data s
  | .registerWrite acc addr data => Sys2Proof.Machine.execRegisterWrite acc addr data s
  | .d2dCellRx peer sof err full cell => Sys2Proof.Machine.execD2dCellRx peer sof err full cell s
  | .mempRequestTransfer => Sys2Proof.Machine.execMempRequestTransfer s
  | .pdAonSupplyFails => Sys2Proof.Machine.execPdAonSupplyFails s
  | .refclkEdge => Sys2Proof.Machine.execRefclkEdge s
  | .agentCounterTick => Sys2Proof.Machine.execAgentCounterTick s
  | .rcRegisterRead acc addr => Sys2Proof.Machine.execRcRegisterRead acc addr s

end Sys2Proof.Machine
end

