-- ==== Sys2Proof/Machine/Calm.lean ====
section
/-! DEFINITION. The states in which nothing of the block waits, and the view of a state that leaves out what every cycle
counts by itself: the words in which the statements about single commands are made. -/

namespace Sys2Proof.Machine

/-! ## Nothing waits -/

/-- The Headbox is empty: no flit at a port, no request, no LINK operation, no chained INVOKE, no REGP command. -/
def headEmpty (s : State) : Bool :=
  s.hb.ports.isEmpty && s.hb.waiting.isEmpty && s.hb.link.isEmpty && s.hb.chains.isEmpty && s.hb.regq.isEmpty

/-- Felt holds nothing that a cycle moves by itself. -/
def feltEmpty (s : State) : Bool :=
  s.felt.rx.all (fun e => e.2.full.isNone) && s.felt.txq.isEmpty && s.felt.loop.isEmpty && s.felt.returned.isEmpty && s.vat.owed.isEmpty &&
    s.felt.streams.all (fun t => !(t.closeOwed && t.unacked.isEmpty))

/-- No tick, trip or answer waits for the step unit. -/
def stepEmpty (s : State) : Bool := s.step.inbox.isEmpty && !s.step.due && !s.step.tripDue

/-- The flash stays with whoever has it (18 R428). -/
def flashIdle (s : State) : Bool := match s.boot.flashq with
  | [] => true
  | k :: _ => !(decide (k < 2) && (sqAt s k).st == .wait && s.pwr.st != .sleep)

/-- No arrival is on its way into its slot and no list is being tested. -/
def passesDone (s : State) : Bool := s.couch.entering.isEmpty && s.wt.walks.isEmpty

/-- BRACE has no open quire to end (16 R380). -/
def braceIdle (s : State) : Bool := s.pwr.bphase != .bracing || s.qu.recs.all (fun e => e.2.state != .opened)

/-- Nothing of the block waits: a cycle in which no command comes has nothing to do but count. -/
def rest (s : State) : Bool :=
  headEmpty s && feltEmpty s && stepEmpty s && passesDone s && braceIdle s && !dumpDue s && s.ctx.clearing.isNone &&
    flashIdle s && s.boot.phase != .links

/-- The die runs: in RUN, ACTIVE, powered, not going to SLEEP, neither halted nor stopped by a fatal error. -/
def running (s : State) : Bool :=
  s.boot.phase == .run && s.pwr.st == .active && s.pwr.sleep == .none && !s.pwr.off && !s.pwr.halted && !s.res.fatal

/-! ## What every cycle counts -/

/-- The sources of the block queues' Watermarks (08 R206, 15 R359). -/
def qwmSource (n : Nat) : Bool := 0x10 ≤ n && n ≤ 0x15

/-- The state less the cycle number, the grants and counted cycles of the Headbox, the grants Felt extends to its peers and whose
turn they are, the cells and datagrams that carry this cycle's frames, the log entries not yet stored, the quarter-periods since the
last REFCLK edge, and the block queues' Watermarks with the sources and the counter they move. -/
def still (s : State) : State :=
  { s with
    clk := { s.clk with cycle := 0 }
    hb := { s.hb with slot0 := false, granted := 0, grantedR := 0, counted := 0 }
    felt := { s.felt with
      streams := s.felt.streams.map (fun t => { t with granted := 0 }), rr := none, d2dTx := [], ethTx := [] }
    res := { s.res with waiting := 0 }
    cal := { s.cal with p := 0 }
    wm := { s.wm with q := [] }
    irq := { s.irq with src := s.irq.src.filter (fun e => !qwmSource e.1) }
    aon := s.aon.set 0x13 0 }

/-- As `still`, less the arbiter's own state: pointers, rounds, the window of grants and the longest wait. -/
def stillArb (s : State) : State :=
  let t := still s
  { t with hb := { t.hb with arb := {}, window := [], rounds := 0, maxWait := 0 } }

/-! ## A request granted in the cycle that brings it -/

/-- The place of a request in the order of responses (02 R47). -/
def placeOf (op : Op) : Unanswered :=
  { src := op.src, opcode := op.opcode, agent := op.agent, inc := op.inc, ctx := op.ctx, handle := op.handle, seq := op.seq }

/-- No earlier request of the same agent, context and handle awaits its answer. -/
def firstInLine (op : Op) (s : State) : Bool := s.hb.order.all (fun u => !inLine op.src (respFlit op stOk 0 0 0) u)

/-- The request awaits its answer. -/
def awaits (op : Op) (s : State) : State := { s with hb := { s.hb with order := s.hb.order ++ [placeOf op] } }

/-- A request of one flit, offered to a running die in which nothing waits, that passes its header checks, may be granted at once
and has no earlier one before it in its line of responses. -/
def grantable (m : MeshFlit) (s : State) : Bool :=
  rest s && s.hb.bursts.isEmpty && running s && poolRoom s && canGrant (tick s) && !m.f.cont && m.cont.isNone &&
    needsBurst m.opcode m.f == some false && (headCheck s m).isNone && firstInLine (opOf m.opcode m.f none) s

/-- The state in which a granted request is carried out: the grant and the context's operation are counted. -/
def granted (c : CtxId) (s : State) : State := modCtxCnt c (fun k => { k with ops := k.ops + 1 }) (bumpAon 0x00 (tick s))

/-- A continuation that completes the one open burst, offered to a running die in which nothing waits, where the whole request
passes its header checks, may be granted at once and has no earlier one before it in its line of responses. -/
def burstGrantable (b : MeshFlit) (p : Port) (o : Byte) (f : Flit) (s : State) : Bool :=
  rest s && running s && poolRoom s && canGrant (tick s) && decide (s.hb.bursts = [b]) && b.port == p &&
    localIx b.f.agent == localIx f.agent && (contDiff b.opcode b.f o f).isNone && firstInLine (opOf b.opcode b.f none) s &&
    (headCheck s { b with cont := some { f with cont := true } }).isNone

/-- The response to a request of this die's mesh, in line for its port: an OK to a request with NORESP is not sent (02 R39, R40). -/
def withResp (op : Op) (st : Status) (a b : W64) (data : BitVec 512) (s : State) : State :=
  if op.noresp && st == stOk then s
  else { s with eg := { s.eg with
    queue := s.eg.queue ++ [{ f := respFlit op st a b data, prio := 2, built := s.clk.cycle }] } }

/-- Both copies of a slot read clean and alike (13 R304 row 1). -/
def clean (x : Slot) : Bool := !x.lost && decide (x.a.err = {}) && decide (x.b.err = {}) && decide (x.a = x.b)

/-- The operation's handle is in the translation cache and leads to slot `n` of this die, where nothing holds it up: no lock, no
fetch, two clean copies, an object that its context may use. -/
def reaches (s : State) (op : Op) (n : Nat) : Bool :=
  (match tcFind s op.ctx op.handle with
    | none => false
    | some x => xlSlot x == n && xlHome x == myDie s && homeNow s (xlHome x) op.handle == myDie s && !useDenied op x &&
        !((op.opcode == opArrive || op.opcode == opArriveR) && xlComb x)) &&
    ctxState s op.ctx == .live && !blocked s (.slot n) && !thirdDead s n && clean (slotAt s n) &&
    (objAt s n).kind != 0 && ownerOk (objAt s n) op.ctx

/-- The operations that act on the object of their handle at once (02 R34). -/
def objOpcode (o : Byte) : Bool :=
  o == opRead || o == opSignal || o == opSet || o == opTake || o == opGive || o == opArrive || o == opArriveR || o == opCas ||
    o == opWatch || o == opUnwatch || o == opArm || o == opInvoke || o == opProbe

/-- The request of an opcode, as the command of its row; the last is an opcode that 02 R32 leaves undefined. -/
def requestOf (o : Byte) (p : Port) (f : Flit) : Instr :=
  if o = opNop then .nop p f
  else if o = opRead then .read p f
  else if o = opSignal then .signal p f
  else if o = opSet then .set p f
  else if o = opTake then .take p f
  else if o = opGive then .give p f
  else if o = opArrive then .arrive p f
  else if o = opArriveR then .arriveR p f
  else if o = opCas then .cas p f
  else if o = opWatch then .watch p f
  else if o = opUnwatch then .unwatch p f
  else if o = opMove then .move p f
  else if o = opQbegin then .qbegin p f
  else if o = opQop then .qop p f
  else if o = opQcommit then .qcommit p f
  else if o = opQabort then .qabort p f
  else if o = opArm then .arm p f
  else if o = opDisarm then .disarm p f
  else if o = opInvoke then .invoke p f
  else if o = opProbe then .probe p f
  else if o = opTraceMark then .traceMark p f
  else .undefinedOpcode p o f

/-- A kind's answer that changes the object alone: no grant, no queueing, no release, no row output, and an object without
Watermark records that is not DIVERGED. -/
def plain (r : KRes) : Bool :=
  r.status == stOk && !r.queue && r.grants.isEmpty && !r.release && r.out == 0 && !r.obj.wmark && !r.obj.diverged

/-- The names by which frames down the tree know an object, with one more where it is new (06 R153). -/
def named (i : CtxId × W32) (l : List (CtxId × W32)) : List (CtxId × W32) := if l.contains i then l else l ++ [i]

/-- An ARRIVE_R as its grant stamps it: with the time that keys its inputs (07 R177). -/
def stamped (op : Op) (s : State) : Op := { op with time := now s }

/-- The object after an event, and its update sequence (03 R61, R64). -/
def withObject (n : Nat) (o : Obj) (s : State) : State := bumpIf n (bytesAt s n) (putObj n o s)

/-! ## A register access served in the cycle that brings it -/

/-- An access of context 0, from REGP or a sequencer, offered to a die in which nothing waits, with power and GCLK, when REGP is
not held. -/
def served (c : Acc) (s : State) : Bool :=
  rest s && gclkOn s && !regpHeld s && accCtx c == 0 && c.rq != .regacc

/-- A write is served: it returns no data. -/
def wrote (s : State) : State := { s with regp := { s.regp with rdata := 0 } }

/-- A REGP command written and granted slot 0 in the same cycle (06 R161). -/
def slotGranted (s : State) : State := bumpAon 0x00 (wrote (tick s))

/-- A register write that starts a REGP command, which is granted at once. -/
def slotServed (c : Acc) (s : State) : Bool := served c s && canGrant (tick s)

/-- Registers that a write alone changes, with the bits that they keep (21 R461). -/
def plainRegs : List (Nat × W32) :=
  [(0x1004, 0x3FF), (0x1100, 0x1FFFF), (0x1800, 0xF), (0x1900, 0xFFF), (0x1924, 0xFFFFFFFF), (0x1940, 7), (0x1A30, 0x1FF),
    (0x1B24, 0x1FF), (0x1C0C, 0xC0FFFFFF), (0x1D00, 0x3FF), (0x1D80, 0xFFFFFFC0), (0x1D84, 0xFFFFFFFF), (0x1D88, 0xFFFFFFC0),
    (0x1E00, 0xFF), (0x1F0C, 0xFFFFFFC0), (0x1F10, 0xFFFFFFFF), (0x1F1C, 0x3F), (0x2174, 0xFFFFFFC0), (0x2178, 0xFFFFFFFF)]

/-- Registers that a write leaves as they are: RO and RC fields alone (21 R461). -/
def readOnlyRegs : List Nat :=
  [0x00, 0x04, 0x08, 0x0C, 0x10, 0x14, 0x18, 0x1C, 0x20, 0x1008, 0x100C, 0x1128, 0x1200, 0x1204, 0x1210, 0x1214, 0x1300, 0x1304,
    0x1308, 0x130C, 0x1310, 0x1314, 0x1400, 0x1404, 0x1408, 0x140C, 0x1410, 0x1500, 0x1508, 0x150C, 0x1510, 0x1624, 0x1700, 0x1704,
    0x1708, 0x170C, 0x1710, 0x1714, 0x1824, 0x1830, 0x1834, 0x1838, 0x1914, 0x1928, 0x1930, 0x1934, 0x1938, 0x1960, 0x1A34, 0x1A38,
    0x1A44, 0x1A48, 0x1A4C, 0x1A50, 0x1B08, 0x1B0C, 0x1B10, 0x1B20, 0x1C00, 0x1C10, 0x1C14, 0x1C18, 0x1D04, 0x1D54, 0x1EC0, 0x1F2C,
    0x1F30, 0x1F34, 0x1F38, 0x2000, 0x2100, 0x2104, 0x2108, 0x2114, 0x2160, 0x2180, 0x2200, 0x2204]

/-- A sequencer restarted with the flash free: held, its cause and count kept, the block's outputs kept for it, an SQ_RESTART entry,
and its reload begun (18 R427, R428). -/
def restarted (n : Nat) (cause : BitVec 4) (s : State) : State :=
  let q := sqAt s n
  let u := modSq n (fun q => { q with held := true, cause, count := satInc 255 q.count, st := .reload }) s
  logEvent 0x17 (some 0x0A) (BitVec.ofNat 32 n) (BitVec.ofNat 64 (cause.toNat + 2 ^ 8 * bit q.role))
    (BitVec.ofNat 64 (satInc 255 q.count))
    { u with
      sq := { u.sq with
        holdHalt := s.pins.haltOut, holdGrant := s.pins.stepGrant, holdSq := n == 1, holdIrq := s.pins.irq }
      boot := { s.boot with flashq := [n] } }

/-! ## A frame received -/

/-- A frame on the UP stream of its sender, which passes the checks of 12 R281, offered to a die in which nothing waits; the stream
owes the sender nothing else, and the sender has everything this die sent. -/
def hears (h : FHdr) (b : Body) (s : State) : Bool :=
  rest s && gclkOn s && s.boot.phase == .run && frameOk s h b && b != .wake && !isSync b && !staleRole s h.src b &&
    s.felt.streams.all (fun t => t.peer != h.src || !t.closeOwed) &&
    (match streamTo s h.src with
      | some t => t.st == .up && h.session == t.peerSession && t.unacked.isEmpty && t.held.isEmpty && (!h.sq || h.seq == t.exp)
      | none => false)

/-- What every frame of an UP stream brings about: life, CWAIT, credit; a sequenced one moves EXP and is owed an
acknowledgement. -/
def heard (h : FHdr) (s : State) : State :=
  modStream h.src (fun t => { t with
    lastRecv := now s, peerCwait := h.cwait, used := s.clk.cycle
    credit := if (h.credit - t.credit).toNat < 2 ^ 15 then h.credit else t.credit
    unacked := []
    held := if h.sq then [] else t.held
    exp := if h.sq then h.seq + 1 else t.exp
    beatFrom := if h.sq && !beatStream { t with unacked := [] } then now s else t.beatFrom
    ackOwed := h.sq || t.ackOwed }) s

/-! ## A frame sent -/

/-- A sequenced frame handed to Felt leaves at once: its peer's stream is UP and lets it (12 R293, R294). -/
def leaves (d : DieId) (b : Body) (s : State) : Bool :=
  d != myDie s && !waitsFor s d && (match streamTo s d with
    | some t => canSend s t b
    | none => false)

/-- The first transmission of a sequenced frame: the frame on the wire, kept unacknowledged, and NEXT one up (12 R289, R294). -/
def sent (d : DieId) (b : Body) (s : State) : State := match streamTo s d with
  | none => s
  | some t =>
    modStream d (fun u => { u with
      lastSent := now s, ackOwed := false, used := s.clk.cycle, next := u.next + 1
      beatFrom := if beatStream t then u.beatFrom else now s
      unacked := u.unacked ++ [{ fid := s.felt.fid, seq := t.next, body := b, last := now s, count := 1 }] })
      { s with felt := { s.felt with
        fid := s.felt.fid + 1, wire := s.felt.wire ++ [{ h := mkHdr s t true false false t.next, body := b, idx := t.idx }] } }

/-- An unsequenced frame on a stream: the frame on the wire, with the acknowledgement owed (12 R289, R292). -/
def told (d : DieId) (b : Body) (s : State) : State := match streamTo s d with
  | none => s
  | some t =>
    modStream d (fun u => { u with lastSent := now s, ackOwed := false, used := s.clk.cycle })
      { s with felt := { s.felt with wire := s.felt.wire ++ [{ h := mkHdr s t false false false 0, body := b, idx := t.idx }] } }

/-! ## What the kinds promise -/

/-- The counters of a RING are in order and within its size and mark, and STATE is AT_MARK exactly at the mark (03 R84). -/
def ringFit (o : Obj) : Bool :=
  let r := ringOf o
  decide (1 ≤ r.n) && decide (r.m ≤ 2 ^ 31) && decide (r.f ≤ r.c) && decide (r.c ≤ r.h) && decide (r.h ≤ r.n + r.f) &&
    decide (r.h ≤ r.m) && o.state == (if r.h = r.m then 1 else 0)

/-- A TICKETLOCK is FREE with nobody waiting and x = s, or HELD with `k` TAKEs waiting and x - s = 1 + k (03 R87). -/
def lockFit (o : Obj) (k : Nat) : Bool :=
  let x : BitVec 32 := o.value.extractLsb' 0 32
  let s : BitVec 32 := o.value.extractLsb' 32 32
  (o.state == 0 && x == s && k == 0) || (o.state == 1 && x == s + 1 + BitVec.ofNat 32 k)

/-- Registers and the values of their Reset columns (00 R10; 12 R303; 13 R332; 16 R397; 21 R466). -/
def resetWords : List (Nat × W32) :=
  [(0x0000, 0x00030100), (0x0004, 0x6A510000), (0x1008, 0), (0x1104, 0), (0x1200, 0), (0x1314, 0), (0x1400, 0), (0x1A00, 0x0040C491),
    (0x1B14, 0x80000001), (0x1C08, 0), (0x1C0C, 0), (0x1F00, 4), (0x1F08, 0), (0x1F14, 0x000A0064), (0x1F2C, 0x3F),
    (0x1F30, 0x0000695F), (0x1F34, 0x400), (0x1F38, 0x8000)]

end Sys2Proof.Machine
end

