-- ==== Sys2Proof/Safety.lean ====
section
/-! DEFINITION. What a safe run is: every step answers a next state, and the kinds that the kind engine runs are those that the
load-time checks let pass (04 R115-R117). -/

namespace Sys2Proof.Machine

/-- A step that neither faults nor is refused. -/
def SafeStep (s : State) : Prop := ∃ t, step s = .next t

/-- A kind keeps the rules of 04 R115 and every row passes the row checks of 04 R117. -/
def ukindOk (u : UKind) : Bool :=
  decide (0x20 ≤ u.code.toNat) && decide (u.code.toNat ≤ 0x7F) && decide (1 ≤ u.nstates) && decide (u.nstates ≤ 16) &&
    decide (u.init < u.nstates) && decide (1 ≤ u.rows.length) && decide (u.rows.length ≤ 64) && decide (u.cgop ≤ 8) &&
    decide (u.cgl ≤ 1) && u.cgr != 1 && u.cgr != 2 && (u.cgop != 0 || (u.cgl == 0 && u.cgr == 0)) &&
    (u.irqEn || u.irqsrc == 0) && (u.linkEn != (u.linkoff == 0)) &&
    u.rows.all (fun w => rowErr u.nstates u.irqEn u.linkEn w == 0)

/-- The codes rise. -/
def codesRise (ks : List UKind) : Bool := decide (ks.Pairwise (fun u v => u.code.toNat < v.code.toNat))

/-- Every kind of a table is good, in rising order, 96 at most. -/
def kindsOk (ks : List UKind) : Bool := ks.all ukindOk && codesRise ks && decide (ks.length ≤ 96)

end Sys2Proof.Machine
end

