-- ==== Sys2Proof/Certificates/Slice0/Obligations.lean ====
section
/-! DEFINITION. The statements for the provers, each from the numbered rules of spec/. `rest`, `running`, `grantable`,
`granted`, `reaches`, `withResp`, `still` and `stillArb` are Machine/Calm.lean's: a statement says which next state a command
leads to from a state in which nothing of the block waits, and what that state holds, all of it but what every cycle counts by
itself, so that it is also the command's frame. -/

open Sys2Proof Sys2Proof.Machine

/-- For every command c and every state whose queue is c followed by cs, step is exec of c on the state with the queue cs. Every
command is carried out in every state: exec answers a next state. -/
def Obligations.StepTakesFront : Prop :=
  (∀ (c : Instr) (cs : List Instr) (s : State),
    s.pending = c :: cs →
    step s = exec c { s with pending := cs }) ∧
  (∀ (c : Instr) (s : State),
    ∃ t, exec c s = .next t)

/-- The model's choice (log entry 1): on an empty queue a state in which nothing waits steps to a state that differs in the
counts of a cycle alone. -/
def Obligations.IdleStep : Prop :=
  (∀ (s : State),
    s.pending = [] →
    rest s = true →
    ∃ u, step s = .next u ∧ still u = still (tick s))

/-- A NOP that is granted in the cycle that brings it (constructor nop) is answered OK with zero operands, unless NORESP asks for
no answer, and changes nothing else but the counts of a grant. -/
def Obligations.NopCompletes : Prop :=
  (∀ (p : Port) (f : Flit) (s : State),
    grantable { port := p, opcode := opNop, f } s = true →
    ∃ u, exec (.nop p f) s = .next u ∧ stillArb u = stillArb (withResp (opOf opNop f none) stOk 0 0 0 (granted f.ctx s)))

/-- A request flit whose opcode lies above 0x14 (constructor undefinedOpcode) is answered UNDEF_OP with the opcode in operand A,
also when NORESP is set; the status counter and the context's NACKS rise by 1. -/
def Obligations.UndefinedOpcodeRefused : Prop :=
  (∀ (p : Port) (o : Byte) (f : Flit) (s : State),
    rest s = true →
    running s = true →
    poolRoom s = true →
    s.hb.bursts = [] →
    f.cont = false →
    0x14 < o.toNat →
    ∃ u, exec (.undefinedOpcode p o f) s = .next u ∧ stillArb u = stillArb (modCtxCnt f.ctx (fun k => { k with nacks := k.nacks + 1 })
      (push 2 (respFlit (opOf o f none) stUndefOp (o.setWidth 64) 0 0) none (bumpAon 0x02 (tick s)))))

/-- A READ and a PROBE (constructors read, probe) that reach an object that is not DIVERGED are answered OK with VALUE in A and
EPOCH, STATE and KIND in B; PROBE adds its payload, and of a PRIVILEGED object not in full view shows VALUE and bit 88 of the
payload alone. The object and everything else but the use of the translation cache stay as they were. -/
def Obligations.ReadProbeComplete : Prop :=
  (∀ (p : Port) (f : Flit) (s : State) (n : Nat),
    grantable { port := p, opcode := opRead, f } s = true →
    reaches s (opOf opRead f none) n = true →
    (objAt s n).diverged = false →
    ∃ u, exec (.read p f) s = .next u ∧ stillArb u = stillArb (withResp (opOf opRead f none) stOk (objAt s n).value (objB (objAt s n)) 0 (tcTouch f.ctx f.handle (granted f.ctx s)))) ∧
  (∀ (p : Port) (f : Flit) (s : State) (n : Nat),
    grantable { port := p, opcode := opProbe, f } s = true →
    reaches s (opOf opProbe f none) n = true →
    (objAt s n).diverged = false →
    ∃ u, exec (.probe p f) s = .next u ∧ stillArb u = stillArb (withResp (opOf opProbe f none) stOk (objAt s n).value
      (if (objAt s n).priv && !fullView s f.ctx then 0 else objB (objAt s n))
      (if (objAt s n).priv && !fullView s f.ctx then BitVec.ofNat 512 (2 ^ 88) else probePayload s n)
      (tcTouch f.ctx f.handle (granted f.ctx s))))

/-- A SIGNAL, SET, TAKE, GIVE, CAS or INVOKE (constructors signal, set, take, give, cas, invoke) that reaches an object of a
defined kind with an empty list, and that the kind accepts without queueing, leaves the object as the kind's rule says, with
LASTSIG as 03 R64 says and the update sequence of 03 R61, and is answered OK with VALUE after the operation (for CAS, before it)
in A and the new EPOCH, STATE and KIND in B. -/
def Obligations.ObjectOperationCompletes : Prop :=
  (∀ (o : Byte) (p : Port) (f : Flit) (s : State) (n : Nat),
    let op : Op := opOf o f none
    let r : KRes := kindStep (liveKinds s) (objAt s n) [] op (some f.agent)
    let o' : Obj := setLastsig (objAt s n) r.obj (some f.agent)
    (o = opSignal ∨ o = opSet ∨ o = opTake ∨ o = opGive ∨ o = opCas ∨ o = opInvoke) →
    grantable { port := p, opcode := o, f } s = true →
    reaches s op n = true →
    kindUnknown s (objAt s n).kind = false →
    listAt s n = [] →
    holdersOf s n = [] →
    plain r = true →
    ∃ u, exec (requestOf o p f) s = .next u ∧ stillArb u = stillArb (withResp op stOk (if o = opCas then (objAt s n).value else o'.value) (objB o') 0
      (withObject n o' (tcTouch f.ctx f.handle (granted f.ctx s)))))

/-- A SIGNAL, SET, TAKE, GIVE, CAS or INVOKE that its object's kind refuses is answered with the kind's status (KIND_REJECT or
OVERFLOW) and the object's unchanged VALUE, EPOCH, STATE and KIND; the status counter and the context's NACKS rise by 1 and the
object stays as it was. -/
def Obligations.ObjectOperationRefused : Prop :=
  (∀ (o : Byte) (p : Port) (f : Flit) (s : State) (n : Nat),
    let op : Op := opOf o f none
    let r : KRes := kindStep (liveKinds s) (objAt s n) [] op (some f.agent)
    (o = opSignal ∨ o = opSet ∨ o = opTake ∨ o = opGive ∨ o = opCas ∨ o = opInvoke) →
    grantable { port := p, opcode := o, f } s = true →
    reaches s op n = true →
    isBuiltin (objAt s n).kind = true →
    listAt s n = [] →
    (objAt s n).wmark = false →
    r.status ≠ stOk →
    r.status ≠ stDiverged →
    ∃ u, exec (requestOf o p f) s = .next u ∧ stillArb u = stillArb (modCtxCnt f.ctx (fun k => { k with nacks := k.nacks + 1 })
      (push 2 (respFlit op r.status (objAt s n).value (objB (objAt s n)) 0) none
        (bumpAon r.status.toNat (tcTouch f.ctx f.handle (granted f.ctx s))))))

/-- A SIGNAL, TAKE, GIVE or INVOKE that the kind lets wait, on an object with an empty list and with a watch entry free, takes
the lowest free entry, which becomes the object's list; the object takes the state that the kind's rule gives it, and no answer
is sent. -/
def Obligations.OperationWaits : Prop :=
  (∀ (o : Byte) (p : Port) (f : Flit) (s : State) (n : Nat),
    let op : Op := opOf o f none
    let r : KRes := kindStep (liveKinds s) (objAt s n) [] op (some f.agent)
    (o = opSignal ∨ o = opTake ∨ o = opGive ∨ o = opInvoke) →
    grantable { port := p, opcode := o, f } s = true →
    reaches s op n = true →
    kindUnknown s (objAt s n).kind = false →
    listAt s n = [] →
    entryFree s = true →
    plain { r with queue := false } = true →
    r.queue = true →
    ∃ u, exec (requestOf o p f) s = .next u ∧ stillArb u = stillArb (bumpIf n (bytesAt s n) (linkTail n (lowestFreeFrom s.wt.entries 0)
      (putEntry (lowestFreeFrom s.wt.entries 0) (.queued n op none)
        (putObj n (setLastsig (objAt s n) r.obj (some f.agent)) (tcTouch f.ctx f.handle (granted f.ctx s)))))))

/-- A WATCH (constructor watch) that reaches an object of a defined kind, with an entry free and a condition that does not fire
at once, is linked at the tail of the object's list in the lowest free entry and answered OK with the entry's index. An UNWATCH
(constructor unwatch) that names a watch of its own context on the object frees the entry, unlinks it and is answered OK with
VALUE. -/
def Obligations.WatchUnwatchComplete : Prop :=
  (∀ (p : Port) (f : Flit) (s : State) (n : Nat) (h : Bool) (e : W32),
    let op : Op := opOf opWatch f none
    let w : Watch := watchOf op n
    let ix : Nat := lowestFreeFrom s.wt.entries 0
    grantable { port := p, opcode := opWatch, f } s = true →
    reaches s op n = true →
    kindUnknown s (objAt s n).kind = false →
    (objAt s n).diverged = false →
    standbyMatch s n w = none →
    holdersOf s n = [] →
    entryFree s = true →
    condTest w.cond w.comparand w.held w.ref (objAt s n) = (false, h, e) →
    ∃ u, exec (.watch p f) s = .next u ∧ stillArb u = stillArb (withResp op stOk (BitVec.ofNat 64 ix) (objB (objAt s n)) 0
      (putEntry ix (.watch { w with held := h, ref := e })
        (bumpIf n (bytesAt s n) (linkTail n ix (putEntry ix (.watch w) (tcTouch f.ctx f.handle (granted f.ctx s)))))))) ∧
  (∀ (p : Port) (f : Flit) (s : State) (n ix : Nat) (w : Watch),
    let op : Op := opOf opUnwatch f none
    grantable { port := p, opcode := opUnwatch, f } s = true →
    reaches s op n = true →
    kindUnknown s (objAt s n).kind = false →
    (objAt s n).diverged = false →
    (objAt s n).armed = false →
    holdersOf s n = [] →
    unwatchTarget s n (f.a.toNat % 65536) = some (ix, w) →
    w.slot = n →
    w.ctx = f.ctx →
    dieOf w.target = myDie s →
    ∃ u, exec (.unwatch p f) s = .next u ∧ stillArb u = stillArb (withResp op stOk (objAt s n).value (objB (objAt s n)) 0 (bumpIf n (bytesAt s n)
      (freeEntry ix (putList n ((listAt s n).filter (· != ix)) (tcTouch f.ctx f.handle (granted f.ctx s)))))))

/-- An ARRIVE or ARRIVE_R (constructors arrive, arriveR) that reaches a BARRIER or STEPAGREE, passes the object's check and
leaves the count below THRESH adds its weight to the count, is kept as a pending arrival and answered OK with the new VALUE; the
object becomes ARRIVING (STATE 1), or REDUCING (STATE 2) for an ARRIVE_R at a BARRIER, whose lanes are merged. -/
def Obligations.ArriveCompletes : Prop :=
  (∀ (p : Port) (f : Flit) (s : State) (n : Nat),
    let op : Op := opOf opArrive f none
    let w : Nat := f.a.toNat % 2 ^ 32
    let a : ObjArr := tgetD s.couch.objs n {}
    let s0 : State := tcTouch f.ctx f.handle (granted f.ctx s)
    let o' : Obj := setLastsig (objAt s n) { withCount (objAt s n) (countOf (objAt s n) + w) with state := 1 } (some f.agent)
    grantable { port := p, opcode := opArrive, f } s = true →
    reaches s op n = true →
    isTreeKind (objAt s n).kind = true →
    (objAt s n).wmark = false →
    (objAt s n).diverged = false →
    listAt s n = [] →
    barPend s < 4096 →
    objCheck s n (objAt s n) (arrivalOf op) = stOk →
    countOf (objAt s n) + w < (objAt s n).thresh.toNat →
    (objAt s n).kind = kBarrier →
    ∃ u, exec (.arrive p f) s = .next u ∧ stillArb u = stillArb (withResp op stOk o'.value (objB o') 0 (withObject n o' { s0 with couch := { s0.couch with
      nextId := s.couch.nextId + 1
      pend := s.couch.pend ++ [{ id := s.couch.nextId, op, slot := some n, epoch := f.b.setWidth 32, weight := w }]
      objs := tset s.couch.objs n { a with idents := named (f.ctx, f.handle) a.idents } } }))) ∧
  (∀ (p : Port) (f : Flit) (s : State) (n : Nat),
    let op : Op := stamped (opOf opArriveR f none) (tick s)
    let w : Nat := f.a.toNat % 2 ^ 32
    let x : Arrival := arrivalOf op
    let a : ObjArr := tgetD s.couch.objs n {}
    let s0 : State := tcTouch f.ctx f.handle (granted f.ctx s)
    let o' : Obj := setLastsig (objAt s n) { withCount (objAt s n) (countOf (objAt s n) + w) with state := if (objAt s n).kind = kStepAgree then 1 else 2 } (some f.agent)
    grantable { port := p, opcode := opArriveR, f } s = true →
    reaches s op n = true →
    isTreeKind (objAt s n).kind = true →
    (objAt s n).wmark = false →
    (objAt s n).diverged = false →
    listAt s n = [] →
    barPend s < 4096 →
    objCheck s n (objAt s n) x = stOk →
    (objAt s n).kind = kBarrier ∨ f.ctx = 0 →
    countOf (objAt s n) + w < (objAt s n).thresh.toNat →
    ∃ u, exec (.arriveR p f) s = .next u ∧ stillArb u = stillArb (withResp op stOk o'.value (objB o') 0 (withObject n o' { s0 with couch := { s0.couch with
      nextId := s.couch.nextId + 1
      pend := s.couch.pend ++ [{ id := s.couch.nextId, op, slot := some n, epoch := f.b.setWidth 32, weight := w }]
      objs := tset s.couch.objs n { a with
        idents := named (f.ctx, f.handle) a.idents, lanes := some (mergeInto a.lanes (descOf f.b) x.parts false) } } })))

/-- An ARRIVE that brings the count of a BARRIER without lanes, or an ARRIVE_R that brings the count of any BARRIER to THRESH, on
an object with no other pending arrival and no counted report, returns the object to IDLE with its count 0 and EPOCH one up; the
arrival is answered OK with the new VALUE and its release, OK with the completed epoch, is in line behind the answer. After an
ARRIVE_R the release carries the result of the merged lanes, which the object then holds no more. -/
def Obligations.ArrivalCompletesEpoch : Prop :=
  (∀ (p : Port) (f : Flit) (s : State) (n : Nat),
    let op : Op := opOf opArrive f none
    let a : ObjArr := tgetD s.couch.objs n {}
    let s0 : State := tcTouch f.ctx f.handle (granted f.ctx s)
    let o' : Obj := setLastsig (objAt s n) { withCount (objAt s n) 0 with state := 0, epoch := (objAt s n).epoch + 1 } (some f.agent)
    grantable { port := p, opcode := opArrive, f } s = true →
    reaches s op n = true →
    isTreeKind (objAt s n).kind = true →
    (objAt s n).wmark = false →
    (objAt s n).diverged = false →
    listAt s n = [] →
    barPend s < 4096 →
    (objAt s n).kind = kBarrier →
    objCheck s n (objAt s n) (arrivalOf op) = stOk →
    countOf (objAt s n) + f.a.toNat % 2 ^ 32 = (objAt s n).thresh.toNat →
    s.couch.pend = [] →
    named (f.ctx, f.handle) a.idents = [(f.ctx, f.handle)] →
    a.kids = [] →
    a.lanes = none →
    ∃ u, exec (.arrive p f) s = .next u ∧ stillArb u = stillArb (keepDone { slot := some n, ctx := f.ctx, handle := f.handle, epoch := (objAt s n).epoch, lanes := false, word := 0, data := 0, x := { w0 := 0 } }
      (push 0 (releaseFlit op stOk (objAt s n).epoch 0 0) (some s.couch.nextId)
        (withResp op stOk o'.value (objB o') 0 (withObject n o' { s0 with couch := { s0.couch with
          nextId := s.couch.nextId + 1
          pend := [{ id := s.couch.nextId, op, slot := some n, epoch := f.b.setWidth 32, weight := f.a.toNat % 2 ^ 32, leaving := true }]
          objs := tset s.couch.objs n { a with idents := [(f.ctx, f.handle)], prev := [] } } }))))) ∧
  (∀ (p : Port) (f : Flit) (s : State) (n : Nat),
    let op : Op := stamped (opOf opArriveR f none) (tick s)
    let x : Arrival := arrivalOf op
    let a : ObjArr := tgetD s.couch.objs n {}
    let l : Lanes := mergeInto a.lanes (descOf f.b) x.parts false
    let s0 : State := countResult l (tcTouch f.ctx f.handle (granted f.ctx s))
    let o' : Obj := setLastsig (objAt s n) { withCount (objAt s n) 0 with state := 0, epoch := (objAt s n).epoch + 1 } (some f.agent)
    grantable { port := p, opcode := opArriveR, f } s = true →
    reaches s op n = true →
    (objAt s n).kind = kBarrier →
    (objAt s n).wmark = false →
    (objAt s n).diverged = false →
    listAt s n = [] →
    barPend s < 4096 →
    objCheck s n (objAt s n) x = stOk →
    countOf (objAt s n) + f.a.toNat % 2 ^ 32 = (objAt s n).thresh.toNat →
    s.couch.pend = [] →
    named (f.ctx, f.handle) a.idents = [(f.ctx, f.handle)] →
    a.kids = [] →
    ∃ u, exec (.arriveR p f) s = .next u ∧ stillArb u = stillArb (keepDone { slot := some n, ctx := f.ctx, handle := f.handle, epoch := (objAt s n).epoch, lanes := true, word := (finishAll l).1, data := (finishAll l).2, x := { w0 := 0 } }
      (push 0 (releaseFlit op stOk (objAt s n).epoch (finishAll l).1 (finishAll l).2) (some s.couch.nextId)
        (withResp op stOk o'.value (objB o') 0 (withObject n o' { s0 with couch := { s0.couch with
          nextId := s.couch.nextId + 1
          pend := [{ id := s.couch.nextId, op, slot := some n, epoch := f.b.setWidth 32, weight := f.a.toNat % 2 ^ 32, leaving := true }]
          objs := tset s.couch.objs n { a with idents := [(f.ctx, f.handle)], lanes := none, prev := [] } } })))))

/-- The first flit of an ARM (constructor arm) is held as its agent's open burst. The continuation (constructor
burstContinuation) completes it: an ARM that reaches an object, with its queue enabled for its context or with NOQ, a
launcher-store slot and a watch entry free, and a condition that does not fire at once, stores the descriptor in the lowest free
slot, links its entry at the tail of the object's list, sets ARMED and is answered OK with the descriptor's index. When 1,024
GCLK pass without the continuation of an agent's open burst (constructor burstTimeout), the burst is discarded and counted, and
its one response is RSVD_NZ with 17, the place of MORE, where its first flit itself breaks no rule and is of the agent's
incarnation. -/
def Obligations.ArmAndBurstComplete : Prop :=
  (∀ (p : Port) (f : Flit) (s : State),
    rest s = true →
    running s = true →
    poolRoom s = true →
    s.hb.bursts = [] →
    f.cont = false →
    f.more = true →
    ∃ u, exec (.arm p f) s = .next u ∧ stillArb u = stillArb ({ tick s with hb := { (tick s).hb with bursts := [{ port := p, opcode := opArm, f }] } })) ∧
  (∀ (b : MeshFlit) (p : Port) (f : Flit) (s : State) (n k : Nat) (h : Bool) (e : W32),
    let op : Op := opOf opArm b.f (some { f with cont := true })
    let ix : Nat := lowestFreeFrom s.wt.entries 0
    let d : Desc := descOfArm op n ix
    let s1 : State := putEntry ix (.armed n k) (tcTouch op.ctx op.handle (granted op.ctx { s with hb := { s.hb with bursts := [] } }))
    burstGrantable b p opArm f s = true →
    b.opcode = opArm →
    reaches s op n = true →
    kindUnknown s (objAt s n).kind = false →
    (objAt s n).diverged = false →
    d.noq = true ∨ ((lqAt s d.queue).en = true ∧ (op.ctx = 0 ∨ op.ctx = (lqAt s d.queue).ctx)) →
    (objAt s n).priv = false ∨ op.ctx = 0 →
    storeFree s = some k →
    entryFree s = true →
    condTest d.cond d.comparand d.held d.ref (objAt s n) = (false, h, e) →
    ∃ u, exec (.burstContinuation p opArm f) s = .next u ∧ stillArb u = stillArb (withResp op stOk (BitVec.ofNat 64 k) (objB (objAt s n)) 0 (modDesc k (fun d => { d with held := h, ref := e })
      (bumpIf n (bytesAt s n) (putObj n { objAt s n with armed := true } (linkTail n ix
        { s1 with la := { s1.la with descs := tset s.la.descs k d } })))))) ∧
  (∀ (b : MeshFlit) (a : AgentId) (s : State),
    rest s = true →
    gclkOn s = true →
    s.hb.bursts = [b] →
    localIx b.f.agent = localIx a →
    b.opcode = opArm ∨ b.opcode = opArriveR →
    firstInLine (opOf b.opcode b.f none) s = true →
    formCheck s b = none →
    b.f.inc = incOf s b.f.agent →
    b.cont = none →
    ∃ u, exec (.burstTimeout a) s = .next u ∧ stillArb u = stillArb (modCtxCnt b.f.ctx (fun k => { k with nacks := k.nacks + 1 })
      (push 2 (respFlit (opOf b.opcode b.f none) stRsvdNz 17 0 0) none (bumpAon 0x03
        { tick s with hb := { (tick s).hb with bursts := [], burstDiscard := sat16 s.hb.burstDiscard } }))))

/-- A QBEGIN (constructor qbegin) with a record and member room free opens the lowest free quire for its agent, incarnation and
context, with a ticket of the present time, one above the agent's last ticket where that is not earlier, and is answered OK with
the quire ID. A QOP (constructor qop) of a quire held open whose position is free and whose translation is cached and allowed is
recorded in position order, with no answer. A QABORT (constructor qabort) of a quire without members frees it, counts the abort
with cause 1 and is answered OK. -/
def Obligations.QuireBeginsAndRecords : Prop :=
  (∀ (p : Port) (f : Flit) (s : State),
    let i : Nat := localIx f.agent
    let q : Nat := lowestFreeFrom s.qu.recs 0
    let g : State := granted f.ctx s
    let time : W64 := if (tget s.ag.lastTicket i).any (fun l => decide ((now (tick s)).toNat ≤ l.toNat)) then (tget s.ag.lastTicket i).getD 0 + 1 else now (tick s)
    let r : QRec := { agent := f.agent, inc := f.inc, ctx := f.ctx, count := f.a.toNat % 32, ticket := { time, agent := f.agent } }
    grantable { port := p, opcode := opQbegin, f } s = true →
    s.qu.recs.length < 512 →
    memberCount s < 6144 →
    tget s.ag.hold i = none →
    ∃ u, exec (.qbegin p f) s = .next u ∧ stillArb u = stillArb (withResp (opOf opQbegin f none) stOk (BitVec.ofNat 64 q) 0 0 { g with
      ag := { g.ag with lastTicket := tset s.ag.lastTicket i time }
      qu := { g.qu with recs := tset s.qu.recs q r } })) ∧
  (∀ (p : Port) (f : Flit) (s : State) (q : Nat) (r : QRec) (x : Xl),
    let op : Op := opOf opQop f none
    let inner : Byte := f.a.extractLsb' 16 8
    let home : DieId := if inner = opArrive ∧ xlComb x then myDie s else xlHome x
    let m : Member := { pos := f.a.toNat / 2 ^ 12 % 16, inner, op, slot := xlSlot x, home, x, a := f.payload.extractLsb' 0 64, b := f.payload.extractLsb' 64 64 }
    grantable { port := p, opcode := opQop, f } s = true →
    qHeld s op = some (q, r) →
    qopPosition op r = none →
    tcFind s f.ctx f.handle = some x →
    useDenied op x = false →
    memberCount s < 6144 →
    ∃ u, exec (.qop p f) s = .next u ∧ stillArb u = stillArb (modQRec q (fun r => { r with members := insMember m r.members }) (tcTouch f.ctx f.handle (granted f.ctx s)))) ∧
  (∀ (p : Port) (f : Flit) (s : State) (q : Nat) (r : QRec),
    let g : State := granted f.ctx s
    grantable { port := p, opcode := opQabort, f } s = true →
    qHeld s (opOf opQabort f none) = some (q, r) →
    r.members = [] →
    s.pwr.bphase = .none →
    tget s.ag.hold (localIx r.agent) ≠ some r.ticket →
    ∃ u, exec (.qabort p f) s = .next u ∧ stillArb u = stillArb (withResp (opOf opQabort f none) stOk 0 0 0 { g with qu := { g.qu with
      recs := terase s.qu.recs q, aborts := sat16 s.qu.aborts, lastCause := 1, lastPos := 0
      lastQid := BitVec.ofNat 9 q, lastAgent := r.agent } }))

/-- A QCOMMIT (constructor qcommit) of a quire of one SIGNAL member homed on this die, on an object whose kind accepts it without
queueing and that nothing locks, runs one prepare and one apply pass: the object takes the member's effect, the QOP is answered
OK with the object's new VALUE, the QCOMMIT is answered OK after it, the commit is counted and the quire's record is freed; no
lock remains. -/
def Obligations.QuireCommits : Prop :=
  (∀ (p : Port) (f : Flit) (s : State) (q n : Nat) (rc : QRec) (m : Member),
    let g : State := granted f.ctx s
    let r : KRes := kindStep (liveKinds s) (objAt s n) [] { m.op with opcode := opSignal, a := m.a, b := m.b, data := 0, noresp := false } (some m.op.agent)
    let o' : Obj := setLastsig (objAt s n) r.obj (some m.op.agent)
    grantable { port := p, opcode := opQcommit, f } s = true →
    qHeld s (opOf opQcommit f none) = some (q, rc) →
    rc.count = 1 →
    rc.members = [m] →
    m.inner = opSignal →
    m.home = myDie s →
    m.slot = n →
    m.op.src = .mesh →
    m.mirror = none →
    firstInLine m.op s = true →
    (windowNow (tick s)).length + 3 ≤ s.pwr.maxops.toNat →
    s.ag.moves = [] →
    s.ag.resets = [] →
    s.qu.locks = [] →
    s.qu.homes = [] →
    s.qu.parked = [] →
    s.wt.entries = [] →
    s.vat.fetch = [] →
    s.pwr.bphase = .none →
    tget s.ag.hold (localIx rc.agent) ≠ some rc.ticket →
    streamTo s (myDie s) = none →
    ctxState s m.op.ctx = .live →
    thirdDead s n = false →
    clean (slotAt s n) = true →
    (objAt s n).kind ≠ 0 →
    ownerOk (objAt s n) m.op.ctx = true →
    kindUnknown s (objAt s n).kind = false →
    listAt s n = [] →
    holdersOf s n = [] →
    plain r = true →
    ∃ u, exec (.qcommit p f) s = .next u ∧ stillArb u = stillArb (withResp (opOf opQcommit f none) stOk 0 0 0 (withResp m.op stOk o'.value (objB o') 0 (bumpAon 0x00 (bumpAon 0x00
      (withObject n o' { g with qu := { g.qu with recs := terase s.qu.recs q, commits := sat16 s.qu.commits } }))))))

/-- A DISARM (constructor disarm) that names an armed descriptor of its own context, or comes from context 0, while none of its
launches is in progress, drops and counts its pending launches, unlinks its entry, frees its slot and is answered OK. A
TRACE_MARK (constructor traceMark) moves its agent's mark depth, up to 15 or down with END, and is answered OK; with the Reel
enabled for its context, no drops pending, room in the ring and an empty buffer it also builds a MARK record. -/
def Obligations.DisarmAndMarkComplete : Prop :=
  (∀ (p : Port) (f : Flit) (s : State) (d : Desc),
    let k : Nat := f.a.toNat % 8192
    let v : State := bumpIf d.slot (bytesAt s d.slot) (unlink d.slot d.entry (granted f.ctx s))
    grantable { port := p, opcode := opDisarm, f } s = true →
    tget s.la.descs k = some d →
    descArmed s k = true →
    f.ctx = 0 ∨ d.ctx = f.ctx →
    launching s k = false →
    ∃ u, exec (.disarm p f) s = .next u ∧ stillArb u = stillArb (withResp (opOf opDisarm f none) stOk 0 0 0 { v with la := { v.la with
      descs := terase s.la.descs k
      queues := s.la.queues.modify d.queue (fun l => { l with pending := l.pending.filter (· != k) })
      drop := satAdd16 s.la.drop d.pend } })) ∧
  (∀ (p : Port) (f : Flit) (s : State),
    let i : Nat := localIx f.agent
    let g : State := granted f.ctx s
    grantable { port := p, opcode := opTraceMark, f } s = true →
    s.reel.en = false →
    ∃ u, exec (.traceMark p f) s = .next u ∧ stillArb u = stillArb (withResp (opOf opTraceMark f none) stOk 0 0 0 { g with ag := { g.ag with
      depth := tput 0 s.ag.depth i (if f.a.getLsbD 32 then tgetD s.ag.depth i 0 - 1 else min 15 (tgetD s.ag.depth i 0 + 1)) } })) ∧
  (∀ (p : Port) (f : Flit) (s : State),
    let i : Nat := localIx f.agent
    let g : State := granted f.ctx s
    grantable { port := p, opcode := opTraceMark, f } s = true →
    s.reel.en = true →
    s.reel.allctx = true ∨ f.ctx = s.reel.ctx →
    s.reel.fault = false →
    s.reel.lost = 0 →
    s.reel.buffer = [] →
    reelRoom s.reel 2 = true →
    ∃ u, exec (.traceMark p f) s = .next u ∧ stillArb u = stillArb (withResp (opOf opTraceMark f none) stOk 0 0 0 { g with
      ag := { g.ag with
        depth := tput 0 s.ag.depth i (if f.a.getLsbD 32 then tgetD s.ag.depth i 0 - 1 else min 15 (tgetD s.ag.depth i 0 + 1)) }
      reel := { (tick s).reel with seq := s.reel.seq + 1, buffer := [{ bytes := BitVec.ofNat 256 (markBody (tick s) (opOf opTraceMark f none)
        + 2 ^ 72 * reelFlags s.reel (f.a.getLsbD 32) (s.cal.st != .locked) + 2 ^ 192 * (s.reel.seq + 1).toNat) }] } }))

/-- A chained INVOKE (constructor chainedInvoke) that waits, is granted, and reaches an object of a user kind whose OWNER is the
chain's context leaves the object as the kind's rows say; it comes from the agent whose operation began the chain, and from none
where a post-operation did, and then LASTSIG stays. A post-operation (constructor postOperation), SIGNAL or GIVE, of a
launch in its last step does the same on an object of the descriptor's context, and its launch ends and is counted. Neither is
answered. -/
def Obligations.ChainAndPostComplete : Prop :=
  (∀ (s : State) (c : Chain),
    let op : Op := { opcode := opInvoke, agent := c.agent.getD 0, ctx := c.ctx, a := c.ecode.setWidth 64, b := c.x, src := if c.agent = none then .chainedPost else .chained }
    let r : KRes := kindStep (liveKinds s) (objAt s c.target) [] op c.agent
    let o' : Obj := if c.agent = none then r.obj else setLastsig (objAt s c.target) r.obj c.agent
    s.hb.chains = [c] →
    rest { s with hb := { s.hb with chains := [] } } = true →
    canGrant (tick s) = true →
    blocked s (.slot c.target) = false →
    thirdDead s c.target = false →
    clean (slotAt s c.target) = true →
    (objAt s c.target).kind ≠ 0 →
    kindUnknown s (objAt s c.target).kind = false →
    listAt s c.target = [] →
    holdersOf s c.target = [] →
    isBuiltin (objAt s c.target).kind = false →
    (objAt s c.target).owner = c.ctx →
    (if c.granted then c.gate else stateGate s opInvoke c.ctx) = none →
    plain r = true →
    ∃ u, exec (.chainedInvoke) s = .next u ∧ stillArb u = stillArb (withObject c.target o'
      (bumpAon 0x00 { tick s with hb := { (tick s).hb with chains := [] } }))) ∧
  (∀ (s : State) (k : Nat) (d : Desc),
    let op : Op := postOf d k
    let r : KRes := kindStep (liveKinds s) (objAt s d.postSlot) [] op none
    let v : State := withObject d.postSlot r.obj (bumpAon 0x00 (tick s))
    rest s = true →
    s.la.posts = [k] →
    tget s.la.descs k = some d →
    d.dead = false →
    canGrant (tick s) = true →
    s.pwr.st = .active →
    blocked s (.slot d.postSlot) = false →
    thirdDead s d.postSlot = false →
    clean (slotAt s d.postSlot) = true →
    (objAt s d.postSlot).kind ≠ 0 →
    kindUnknown s (objAt s d.postSlot).kind = false →
    listAt s d.postSlot = [] →
    holdersOf s d.postSlot = [] →
    (objAt s d.postSlot).owner = d.ctx →
    stateGate s op.opcode d.ctx = none →
    plain r = true →
    ∃ u, exec (.postOperation) s = .next u ∧ stillArb u = stillArb ({ v with la := { v.la with
      posts := [], runs := dropFirst (fun l => l.desc == k && l.stage == .post) s.la.runs, done := sat16 s.la.done } }))

/-- When nothing holds its slot any more, a READ held there is carried out and answered (constructor lockedOpRestart). When the
target of a parked quire's waiting prepare pass is free (constructor quirePrepareUnpark), a quire of one SIGNAL member on this
die prepares, commits and applies: the object takes the effect, the QOP and the QCOMMIT are answered OK, and neither record nor
lock remains. -/
def Obligations.HeldJobsGoOn : Prop :=
  (∀ (s : State) (op : Op) (n : Nat),
    rest s = true →
    gclkOn s = true →
    s.qu.held = [{ target := .slot n, job := .op op n }] →
    s.hb.order = [placeOf op] →
    lockOn s (.slot n) = none →
    fetching s n = false →
    op.src = .mesh →
    op.opcode = opRead →
    thirdDead s n = false →
    clean (slotAt s n) = true →
    (objAt s n).kind ≠ 0 →
    ownerOk (objAt s n) op.ctx = true →
    (objAt s n).diverged = false →
    ∃ u, exec (.lockedOpRestart) s = .next u ∧ still u = still (withResp op stOk (objAt s n).value (objB (objAt s n)) 0 { tick s with hb := { (tick s).hb with order := [] }, qu := { s.qu with held := [] } })) ∧
  (∀ (s : State) (q n : Nat) (rc : QRec) (m : Member) (h : HomeQ) (cop : Op),
    let r : KRes := kindStep (liveKinds s) (objAt s n) [] { m.op with opcode := opSignal, a := m.a, b := m.b, data := 0, noresp := false } (some m.op.agent)
    let o' : Obj := setLastsig (objAt s n) r.obj (some m.op.agent)
    rest s = true →
    running s = true →
    canGrant (tick s) = true →
    firstInLine m.op s = true →
    firstInLine cop s = true →
    s.ag.moves = [] →
    s.ag.resets = [] →
    s.qu.parked = [{ key := keyOf s q, pos := m.pos }] →
    q < 512 →
    s.qu.homes = [h] →
    h.key = keyOf s q →
    h.members = [hmemberOf m] →
    h.decision = none →
    h.inc = rc.inc →
    tget s.qu.recs q = some rc →
    rc.state = .preparing →
    rc.level = 0 →
    rc.members = [m] →
    rc.commit = some cop →
    cop.src = .mesh →
    rc.got = [] →
    rc.no = none →
    m.inner = opSignal →
    m.home = myDie s →
    m.slot = n →
    m.op.src = .mesh →
    m.mirror = none →
    s.qu.locks = [] →
    s.qu.held = [] →
    s.wt.entries = [] →
    s.vat.fetch = [] →
    s.pwr.bphase = .none →
    tget s.ag.hold (localIx rc.agent) ≠ some rc.ticket →
    streamTo s (myDie s) = none →
    ctxState s m.op.ctx = .live →
    thirdDead s n = false →
    clean (slotAt s n) = true →
    (objAt s n).kind ≠ 0 →
    ownerOk (objAt s n) m.op.ctx = true →
    kindUnknown s (objAt s n).kind = false →
    listAt s n = [] →
    holdersOf s n = [] →
    plain r = true →
    ∃ u, exec (.quirePrepareUnpark) s = .next u ∧ stillArb u = stillArb (withResp cop stOk 0 0 0 (withResp m.op stOk o'.value (objB o') 0 (bumpAon 0x00 (withObject n o'
      { tick s with qu := { s.qu with recs := terase s.qu.recs q, homes := [], parked := [], commits := sat16 s.qu.commits } })))))

/-- A miss that waits starts its walk (constructor tableWalkStart) by a 32-byte read that holds the L1 entry of its handle. A
valid L1 entry read without error (constructor walkReadResponse) asks for the 64-byte block that holds the L2 entry; a valid and
well-formed L2 entry of the handle's scope fills the cache and ends the walk. -/
def Obligations.WalksGoOn : Prop :=
  (∀ (s : State) (c : CtxId) (h : W32) (l : List (CtxId × W32)),
    let a : W64 := ((tgetD s.ctx.tab c.toNat {}).l1base ++ (0 : BitVec 12)) + BitVec.ofNat 64 (8 * (h.toNat % 2 ^ 28 / 256))
    let rq : MReq := { use := .walk c h, wr := false, size := 1, addr := BitVec.ofNat 64 (a.toNat / 32 * 32) }
    rest s = true →
    gclkOn s = true →
    s.xl.missq = (c, h) :: l →
    s.xl.walks.length < 32 →
    s.xl.walks.all (fun w => !(w.ctx == c && w.handle == h)) = true →
    h.toNat % 2 ^ 28 / 256 < (tgetD s.ctx.tab c.toNat {}).l1len.toNat →
    windowOf s a = none →
    ∃ u, exec (.tableWalkStart) s = .next u ∧ still u = still ({ tick s with
      xl := { s.xl with missq := l, walks := s.xl.walks ++ [{ ctx := c, handle := h, addr := a }], misses := sat16 s.xl.misses }
      memp := { s.memp with waiting := s.memp.waiting ++ [rq] } })) ∧
  (∀ (s : State) (tag : Byte) (data : BitVec 512) (r : MReq) (c : CtxId) (h : W32) (w : Walk),
    let e : W64 := wordAt data w.addr
    let a : W64 := BitVec.ofNat 64 (e.toNat / 4096 * 4096 + 16 * (h.toNat % 256))
    let rq : MReq := { use := .walk c h, wr := false, size := 2, addr := BitVec.ofNat 64 (a.toNat / 64 * 64) }
    rest s = true →
    gclkOn s = true →
    tget s.memp.outst tag.toNat = some r →
    r.use = .walk c h →
    s.xl.walks = [w] →
    w.ctx = c →
    w.handle = h →
    w.marked = false →
    w.l2 = none →
    e.getLsbD 0 = true →
    e.toNat / 2 % 2 ^ 11 = 0 →
    windowOf s a = none →
    ∃ u, exec (.walkReadResponse tag 0 data) s = .next u ∧ still u = still ({ tick s with
      xl := { s.xl with walks := [{ w with l2 := some e, addr := a }] }
      memp := { s.memp with outst := terase s.memp.outst tag.toNat, waiting := s.memp.waiting ++ [rq] } })) ∧
  (∀ (s : State) (tag : Byte) (data : BitVec 512) (r : MReq) (c : CtxId) (h : W32) (w : Walk) (e : W64),
    let x0 : Xl := { w0 := wordAt data w.addr, w1 := wordAt data (w.addr + 8) }
    let x : Xl := if xlComb x0 then x0 else { x0 with w1 := 0 }
    let v : State := tcFill c h x (tick s)
    rest s = true →
    gclkOn s = true →
    tget s.memp.outst tag.toNat = some r →
    r.use = .walk c h →
    s.xl.walks = [w] →
    w.ctx = c →
    w.handle = h →
    w.marked = false →
    w.l2 = some e →
    s.xl.parked.all (fun p => !(p.ctx == c && p.handle == h)) = true →
    x.w0.getLsbD 0 = true →
    l2Malformed x = false →
    x.w0.toNat / 2 ^ 51 % 8 = scopeOf h →
    ∃ u, exec (.walkReadResponse tag 0 data) s = .next u ∧ still u = still (tcIdle { v with xl := { v.xl with walks := [] }, memp := { s.memp with outst := terase s.memp.outst tag.toNat } }))

/-- A request that waits alone is transferred with tag 0 when no tag is in use (constructor mempRequestTransfer), write data in
the byte lanes of its address. An unanswered BRACE summary times out (constructor mempTimeout): its tag is retired and the error
bit of the summary is set. A response to a retired tag (constructor mempLateResponse) frees the tag and is counted. An error
response to the BRACE summary (constructor braceSummaryResponse) sets the error bit. -/
def Obligations.MempCompletes : Prop :=
  (∀ (s : State) (r : MReq) (i : Nat),
    rest s = true →
    gclkOn s = true →
    s.memp.waiting = [r] →
    s.memp.outst = [] →
    s.memp.retired = [] →
    nextUnit s = some i →
    mempWindow s = none →
    ∃ u, exec (.mempRequestTransfer) s = .next u ∧ still u = still ({ tick s with memp := { s.memp with waiting := [], outst := [(0, { r with data := r.data <<< (8 * (r.addr.toNat % 64)) })], rr := (i + 1) % 6 } })) ∧
  (∀ (s : State) (tag : Byte) (r : MReq),
    rest s = true →
    gclkOn s = true →
    tget s.memp.outst tag.toNat = some r →
    r.use = .summary →
    ∃ u, exec (.mempTimeout tag) s = .next u ∧ still u = still ({ tick s with pwr := { s.pwr with sumErr := true }, memp := { s.memp with outst := terase s.memp.outst tag.toNat, retired := s.memp.retired ++ [tag.toNat] } })) ∧
  (∀ (s : State) (tag : Byte),
    rest s = true →
    gclkOn s = true →
    s.memp.retired.contains tag.toNat = true →
    ∃ u, exec (.mempLateResponse tag) s = .next u ∧ still u = still ({ tick s with memp := { s.memp with retired := s.memp.retired.filter (· != tag.toNat), late := sat16 s.memp.late } })) ∧
  (∀ (s : State) (tag : Byte) (err : BitVec 2) (r : MReq),
    rest s = true →
    gclkOn s = true →
    tget s.memp.outst tag.toNat = some r →
    r.use = .summary →
    err ≠ 0 →
    ∃ u, exec (.braceSummaryResponse tag err) s = .next u ∧ still u = still ({ tick s with pwr := { s.pwr with sumErr := true }, memp := { s.memp with outst := terase s.memp.outst tag.toNat } }))

/-- The first pending launch of a queue that may issue writes its entry at PROD (constructor launchIssue). A full queue with a
launch pending reads CONS again when 256 GCLK have passed (constructor consReread); the answer becomes CONS (constructor
consReadResponse, for a launch queue and for the Reel). The acknowledgement of an entry without doorbell or post-operation ends
the launch and counts it (constructor launchWriteResponse). -/
def Obligations.LauncherGoesOn : Prop :=
  (∀ (s : State) (q : Fin 16) (k : Nat) (d : Desc),
    let l : LQueue := lqAt s q.val
    let a : W64 := (l.base ++ (0 : BitVec 6)) + BitVec.ofNat 64 (64 * (l.prod.toNat % 2 ^ l.logsize.toNat))
    let rq : MReq := { use := .entry k l.prod, wr := true, size := 2, addr := a, data := launchEntry (tick s) k { d with pend := d.pend - 1 } l.prod true }
    rest s = true →
    gclkOn s = true →
    launcherStopped s = false →
    s.la.runs = [] →
    l.pending = [k] →
    l.gaps = [] →
    s.la.queues.length = 16 →
    tget s.la.descs k = some d →
    d.queue = q.val →
    d.noq = false →
    canIssue s d = true →
    ∃ u, exec (.launchIssue q) s = .next u ∧ still u = still ({ tick s with
      memp := { s.memp with waiting := s.memp.waiting ++ [rq] }
      la := { s.la with
        descs := tmod s.la.descs k (fun d => { d with pend := d.pend - 1, launches := d.launches + 1 })
        queues := s.la.queues.modify q.val (fun l => { l with pending := if d.pend - 1 = 0 then [] else [k], prod := l.prod + 1 })
        runs := [{ desc := k, queue := q.val, stage := .entry, idx := l.prod, late := true }] } })) ∧
  (∀ (s : State) (q : Fin 16) (k : Nat) (d : Desc),
    let l : LQueue := lqAt s q.val
    let rq : MReq := { use := .cons q.val, wr := false, size := 0, addr := l.consAddr ++ (0 : BitVec 2) }
    rest s = true →
    s.pwr.off = false →
    s.boot.phase ≠ .reset →
    s.pwr.st = .active →
    launcherStopped s = false →
    l.en = true →
    l.fault = false →
    l.consOut = false →
    l.consAt.all (fun c => decide (c + 256 ≤ s.clk.cycle + 1)) = true →
    l.pending = [k] →
    tget s.la.descs k = some d →
    d.noq = false →
    lqSpace l = false →
    ∃ u, exec (.consReread q) s = .next u ∧ still u = still ({ tick s with
      memp := { s.memp with waiting := s.memp.waiting ++ [rq] }
      la := { s.la with queues := s.la.queues.modify q.val (fun l => { l with consOut := true, consAt := some (s.clk.cycle + 1) }) } })) ∧
  (∀ (s : State) (tag : Byte) (data : BitVec 512) (r : MReq) (q : Nat),
    rest s = true →
    gclkOn s = true →
    tget s.memp.outst tag.toNat = some r →
    r.use = .cons q →
    ∃ u, exec (.consReadResponse tag 0 data) s = .next u ∧ still u = still ({ tick s with memp := { s.memp with outst := terase s.memp.outst tag.toNat }, la := { s.la with queues := s.la.queues.modify q (fun l => { l with consOut := false, cons := data.extractLsb' (8 * (r.addr.toNat % 64)) 32 }) } })) ∧
  (∀ (s : State) (tag : Byte) (data : BitVec 512) (r : MReq),
    rest s = true →
    gclkOn s = true →
    tget s.memp.outst tag.toNat = some r →
    r.use = .reelCons →
    ∃ u, exec (.consReadResponse tag 0 data) s = .next u ∧ still u = still ({ tick s with memp := { s.memp with outst := terase s.memp.outst tag.toNat }, reel := { (tick s).reel with consOut := false, cons := data.extractLsb' (8 * (r.addr.toNat % 64)) 32 } })) ∧
  (∀ (s : State) (tag : Byte) (r : MReq) (k : Nat) (idx : W32) (d : Desc) (e : Launch),
    rest s = true →
    gclkOn s = true →
    tget s.memp.outst tag.toNat = some r →
    r.use = .entry k idx →
    s.la.runs = [e] →
    e.desc = k →
    e.idx = idx →
    e.stage = .entry →
    tget s.la.descs k = some d →
    d.dbEn = false →
    d.postEn = false →
    d.dead = false →
    ∃ u, exec (.launchWriteResponse tag 0) s = .next u ∧ still u = still ({ tick s with memp := { s.memp with outst := terase s.memp.outst tag.toNat }, la := { s.la with runs := [], done := sat16 s.la.done } }))

/-- A lone Reel record is written after 16 GCLK (constructor reelFlush); an acknowledged write leaves the Reel as it is and an
error sets its FAULT (constructor reelWriteResponse). The end of a forwarding stub's lifetime (constructor stubExpiry) makes it
an expired stub. The end of a Watermark's holdoff with nothing latched (constructor wmHoldoffEnd) ends the holdoff alone. -/
def Obligations.ReelAndTimersComplete : Prop :=
  (∀ (s : State) (b : ReelRec),
    let rq : MReq := { use := .reel 1, wr := true, size := 1, addr := reelAddr s.reel s.reel.prod, data := b.bytes.setWidth 512 }
    rest s = true →
    gclkOn s = true →
    s.reel.buffer = [b] →
    ∃ u, exec (.reelFlush) s = .next u ∧ still u = still ({ tick s with
      reel := { (tick s).reel with buffer := [], prod := s.reel.prod + 1 }
      memp := { s.memp with waiting := s.memp.waiting ++ [rq] } })) ∧
  (∀ (s : State) (tag : Byte) (err : BitVec 2) (r : MReq) (k : Nat),
    rest s = true →
    gclkOn s = true →
    tget s.memp.outst tag.toNat = some r →
    r.use = .reel k →
    ∃ u, exec (.reelWriteResponse tag err) s = .next u ∧ still u = still ({ tick s with memp := { s.memp with outst := terase s.memp.outst tag.toNat }, reel := { (tick s).reel with fault := s.reel.fault || err != 0 } })) ∧
  (∀ (s : State) (a : AgentId) (i : Byte),
    rest s = true →
    gclkOn s = true →
    ∃ u, exec (.stubExpiry a i) s = .next u ∧ still u = still ({ tick s with ag := { s.ag with stubs := s.ag.stubs.map (fun b =>
      { b with live := b.live && !(b.x == a && b.xi == i && b.started) }) } })) ∧
  (∀ (s : State) (k : BitVec 13) (r : WmRec),
    rest s = true →
    gclkOn s = true →
    tget s.wm.recs k.toNat = some r →
    r.holdoff = true →
    r.latch = false →
    ∃ u, exec (.wmHoldoffEnd k) s = .next u ∧ still u = still ({ tick s with wm := { s.wm with recs := tset s.wm.recs k.toNat { r with holdoff := false } } }))

/-- A REGISTER_WRITE (constructor registerWrite) of GS_SCRATCH changes that word alone, of a register that a write alone changes
leaves what its bits keep readable, and of a register of RO or RC fields changes nothing. An RC_REGISTER_READ (constructor
rcRegisterRead) of GS_OBJ_REJECT returns the count and clears it. An access to a reserved address (constructor regpRsvdAccess)
returns 0 and is counted with its direction and address; an access that the context refuses (constructor regpDenied) returns 0,
has no effect and is counted. An access presented while REGP_READY is 0 waits. -/
def Obligations.RegisterAccessesComplete : Prop :=
  (∀ (acc : Acc) (i : Fin 4) (v : W32) (s : State),
    served acc s = true →
    ∃ u, exec (.registerWrite acc (BitVec.ofNat 23 (12 + i.val)) v) s = .next u ∧ still u = still (wrote { tick s with regp := { s.regp with scratch := putWord s.regp.scratch i.val v } })) ∧
  (∀ (acc : Acc) (a : Nat) (m v : W32) (s : State),
    served acc s = true →
    (a, m) ∈ plainRegs →
    ∃ u, exec (.registerWrite acc (BitVec.ofNat 23 (a / 4)) v) s = .next u ∧ regVal u .regp a = some (v &&& m)) ∧
  (∀ (acc : Acc) (a : Nat) (v : W32) (s : State),
    served acc s = true →
    a ∈ readOnlyRegs →
    ∃ u, exec (.registerWrite acc (BitVec.ofNat 23 (a / 4)) v) s = .next u ∧ still u = still (wrote (tick s))) ∧
  (∀ (acc : Acc) (s : State),
    served acc s = true →
    ∃ u, exec (.rcRegisterRead acc 0x44A) s = .next u ∧ still u = still ({ tick s with vat := { s.vat with reject := 0 }, regp := { s.regp with rdata := BitVec.ofNat 32 s.vat.reject } })) ∧
  (∀ (acc : Acc) (wr : Bool) (addr : BitVec 23) (data : W32) (s : State),
    served acc s = true →
    regVal (tick s) acc.rq (4 * addr.toNat) = none →
    ∃ u, exec (.regpRsvdAccess acc wr addr data) s = .next u ∧ still u = still (wrote { tick s with regp := { s.regp with rsvd := sat16 s.regp.rsvd, rsvdWr := wr, rsvdAddr := addr } })) ∧
  (∀ (acc : Acc) (wr : Bool) (addr : BitVec 23) (data : W32) (s : State),
    rest s = true →
    gclkOn s = true →
    regpHeld s = false →
    acc.rq = .regp →
    acc.ctx ≠ 0 →
    admitted acc (4 * addr.toNat) = false →
    ∃ u, exec (.regpDenied acc wr addr data) s = .next u ∧ still u = still (wrote { tick s with regp := { s.regp with deny := sat16 s.regp.deny } })) ∧
  (∀ (acc : Acc) (addr : BitVec 23) (data : W32) (s : State),
    rest s = true →
    s.pwr.off = false →
    regpHeld s = true →
    ∃ u, exec (.registerWrite acc addr data) s = .next u ∧ still u = still ({ tick s with regp := { s.regp with stalled := s.regp.stalled ++ [{ acc, wr := true, addr, data }] } }))

/-- A MOVE (constructor move) that may be made, while no other MOVE runs and no watch is aimed at the agent moved, raises that
agent's incarnation by 1, restarts its notification count, empties its ticket hold, leaves a live forwarding stub from the old
agent and incarnation to the new, and is answered OK. An AGENT_RESET (constructor agentReset) of an agent with no quire and no
watch aimed at it raises its incarnation by 1, restarts its notification count, empties its ticket hold, zeroes its mark depth
and its counters, and discards and counts its open bursts. -/
def Obligations.MoveAndResetComplete : Prop :=
  (∀ (p : Port) (f : Flit) (s : State),
    let x : AgentId := f.a.setWidth 30
    let y : AgentId := f.b.setWidth 30
    let stub : Stub := { x, xi := incOf s x, y, yi := incOf s y }
    let g : State := granted f.ctx s
    grantable { port := p, opcode := opMove, f } s = true →
    f.agent = y ∨ f.ctx = 0 →
    s.ag.moves = [] →
    (s.ag.stubs.filter (·.live)).length < 64 →
    chainOf s x = [] →
    s.ag.resets = [] →
    resetPending (tick s) (localIx x) = false →
    resetPending (tick s) (localIx y) = false →
    ∃ u, exec (.move p f) s = .next u ∧ stillArb u = stillArb (withResp (opOf opMove f none) stOk 0 0 0 { g with ag := { g.ag with
      inc := tput 0 s.ag.inc (localIx x) (incOf s x + 1)
      notif := terase s.ag.notif (localIx x)
      hold := terase s.ag.hold (localIx x)
      stubs := (s.ag.stubs ++ [stub]).map (fun b =>
        if b.live ∧ b.x = x ∧ b.xi = incOf s x then { b with started := true } else b) } })) ∧
  (∀ (acc : Acc) (ix : BitVec 10) (s : State),
    served acc s = true →
    s.qu.recs = [] →
    chainOf s (myDie s ++ ix) = [] →
    unanswered s (myDie s ++ ix) (incOf s (myDie s ++ ix)) = false →
    s.ag.moves = [] →
    s.ag.resets = [] →
    ∃ u, exec (.agentReset acc ix) s = .next u ∧ still u = still (wrote { tick s with
      hb := { (tick s).hb with
        bursts := s.hb.bursts.filter (fun b => localIx b.f.agent != ix.toNat)
        burstDiscard := min 0xFFFF (s.hb.burstDiscard + (s.hb.bursts.filter (fun b => localIx b.f.agent == ix.toNat)).length) }
      res := { (tick s).res with stuck := s.res.stuck.filter (fun e => !(e.1 == 0 && e.2 / 8 == ix.toNat)) }
      ag := { s.ag with
        inc := tput 0 s.ag.inc ix.toNat (tgetD s.ag.inc ix.toNat 0 + 1)
        notif := terase s.ag.notif ix.toNat
        hold := terase s.ag.hold ix.toNat
        pendUntil := tset s.ag.pendUntil ix.toNat (s.clk.cycle + 2)
        depth := terase s.ag.depth ix.toNat
        pa := terase s.ag.pa ix.toNat } }))

/-- A CREATE (constructor create) that passes its checks, of an object without SHADOW, in an empty slot writes the object of
GS_OBJ_W0-W7 in both copies, adds the slot to its owner's chain and ends with ERR 0; one that fails a check ends with that
check's ERR, is counted and changes nothing. A DESTROY (constructor destroy) of an object that is not busy, and a DESTROY_FORCE
(constructor destroyForce) of an object with an empty list, clear the slot and end with ERR 0. A FETCH (constructor fetch) copies
the object of copy A to GS_OBJ_W0-W7. -/
def Obligations.ObjectCommandsComplete : Prop :=
  (∀ (acc : Acc) (s : State),
    let n : Nat := s.vat.objSlot.toNat
    let c : ObjCmd := { cmd := 1, slot := n, image := s.vat.w, acc }
    let o : Obj := createObj s c
    let v : State := chainJoin o.owner n (putSlot n { a := { obj := o }, b := { obj := o } } (slotGranted s))
    slotServed acc s = true →
    s.vat.cmdBusy = false →
    blocked s (.slot n) = false →
    clean (slotAt s n) = true →
    (objAt s n).kind = 0 →
    createErr s c = 0 →
    o.shadow = false →
    ∃ u, exec (.create acc) s = .next u ∧ stillArb u = stillArb ({ v with vat := { v.vat with cmdErr := 0 } })) ∧
  (∀ (acc : Acc) (s : State),
    let n : Nat := s.vat.objSlot.toNat
    let c : ObjCmd := { cmd := 1, slot := n, image := s.vat.w, acc }
    slotServed acc s = true →
    s.vat.cmdBusy = false →
    blocked s (.slot n) = false →
    clean (slotAt s n) = true →
    (objAt s n).kind = 0 →
    createErr s c ≠ 0 →
    ∃ u, exec (.create acc) s = .next u ∧ stillArb u = stillArb ({ slotGranted s with vat := { s.vat with cmdErr := BitVec.ofNat 3 (createErr s c), reject := sat16 s.vat.reject } })) ∧
  (∀ (acc : Acc) (s : State),
    let n : Nat := s.vat.objSlot.toNat
    let v : State := clearSlot n (slotGranted s)
    slotServed acc s = true →
    s.vat.cmdBusy = false →
    blocked s (.slot n) = false →
    clean (slotAt s n) = true →
    (objAt s n).kind ≠ 0 →
    (tget s.vat.third n).any (fun t => !t.live) = false →
    destroyBusy s n = false →
    holdersOf s n = [] →
    s.couch.pend = [] →
    ∃ u, exec (.destroy acc) s = .next u ∧ stillArb u = stillArb ({ v with vat := { v.vat with cmdErr := 0 } })) ∧
  (∀ (acc : Acc) (s : State),
    let n : Nat := s.vat.objSlot.toNat
    let v : State := clearSlot n (slotGranted s)
    slotServed acc s = true →
    s.vat.cmdBusy = false →
    blocked s (.slot n) = false →
    clean (slotAt s n) = true →
    (objAt s n).kind ≠ 0 →
    (tget s.vat.third n).any (fun t => !t.live) = false →
    listAt s n = [] →
    identsOf s n = [] →
    holdersOf s n = [] →
    s.couch.pend = [] →
    ∃ u, exec (.destroyForce acc) s = .next u ∧ stillArb u = stillArb ({ v with vat := { v.vat with cmdErr := 0 } })) ∧
  (∀ (acc : Acc) (s : State),
    let n : Nat := s.vat.objSlot.toNat
    slotServed acc s = true →
    s.vat.cmdBusy = false →
    blocked s (.slot n) = false →
    ∃ u, exec (.fetch acc) s = .next u ∧ stillArb u = stillArb ({ slotGranted s with vat := { s.vat with cmdErr := 0, w := packObj (slotAt s n).a.obj (wheadAt s n) } }))

/-- An ATTACH (constructor attach) that passes its checks, at a level between its bounds, places its record in the lowest free
entry of the store, sets the object's WMARK and returns the index. A DETACH (constructor detach) frees its record and clears
WMARK with the object's last record. A READ (constructor wmRead) returns the record's state in GS_WM_W0-W7, and a RETARGET
(constructor wmRetarget) to an agent of this package rewrites target, incarnation, cookie and HOLD alone. Each ends with ERR 0. -/
def Obligations.WatermarkCommandsComplete : Prop :=
  (∀ (acc : Acc) (s : State) (i : Nat),
    let n : Nat := (wmOfImage s.wm.w 0).slot
    let r : WmRec := wmOfImage s.wm.w (wmLevel s n (wmOfImage s.wm.w 0).src)
    let v : State := bumpIf n (bytesAt s n) (putObj n { objAt s n with wmark := true } (slotGranted s))
    slotServed acc s = true →
    s.wm.cmdBusy = false →
    blocked s (.slot n) = false →
    clean (slotAt s n) = true →
    wmAttachErr s s.wm.w (wmOfImage s.wm.w 0) = 0 →
    storeFree s = some i →
    r.side = .between →
    ∃ u, exec (.attach acc) s = .next u ∧ stillArb u = stillArb ({ v with wm := { s.wm with recs := tset s.wm.recs i r, index := BitVec.ofNat 13 i, cmdErr := 0 } })) ∧
  (∀ (acc : Acc) (i : BitVec 13) (s : State) (r : WmRec),
    let l : Tbl WmRec := terase s.wm.recs i.toNat
    let v : State := if l.any (fun e => e.2.slot == r.slot) then slotGranted s else bumpIf r.slot (bytesAt s r.slot) (putObj r.slot { objAt s r.slot with wmark := false } (slotGranted s))
    slotServed acc s = true →
    s.wm.cmdBusy = false →
    tget s.wm.recs i.toNat = some r →
    blocked s (.slot r.slot) = false →
    clean (slotAt s r.slot) = true →
    ∃ u, exec (.detach acc i) s = .next u ∧ stillArb u = stillArb ({ v with wm := { s.wm with recs := l, index := i, cmdErr := 0 } })) ∧
  (∀ (acc : Acc) (i : BitVec 13) (s : State) (r : WmRec),
    slotServed acc s = true →
    s.wm.cmdBusy = false →
    tget s.wm.recs i.toNat = some r →
    blocked s (.slot r.slot) = false →
    ∃ u, exec (.wmRead acc i) s = .next u ∧ stillArb u = stillArb ({ slotGranted s with wm := { s.wm with w := wmState r, index := i, cmdErr := 0 } })) ∧
  (∀ (acc : Acc) (i : BitVec 13) (s : State) (r : WmRec),
    slotServed acc s = true →
    s.wm.cmdBusy = false →
    tget s.wm.recs i.toNat = some r →
    blocked s (.slot r.slot) = false →
    wmTargetOk s s.wm.w = true →
    ∃ u, exec (.wmRetarget acc i) s = .next u ∧ stillArb u = stillArb ({ slotGranted s with wm := { s.wm with index := i, cmdErr := 0, recs := tset s.wm.recs i.toNat { r with
        target := s.wm.w.extractLsb' 160 30
        tinc := s.wm.w.extractLsb' 192 8
        cookie := s.wm.w.extractLsb' 200 16
        hold := s.wm.w.extractLsb' 216 8 } } }))

/-- An OPEN (constructor openCtx) of a FREE context other than 0 with an L1 table makes it LIVE with zero counters and no cached
translation. A DECKLE_CLEAR (constructor deckleClear) of a LIVE context with one object, that nothing else of the context waits
on, removes the object, zeroes the counters, disables the context's launch queues, leaves the context FREE and signals CTX_CLEAR.
INV_HANDLE, INV_CTX and INV_ALL (constructors invHandle, invCtx, invAll) drop the cached translations that they name and mark the
walks that they name; TC_CMD is BUSY while a marked walk remains. -/
def Obligations.ContextCommandsComplete : Prop :=
  (∀ (acc : Acc) (s : State),
    let c : CtxId := s.ctx.sel
    let e : CtxEntry := tgetD s.ctx.tab c.toNat {}
    served acc s = true →
    s.ctx.busy = false →
    c ≠ 0 →
    e.state = .free →
    e.l1len ≠ 0 →
    ∃ u, exec (.openCtx acc) s = .next u ∧ still u = still (wrote { tick s with
      ctx := { s.ctx with
        err := 0
        tab := tput {} s.ctx.tab c.toNat { e with state := .live, chain := [] }
        cnt := terase s.ctx.cnt c.toNat }
      xl := { s.xl with cache := s.xl.cache.filter (fun x => x.ctx != c) }
      res := { (tick s).res with stuck := s.res.stuck.filter (fun x => !(x.1 == 1 && x.2 / 2 == c.toNat)) } })) ∧
  (∀ (acc : Acc) (s : State) (n : Nat),
    let c : CtxId := s.ctx.sel
    let e : CtxEntry := tgetD s.ctx.tab c.toNat {}
    let b : State := wrote { tick s with xl := { s.xl with cache := s.xl.cache.filter (fun x => x.ctx != c) }, la := { s.la with queues := s.la.queues.map (fun l => if l.ctx = c then { l with en := false } else l) }, res := { (tick s).res with stuck := s.res.stuck.filter (fun x => !(x.1 == 1 && x.2 / 2 == c.toNat)) } }
    let v : State := modCtx c.toNat (fun e => { e with state := .free }) (clearSlot n b)
    served acc s = true →
    s.ctx.busy = false →
    c ≠ 0 →
    e.state = .live →
    e.chain = [n] →
    s.qu.recs = [] →
    s.qu.locks = [] →
    s.couch.recs = [] →
    s.couch.roles = [] →
    s.couch.pend = [] →
    s.la.descs = [] →
    listAt s n = [] →
    identsOf s n = [] →
    holdersOf s n = [] →
    blocked s (.slot n) = false →
    s.qu.held = [] →
    s.xl.parked.all (fun p => p.ctx != c) = true →
    ∃ u, exec (.deckleClear acc) s = .next u ∧ still u = still (assertSource 0x04 { v with ctx := { v.ctx with
      err := 0, clrDone := true, clrCtx := c, cnt := terase s.ctx.cnt c.toNat } })) ∧
  (∀ (acc : Acc) (c : CtxId) (s : State),
    let p : CtxId → W32 → Bool := fun d g => d == c && g == s.xl.tcHandle
    let l : List Walk := s.xl.walks.map (fun w => if p w.ctx w.handle then { w with marked := true } else w)
    served acc s = true →
    s.xl.tcBusy = false →
    ∃ u, exec (.invHandle acc c) s = .next u ∧ still u = still (wrote { tick s with xl := { s.xl with tcCtx := c, cache := s.xl.cache.filter (fun e => !p e.ctx e.handle), walks := l, tcBusy := l.any (·.marked) } })) ∧
  (∀ (acc : Acc) (c : CtxId) (s : State),
    let p : CtxId → W32 → Bool := fun d _ => d == c
    let l : List Walk := s.xl.walks.map (fun w => if p w.ctx w.handle then { w with marked := true } else w)
    served acc s = true →
    s.xl.tcBusy = false →
    ∃ u, exec (.invCtx acc c) s = .next u ∧ still u = still (wrote { tick s with xl := { s.xl with tcCtx := c, cache := s.xl.cache.filter (fun e => !p e.ctx e.handle), walks := l, tcBusy := l.any (·.marked) } })) ∧
  (∀ (acc : Acc) (s : State),
    let p : CtxId → W32 → Bool := fun _ _ => true
    let l : List Walk := s.xl.walks.map (fun w => if p w.ctx w.handle then { w with marked := true } else w)
    served acc s = true →
    s.xl.tcBusy = false →
    ∃ u, exec (.invAll acc) s = .next u ∧ still u = still (wrote { tick s with xl := { s.xl with tcCtx := 0, cache := s.xl.cache.filter (fun e => !p e.ctx e.handle), walks := l, tcBusy := l.any (·.marked) } }))

/-- A write that sets EN of a disabled launch queue (constructor lqEnable) or of the Reel (constructor reelEnable) starts its
ring anew; one to an enabled ring changes EN alone. LQ_FAULT_CLEAR (constructor lqFaultClear) clears the selected queue's FAULT.
DUMP_START (constructor dumpStart) on an empty die issues HEADER and END; the acknowledgement of the last write ends the command,
and an error ends it with ERR 3 (constructor dumpWriteResponse). -/
def Obligations.RingCommandsComplete : Prop :=
  (∀ (acc : Acc) (s : State),
    served acc s = true →
    ∃ u, exec (.lqFaultClear acc) s = .next u ∧ still u = still (wrote { tick s with la := { s.la with queues := s.la.queues.modify s.la.sel.toNat (fun l => { l with fault := false }) } })) ∧
  (∀ (acc : Acc) (v : W32) (s : State),
    served acc s = true →
    (lqAt s s.la.sel.toNat).en = false →
    v.getLsbD 31 = true →
    2 ≤ v.toNat % 16 →
    ∃ u, exec (.lqEnable acc v) s = .next u ∧ still u = still (wrote { tick s with la := { s.la with queues := s.la.queues.modify s.la.sel.toNat (fun l => { l with
      en := true, ctx := v.extractLsb' 16 12, logsize := v.setWidth 4, prod := 0, cons := 0, gaps := [] }) } })) ∧
  (∀ (acc : Acc) (v : W32) (s : State),
    served acc s = true →
    (lqAt s s.la.sel.toNat).en = true →
    2 ≤ v.toNat % 16 →
    ∃ u, exec (.lqEnable acc v) s = .next u ∧ still u = still (wrote { tick s with la := { s.la with queues := s.la.queues.modify s.la.sel.toNat (fun l => { l with en := v.getLsbD 31 }) } })) ∧
  (∀ (acc : Acc) (v : W32) (s : State),
    served acc s = true →
    s.reel.en = false →
    v.getLsbD 31 = true →
    4 ≤ v.toNat % 32 →
    v.toNat % 32 ≤ 24 →
    ∃ u, exec (.reelEnable acc v) s = .next u ∧ still u = still (wrote { tick s with reel := { (tick s).reel with
      en := true, allctx := v.getLsbD 30, ctx := v.extractLsb' 16 12, logsize := v.extractLsb' 0 5, prod := 0, seq := 0, cons := 0
      lost := 0, lostFirst := 0, lostLast := 0 } })) ∧
  (∀ (acc : Acc) (v : W32) (s : State),
    served acc s = true →
    s.reel.en = true →
    4 ≤ v.toNat % 32 →
    v.toNat % 32 ≤ 24 →
    ∃ u, exec (.reelEnable acc v) s = .next u ∧ still u = still (wrote { tick s with reel := { (tick s).reel with en := v.getLsbD 31, closing := !v.getLsbD 31 } })) ∧
  (∀ (acc : Acc) (c : CtxId) (s : State),
    let head : BitVec 512 := dumpHeader { tick s with dump := { s.dump with all := true, ctx := c } }
    let crcOf : W32 → BitVec 512 → W32 := fun x r => (toBytes 64 r.toNat).foldl crcByte x
    let c1 : W32 := crcOf 0xFFFFFFFF head
    let last : BitVec 512 := dumpRec 7 0 2 (at8 8 (now (tick s)).toNat + at8 16 (~~~ c1).toNat)
    let rq : Nat → BitVec 512 → MReq := fun k r => { use := .dump (s.dump.gen + 1), wr := true, size := 2, addr := (s.dump.base ++ (0 : BitVec 6)) + BitVec.ofNat 64 (64 * k), data := r }
    served acc s = true →
    s.dump.busy = false →
    s.vat.slots = [] →
    s.wt.entries = [] →
    s.qu.recs = [] →
    s.qu.locks = [] →
    s.couch.pend = [] →
    s.couch.recs = [] →
    s.couch.roles = [] →
    2 ≤ s.dump.lim.toNat →
    dumpOut { s with dump := { s.dump with gen := s.dump.gen + 1 } } = 0 →
    ∃ u, exec (.dumpStart acc true c) s = .next u ∧ still u = still (wrote { tick s with
      dump := { s.dump with
        all := true, ctx := c, busy := true, err := 0, gen := s.dump.gen + 1, todo := [], ready := [], recs := 2
        crc := crcOf c1 last, ok := 0, ended := true, endErr := 0 }
      memp := { s.memp with waiting := s.memp.waiting ++ [rq 0 head, rq 1 last] } })) ∧
  (∀ (s : State) (tag : Byte) (r : MReq),
    rest s = true →
    gclkOn s = true →
    tget s.memp.outst tag.toNat = some r →
    r.use = .dump s.dump.gen →
    s.dump.busy = true →
    s.dump.ended = true →
    dumpOut { s with memp := { s.memp with outst := terase s.memp.outst tag.toNat } } = 0 →
    ∃ u, exec (.dumpWriteResponse tag 0) s = .next u ∧ still u = still ({ tick s with memp := { s.memp with outst := terase s.memp.outst tag.toNat }, dump := { s.dump with busy := false, err := s.dump.endErr, ok := s.dump.ok + 1 } })) ∧
  (∀ (s : State) (tag : Byte) (err : BitVec 2) (r : MReq),
    rest s = true →
    gclkOn s = true →
    tget s.memp.outst tag.toNat = some r →
    r.use = .dump s.dump.gen →
    s.dump.busy = true →
    err ≠ 0 →
    ∃ u, exec (.dumpWriteResponse tag err) s = .next u ∧ still u = still ({ tick s with
      memp := { s.memp with
        outst := terase s.memp.outst tag.toNat
        waiting := s.memp.waiting.filter (fun q => q.use != .dump s.dump.gen) }
      dump := { s.dump with busy := false, err := 3, todo := [], ready := [], ended := true } }))

/-- A REJOIN (constructor rejoin) of a pinned stream that has been DOWN for 20 µs leaves it CLOSED, and of one that is not DOWN
ends with ERR 1. A CLOSE (constructor closeStream) of an UP stream that is not pinned sends SYNC with CLOSE and a new session and
leaves it CLOSING. An ACCEPT (constructor accept) clears the DIVERGED of a slot and its tracking, and ends with ERR 1 where the
slot is not DIVERGED. A REFIT (constructor refit) of a LOCKED Calender starts the fit anew, and otherwise ends with ERR 1. -/
def Obligations.LinkAndSlotCommandsComplete : Prop :=
  (∀ (acc : Acc) (s : State) (t : Stream),
    served acc s = true →
    s.felt.cmdBusy = false →
    selStream s = some t →
    t.st = .down →
    t.pinned = true →
    160000 ≤ since (tick s) t.downAt →
    ∃ u, exec (.rejoin acc) s = .next u ∧ still u = still (wrote (modStream t.peer (fun u => { u with st := .closed, peerPower := 0, peerHalted := false, syncs := 0 }) { tick s with felt := { (tick s).felt with cmdErr := 0 } }))) ∧
  (∀ (acc : Acc) (s : State) (t : Stream),
    served acc s = true →
    s.felt.cmdBusy = false →
    selStream s = some t →
    t.st ≠ .down →
    ∃ u, exec (.rejoin acc) s = .next u ∧ still u = still (wrote { tick s with felt := { (tick s).felt with cmdErr := 1 } })) ∧
  (∀ (acc : Acc) (s : State) (t : Stream),
    served acc s = true →
    s.felt.cmdBusy = false →
    selStream s = some t →
    streamTo s t.peer = some t →
    t.st = .up →
    t.pinned = false →
    t.peerPower ≠ 2 →
    txAllowed s = true →
    ∃ u, exec (.closeStream acc) s = .next u ∧ still u = still (wrote (modStream t.peer (fun u => { u with
      st := .closing, syncs := u.syncs + 1, lastSent := now (tick s), ackOwed := false, used := (tick s).clk.cycle })
      { tick s with felt := { (tick s).felt with
        cmdErr := 0
        session := s.felt.session + 1
        wire := [{ h := { mkHdr s t false false true 0 with session := s.felt.session + 1 }, body := .sync, idx := t.idx }] } }))) ∧
  (∀ (acc : Acc) (n : BitVec 17) (s : State),
    served acc s = true →
    clean (slotAt s n.toNat) = true →
    (objAt s n.toNat).diverged = true →
    ∃ u, exec (.accept acc n) s = .next u ∧ still u = still (wrote (untrack n.toNat (bumpIf n.toNat (bytesAt s n.toNat) (putObj n.toNat { objAt s n.toNat with diverged := false } { tick s with res := { (tick s).res with cmdErr := 0, cmdSlot := n } }))))) ∧
  (∀ (acc : Acc) (n : BitVec 17) (s : State),
    served acc s = true →
    clean (slotAt s n.toNat) = true →
    (objAt s n.toNat).diverged = false →
    ∃ u, exec (.accept acc n) s = .next u ∧ still u = still (wrote { tick s with res := { (tick s).res with cmdErr := 1, cmdSlot := n } })) ∧
  (∀ (acc : Acc) (s : State),
    served acc s = true →
    s.cal.cmdBusy = false →
    s.cal.st = .locked →
    ∃ u, exec (.refit acc) s = .next u ∧ still u = still (wrote { tick s with cal := { (tick s).cal with st := .fit, points := [], window := none, cmdBusy := true, cmdErr := 0 } })) ∧
  (∀ (acc : Acc) (s : State),
    served acc s = true →
    s.cal.cmdBusy = false →
    s.cal.st ≠ .locked →
    ∃ u, exec (.refit acc) s = .next u ∧ still u = still (wrote { tick s with cal := { (tick s).cal with cmdErr := 1 } }))

/-- An IRQ_CLAIM (constructor irqClaim) by a processor for which a source is eligible returns its number and COUNT and clears
both PENDING and COUNT; an assertion in the same cycle leaves it pending with COUNT 1. With none eligible it returns 0x3FF. An
IRQ_SET (constructor irqSet) sets PENDING of its source and raises COUNT, saturating at 255, once more for an assertion in the
same cycle; a reserved source is unchanged. An IRQ_PENDING_CLEAR (constructor irqPendingClear) clears the PENDING bits written
with 1, keeps every COUNT, and loses no assertion of the same cycle. -/
def Obligations.InterruptCommandsComplete : Prop :=
  (∀ (acc : Acc) (p : Fin 16) (same : Bool) (s : State) (n : Nat) (r : IrqSrc),
    served acc s = true →
    irqSelect (tick s) p.val = some (n, r) →
    irqReserved n = false →
    ∃ u, exec (.irqClaim acc p same) s = .next u ∧ still u = still (irqPut { tick s with regp := { s.regp with rdata := BitVec.ofNat 32 (r.count * 65536 + n) } } n
      { r with pending := same, count := if same then 1 else 0 })) ∧
  (∀ (acc : Acc) (p : Fin 16) (same : Bool) (s : State),
    served acc s = true →
    irqSelect (tick s) p.val = none →
    ∃ u, exec (.irqClaim acc p same) s = .next u ∧ still u = still ({ tick s with regp := { s.regp with rdata := 0x3FF } })) ∧
  (∀ (acc : Acc) (n : Byte) (same : Bool) (s : State),
    served acc s = true →
    irqReserved n.toNat = false →
    ∃ u, exec (.irqSet acc n same) s = .next u ∧ still u = still (irqPut (wrote (tick s)) n.toNat { irqGet s n.toNat with
      pending := true, count := min 255 ((irqGet s n.toNat).count + (if same then 2 else 1)) })) ∧
  (∀ (acc : Acc) (n : Byte) (same : Bool) (s : State),
    served acc s = true →
    irqReserved n.toNat = true →
    ∃ u, exec (.irqSet acc n same) s = .next u ∧ still u = still (wrote (tick s))) ∧
  (∀ (acc : Acc) (k : Fin 8) (mask same : W32) (s : State),
    served acc s = true →
    ∃ u, exec (.irqPendingClear acc k mask same) s = .next u ∧ still { u with irq := { u.irq with src := [] } } = still { wrote (tick s) with irq := { (tick s).irq with src := [] } } ∧
      (∀ n, ¬ (32 * k.val ≤ n ∧ n < 32 * k.val + 32) → qwmSource n = false → irqGet u n = irqGet s n) ∧
      ∀ i, i < 32 → qwmSource (32 * k.val + i) = false → irqReserved (32 * k.val + i) = false →
        irqGet u (32 * k.val + i) = { irqGet s (32 * k.val + i) with
          pending := same.getLsbD i || ((irqGet s (32 * k.val + i)).pending && !mask.getLsbD i)
          count := if same.getLsbD i then satInc 255 (irqGet s (32 * k.val + i)).count else (irqGet s (32 * k.val + i)).count })

/-- A HALT_COMMAND (constructor haltCommand) of a die that is not halted and has no stream halts it: HALT_OUT, cause 4, the
origin and time remembered, and a HALT entry. A SLEEP (constructor sleep) of a die that nothing keeps awake begins SLEEP entry,
and otherwise ends with ERR 1. A SEC_LOCK (constructor secLock) ends OPEN-AUTH with a DEBUG_UNLOCK entry. A STEP_ENABLE
(constructor stepEnable) of an enabled unit takes LEAD and PERIOD; a zero leaves its field; one that sets EN reads the object of
GS_STEP_HANDLE and learns its EPOCH. -/
def Obligations.PowerCommandsComplete : Prop :=
  (∀ (acc : Acc) (s : State),
    served acc s = true →
    s.pwr.cmdBusy = false →
    s.pwr.halted = false →
    s.felt.streams = [] →
    s.qu.recs = [] →
    ∃ u, exec (.haltCommand acc) s = .next u ∧ still u = still (logEvent 0x14 none ((myDie s).setWidth 32) 4 0 { wrote (tick s) with
      pwr := { s.pwr with halted := true, hcause := 4, cmdErr := 0 }
      pins := { (tick s).pins with haltOut := true }
      felt := { (tick s).felt with halts := (s.felt.halts ++ [(myDie s, now (tick s))]).drop (s.felt.halts.length + 1 - 16) } })) ∧
  (∀ (acc : Acc) (s : State),
    served acc s = true →
    s.pwr.cmdBusy = false →
    sleepBusy s = false →
    s.boot.phase = .run →
    s.sec.st = .sealed_ →
    s.felt.streams = [] →
    ∃ u, exec (.sleep acc) s = .next u ∧ still u = still (wrote { tick s with
      pwr := { s.pwr with cmdBusy := true, cmdErr := 0, sleep := .draining }
      sec := { s.sec with spoiled := s.sec.token.isSome } })) ∧
  (∀ (acc : Acc) (s : State),
    served acc s = true →
    s.pwr.cmdBusy = false →
    sleepBusy s = true →
    ∃ u, exec (.sleep acc) s = .next u ∧ still u = still (wrote { tick s with pwr := { s.pwr with cmdErr := 1 } })) ∧
  (∀ (acc : Acc) (s : State),
    served acc s = true →
    s.sec.st = .openAuth →
    ∃ u, exec (.secLock acc) s = .next u ∧ still u = still (logEvent 0x19 none (s.sec.grant.setWidth 32) s.sec.expiry (BitVec.ofNat 64 (2 ^ 8 * 2)) { wrote (tick s) with sec := { s.sec with st := .sealed_, grant := 0, expiry := 0 } })) ∧
  (∀ (acc : Acc) (v : W32) (s : State),
    served acc s = true →
    s.boot.phase = .run →
    s.step.en = true →
    ∃ u, exec (.stepEnable acc v) s = .next u ∧ still u = still (wrote { tick s with step := { s.step with
      en := v.getLsbD 31
      lead := if v.extractLsb' 16 8 = 0 then s.step.lead else v.extractLsb' 16 8
      period := if v.extractLsb' 0 16 = 0 then s.step.period else v.extractLsb' 0 16 } })) ∧
  (∀ (acc : Acc) (v : W32) (s : State) (n : Nat),
    slotServed acc s = true →
    running s = true →
    s.sec.st ≠ .virgin →
    s.step.en = false →
    v.getLsbD 31 = true →
    reaches s { opcode := opRead, agent := stepAgent s, ctx := 0, handle := s.step.handle } n = true →
    (objAt s n).diverged = false →
    ∃ u, exec (.stepEnable acc v) s = .next u ∧ stillArb u = stillArb (tcTouch 0 s.step.handle { slotGranted s with
      clk := { (tick s).clk with free := s.clk.free + 2 }
      step := { s.step with
        en := true, due := false, tripDue := false, reading := false, epoch := some (objAt s n).epoch
        lead := if v.extractLsb' 16 8 = 0 then s.step.lead else v.extractLsb' 16 8
        period := if v.extractLsb' 0 16 = 0 then s.step.period else v.extractLsb' 0 16 } }))

/-- A RESTART (constructor restart), a WDOG_EXPIRY (constructor wdogExpiry) and an SQ_FAULT (constructor sqFault) of a sequencer
that runs, with the flash free, hold it, record cause and count, keep the block's outputs, log SQ_RESTART and begin the reload. A
SQ_RELOAD_DONE (constructor sqReloadDone) releases it where the image has the directory's length and digest and otherwise leaves
it STOPPED with a second entry. A WDOG_KICK (constructor wdogKick) sets LIMIT and restarts the count. A SQ_SEND (constructor
sqSend) sends OUTBOX as a FWMSG to a peer whose stream takes it at once. A MBOX_POP (constructor mboxPop) frees the oldest INBOX
slot. -/
def Obligations.SequencersRestartAndSend : Prop :=
  (∀ (acc : Acc) (k : Fin 2) (s : State),
    let own : Bool := (acc.rq == .sq0 && k.val == 0) || (acc.rq == .sq1 && k.val == 1)
    let v : State := restarted k.val (if own then 4 else 3) (wrote (tick s))
    served acc s = true →
    sqRuns (sqAt s k.val) = true ∨ (sqAt s k.val).st = .stopped →
    s.boot.flashq = [] →
    ∃ u, exec (.restart acc k) s = .next u ∧ still u = still ({ v with sq := { v.sq with cmdSq := k.val == 1, cmdErr := 0 } })) ∧
  (∀ (k : Fin 2) (s : State),
    rest s = true →
    gclkOn s = true →
    sqRuns (sqAt s k.val) = true →
    (sqAt s k.val).limit ≠ 0 →
    s.boot.flashq = [] →
    ∃ u, exec (.wdogExpiry k) s = .next u ∧ still u = still (restarted k.val 2 (tick s))) ∧
  (∀ (k : Fin 2) (s : State),
    rest s = true →
    gclkOn s = true →
    sqRuns (sqAt s k.val) = true →
    s.boot.flashq = [] →
    ∃ u, exec (.sqFault k) s = .next u ∧ still u = still (restarted k.val 5 (tick s))) ∧
  (∀ (k : Fin 2) (image : List Byte) (s : State) (p : Part),
    let v : State := { tick s with boot := { s.boot with flashq := [] } }
    rest s = true →
    gclkOn s = true →
    (sqAt s k.val).st = .reload →
    s.boot.flashq = [k.val] →
    fwPart s k.val = some p →
    ∃ u, exec (.sqReloadDone k image) s = .next u ∧ still u = still (if p.len = image.length ∧ p.digest = Config.sha384 image.length (leNat image) then
      modSq k.val (fun q => loadFirmware image { q with st := .run, held := !(s.boot.phase == .links || s.boot.phase == .run) }) v
    else
      logEvent 0x17 none (BitVec.ofNat 32 k.val) (BitVec.ofNat 64 ((sqAt s k.val).cause.toNat + 2 ^ 8 * bit (sqAt s k.val).role))
        (BitVec.ofNat 64 ((sqAt s k.val).count + 2 ^ 8)) (modSq k.val (fun q => { q with st := .stopped }) v))) ∧
  (∀ (acc : Acc) (k : Fin 2) (limit : BitVec 16) (s : State),
    served acc s = true →
    ∃ u, exec (.wdogKick acc k limit) s = .next u ∧ still u = still (wrote (modSq k.val (fun q => { q with limit, kicks := q.kicks + 1 }) (tick s)))) ∧
  (∀ (acc : Acc) (k : Fin 2) (words : BitVec 6) (dst : DieId) (outbox : List Byte) (s : State),
    let mem : Tbl Byte := memWrite 0x1BE00 outbox (sqAt s k.val).mem
    let b : Body := outboxBody words.toNat (outboxOf { sqAt s k.val with mem })
    served acc s = true →
    words.toNat ≤ 59 →
    leaves dst b s = true →
    ∃ u, exec (.sqSend acc k words dst outbox) s = .next u ∧ still u = still (wrote (sent dst b (modSq k.val (fun q => { q with words, dst, mem, sendFid := some s.felt.fid }) (tick s))))) ∧
  (∀ (acc : Acc) (k : Fin 2) (s : State),
    served acc s = true →
    (sqAt s k.val).msgs ≠ 0 →
    ∃ u, exec (.mboxPop acc k) s = .next u ∧ still u = still (wrote (modSq k.val (fun q => { q with msgs := q.msgs - 1, head := (q.head + 1) % 32 }) (tick s))))

/-- A CAPTURE (constructor capture) asks to write the live set to the buffer; a CAL_WRITE (constructor calWrite) that the policy
allows asks to read the buffer, and one that it does not ends with ERR 2. The last good part written ends CAPTURE; the last good
part read takes a good set, FACTORY cleared and CRC made anew, to the flash, ends CAL_WRITE with ERR 1 for a bad set, and any
error ends either with ERR 5 (constructor calwBufferResponse). A read-back that agrees logs CAL_WRITE and counts it, one that
does not ends with ERR 6 (constructor calFlashDone), and so does a busy flash (constructor calFlashTimeout). A LINKCAL
(constructor linkcal) of a DOWN D2D stream trains; its code becomes the peer's (constructor linkcalDone), or it ends with ERR 4
(constructor linkcalTimeout). -/
def Obligations.CalibrationCompletes : Prop :=
  (∀ (acc : Acc) (s : State),
    served acc s = true →
    s.boot.calw = .idle →
    ∃ u, exec (.capture acc) s = .next u ∧ still u = still (wrote { tick s with
      boot := { s.boot with calw := .capture [0, 1, 2, 3], calwErr := 0 }
      memp := { s.memp with waiting := s.memp.waiting ++ (List.range 4).map (fun p =>
        { use := .calStore p, wr := true, size := 2, addr := calwAddr s p, data := (calSet (tick s)).extractLsb' (512 * p) 512 }) } })) ∧
  (∀ (acc : Acc) (s : State),
    served acc s = true →
    s.boot.calw = .idle →
    s.boot.policy.calwEn = true →
    s.pwr.st ≠ .brace →
    s.pwr.sleep = .none →
    s.pwr.warnDeb = false →
    ∃ u, exec (.calWrite acc) s = .next u ∧ still u = still (wrote { tick s with
      boot := { s.boot with calw := .fetch [0, 1, 2, 3], calwErr := 0 }
      memp := { s.memp with waiting := s.memp.waiting ++ (List.range 4).map (fun p =>
        { use := .calRead p, wr := false, size := 2, addr := calwAddr s p }) } })) ∧
  (∀ (acc : Acc) (s : State),
    served acc s = true →
    s.boot.calw = .idle →
    s.boot.policy.calwEn = false →
    ∃ u, exec (.calWrite acc) s = .next u ∧ still u = still (wrote { tick s with boot := { s.boot with calwErr := 2 } })) ∧
  (∀ (s : State) (tag : Byte) (data : BitVec 512) (r : MReq) (p : Nat),
    rest s = true →
    gclkOn s = true →
    tget s.memp.outst tag.toNat = some r →
    r.use = .calStore p →
    s.boot.calw = .capture [p] →
    ∃ u, exec (.calwBufferResponse tag 0 data) s = .next u ∧ still u = still ({ tick s with memp := { s.memp with outst := terase s.memp.outst tag.toNat }, boot := { s.boot with calw := .idle, calwErr := 0 } })) ∧
  (∀ (s : State) (tag : Byte) (data : BitVec 512) (r : MReq) (p : Nat),
    let v : BitVec 2048 := BitVec.ofNat 2048 (s.boot.calwBuf.toNat % 2 ^ (512 * p) + 2 ^ (512 * p) * (data.toNat + 2 ^ 512 * (s.boot.calwBuf.toNat / 2 ^ (512 * (p + 1)))))
    rest s = true →
    gclkOn s = true →
    tget s.memp.outst tag.toNat = some r →
    r.use = .calRead p →
    p < 4 →
    s.boot.calw = .fetch [p] →
    s.boot.flashq = [] →
    ∃ u, exec (.calwBufferResponse tag 0 data) s = .next u ∧ still u = still ({ tick s with memp := { s.memp with outst := terase s.memp.outst tag.toNat }, boot := if calGood v then { s.boot with calwBuf := v, calw := .flash, flashSet := calStored v, flashq := [2] }
        else { s.boot with calwBuf := v, calw := .idle, calwErr := 1 } })) ∧
  (∀ (s : State) (tag : Byte) (err : BitVec 2) (data : BitVec 512) (r : MReq) (p : Nat) (l : List Nat),
    rest s = true →
    gclkOn s = true →
    tget s.memp.outst tag.toNat = some r →
    r.use = .calRead p →
    s.boot.calw = .fetch l →
    err ≠ 0 →
    ∃ u, exec (.calwBufferResponse tag err data) s = .next u ∧ still u = still ({ tick s with
      boot := { s.boot with calw := .idle, calwErr := 5 }
      memp := { s.memp with
        outst := terase s.memp.outst tag.toNat
        waiting := s.memp.waiting.filter (fun r => match r.use with
          | .calRead _ => false
          | .calStore _ => false
          | _ => true) } })) ∧
  (∀ (readback : BitVec 2048) (s : State),
    rest s = true →
    gclkOn s = true →
    s.boot.calw = .flash →
    s.boot.flashq = [2] →
    ∃ u, exec (.calFlashDone readback) s = .next u ∧ still u = still (if readback = s.boot.flashSet then
      logEvent 0x18 none 0 (BitVec.ofNat 64 (bit s.boot.factory)) ((s.boot.flashSet.extractLsb' 2016 32).setWidth 64)
        { tick s with boot := { s.boot with
          flashq := [], calw := .idle, calwErr := 0, writes := satInc 255 s.boot.writes, factory := false } }
    else { tick s with boot := { s.boot with flashq := [], calw := .idle, calwErr := 6 } })) ∧
  (∀ (s : State),
    rest s = true →
    gclkOn s = true →
    s.boot.calw = .flash →
    s.boot.flashq = [2] →
    ∃ u, exec (.calFlashTimeout) s = .next u ∧ still u = still ({ tick s with boot := { s.boot with flashq := [], calw := .idle, calwErr := 6 } })) ∧
  (∀ (acc : Acc) (s : State) (t : Stream),
    served acc s = true →
    s.boot.calw = .idle →
    selStream s = some t →
    t.eth = false →
    t.st = .down →
    ∃ u, exec (.linkcal acc) s = .next u ∧ still u = still (wrote { tick s with boot := { s.boot with calw := .train (BitVec.ofNat 4 t.idx), calwErr := 0 }, pins := { (tick s).pins with calPeer := BitVec.ofNat 4 t.idx, calTrain := true } })) ∧
  (∀ (code : W32) (s : State) (p : BitVec 4),
    rest s = true →
    gclkOn s = true →
    s.boot.calw = .train p →
    ∃ u, exec (.linkcalDone code) s = .next u ∧ still u = still ({ tick s with boot := { s.boot with calw := .idle, calwErr := 0, cal := { s.boot.cal with deskew := s.boot.cal.deskew.set p.toNat code } }, pins := { (tick s).pins with calTrain := false } })) ∧
  (∀ (s : State) (p : BitVec 4),
    rest s = true →
    gclkOn s = true →
    s.boot.calw = .train p →
    ∃ u, exec (.linkcalTimeout) s = .next u ∧ still u = still ({ tick s with boot := { s.boot with calw := .idle, calwErr := 4 }, pins := { (tick s).pins with calTrain := false } }))

/-- IDCODE and DBGSTAT (constructors idcode, dbgstat) load IR and capture their value; an IR code that selects BYPASS (constructor
bypass), every reserved one among them, passes TDI through, and a vendor-test code of a VIRGIN die captures an open value (log
entry 92). A CHALLENGE (constructor challenge) issues a fresh nonce, and in SLEEP or during a verification zeros and none. A
RESPONSE (constructor response) that passes the checks before the signature is taken for verification; one that fails a check that
does not count sets LASTRES alone; one that fails another also consumes the nonce, counts, locks out at the eighth failure and is
logged. The end of a verification (constructor unlockVerifyDone) opens OPEN-AUTH with the token's rights and expiry where the
signature is right. TAP_LOCK and UNLOCK_EXPIRY (constructors tapLock, unlockExpiry) end OPEN-AUTH with a log entry. A REGACC
(constructor regacc) without the right is DENIED; a read of GS_ID with it returns the register. -/
def Obligations.TapCompletes : Prop :=
  (∀ (s : State),
    rest s = true →
    alive s = true →
    ∃ u, exec (.idcode) s = .next u ∧ still u = still ({ tick s with sec := { s.sec with ir := 1, capture := idcodeWord.setWidth 256 } })) ∧
  (∀ (s : State),
    rest s = true →
    alive s = true →
    ∃ u, exec (.dbgstat) s = .next u ∧ still u = still ({ tick s with sec := { s.sec with ir := 4, capture := (secStat s).setWidth 256 } })) ∧
  (∀ (x : TapShift) (s : State),
    rest s = true →
    alive s = true →
    tapInstr (s.sec.st == .virgin) x.ir = .bypass →
    ∃ u, exec (.bypass x) s = .next u ∧ still u = still ({ tick s with sec := { s.sec with ir := x.ir, capture := if x.tdi then 1 else 0 } })) ∧
  (∀ (x : TapShift) (s : State),
    rest s = true →
    alive s = true →
    tapInstr (s.sec.st == .virgin) x.ir = .vendor →
    ∃ u, exec (.bypass x) s = .next u ∧ still u = still ({ tick s with
      sec := { s.sec with ir := x.ir, capture := (Config.unstated s.clk.free).setWidth 256 }
      clk := { (tick s).clk with free := s.clk.free + 1 } })) ∧
  (∀ (s : State),
    let n : BitVec 256 := Config.nonce s.clk.free
    rest s = true →
    alive s = true →
    s.pwr.st ≠ .sleep →
    s.sec.token = none →
    ∃ u, exec (.challenge) s = .next u ∧ still u = still ({ tick s with sec := { s.sec with ir := 2, nonce := some n, capture := n }, clk := { (tick s).clk with free := s.clk.free + 1 } })) ∧
  (∀ (s : State),
    rest s = true →
    alive s = true →
    s.pwr.st = .sleep ∨ s.sec.token ≠ none →
    ∃ u, exec (.challenge) s = .next u ∧ still u = still ({ tick s with sec := { s.sec with ir := 2, capture := 0 } })) ∧
  (∀ (t : BitVec 1216) (s : State),
    rest s = true →
    alive s = true →
    tokenErr (tick s) t = 0 →
    ∃ u, exec (.response t) s = .next u ∧ still u = still ({ tick s with sec := { s.sec with ir := 3, token := some t, spoiled := false } })) ∧
  (∀ (t : BitVec 1216) (s : State),
    rest s = true →
    alive s = true →
    1 ≤ tokenErr (tick s) t →
    tokenErr (tick s) t ≤ 4 →
    ∃ u, exec (.response t) s = .next u ∧ still u = still ({ tick s with sec := { s.sec with ir := 3, lastres := BitVec.ofNat 4 (tokenErr (tick s) t) } })) ∧
  (∀ (t : BitVec 1216) (s : State),
    rest s = true →
    alive s = true →
    5 ≤ tokenErr (tick s) t →
    ∃ u, exec (.response t) s = .next u ∧ still u = still (logEvent 0x19 none ((tokenGrant t).setWidth 32) (tokenExpiry t) (BitVec.ofNat 64 (tokenErr (tick s) t)) { tick s with sec := { s.sec with
      ir := 3, lastres := BitVec.ofNat 4 (tokenErr (tick s) t), nonce := none, fails := satInc 15 s.sec.fails
      lockout := s.sec.lockout || decide (8 ≤ s.sec.fails + 1) } })) ∧
  (∀ (t : BitVec 1216) (s : State),
    rest s = true →
    alive s = true →
    s.sec.token = some t →
    s.sec.spoiled = false →
    ∃ u, exec (.unlockVerifyDone) s = .next u ∧ still u = still (if tokenSigned s t then
      logEvent 0x19 none ((tokenGrant t).setWidth 32) (tokenExpiry t) 1 { tick s with sec := { s.sec with
        token := none, spoiled := false, lastres := 1, nonce := none, st := .openAuth, grant := tokenGrant t, expiry := tokenExpiry t } }
    else
      logEvent 0x19 none ((tokenGrant t).setWidth 32) (tokenExpiry t) 11 { tick s with sec := { s.sec with
        token := none, spoiled := false, lastres := 11, nonce := none, fails := satInc 15 s.sec.fails
        lockout := s.sec.lockout || decide (8 ≤ s.sec.fails + 1) } })) ∧
  (∀ (s : State),
    rest s = true →
    alive s = true →
    s.sec.st = .openAuth →
    ∃ u, exec (.tapLock) s = .next u ∧ still u = still (logEvent 0x19 none (s.sec.grant.setWidth 32) s.sec.expiry (BitVec.ofNat 64 (2 ^ 8)) { tick s with sec := { s.sec with ir := 6, st := .sealed_, grant := 0, expiry := 0 } })) ∧
  (∀ (s : State),
    rest s = true →
    alive s = true →
    s.sec.st = .openAuth →
    s.sec.expiry ≠ 0 →
    s.sec.expiry.toNat ≤ (now (tick s)).toNat →
    ∃ u, exec (.unlockExpiry) s = .next u ∧ still u = still (logEvent 0x19 none (s.sec.grant.setWidth 32) s.sec.expiry (BitVec.ofNat 64 (2 ^ 8 * 3)) { tick s with sec := { s.sec with st := .sealed_, grant := 0, expiry := 0 } })) ∧
  (∀ (r : BitVec 72) (s : State),
    rest s = true →
    alive s = true →
    regaccAllowed s (r.getLsbD 71) = false →
    ∃ u, exec (.regacc r) s = .next u ∧ still u = still ({ tick s with sec := { s.sec with ir := 5, regacc := regaccPut r 1 (s.sec.regacc.setWidth 32) } })) ∧
  (∀ (r : BitVec 72) (s : State),
    rest s = true →
    alive s = true →
    regpHeld s = false →
    s.pwr.st ≠ .doze →
    r.getLsbD 71 = false →
    r.extractLsb' 34 23 = 1 →
    regaccAllowed s false = true →
    s.regp.stalled = [] →
    ∃ u, exec (.regacc r) s = .next u ∧ still u = still ({ tick s with sec := { s.sec with ir := 5, regacc := regaccPut r 0 0x6A510000 } }))

/-- A COOLANT_LOSS or a HALT_IN (constructors coolantLoss, haltIn) on a running die without streams and quires asserts its
source, halts the die with its cause, drives HALT_OUT, remembers the origin and time, and logs HALT. In SLEEP the edge is counted
in its latch, HALT_OUT rises at once, and the exit and the halt after it are asked for. -/
def Obligations.HaltPinsComplete : Prop :=
  (∀ (s : State),
    rest s = true →
    running s = true →
    s.felt.streams = [] →
    s.qu.recs = [] →
    ∃ u, exec (.coolantLoss) s = .next u ∧ still u = still (logEvent 0x14 none ((myDie s).setWidth 32) 1 0 (assertSource 0x20 { tick s with
      pwr := { s.pwr with halted := true, hcause := 1 }
      pins := { (tick s).pins with coolantLossN := false, haltOut := true }
      felt := { (tick s).felt with halts := (s.felt.halts ++ [(myDie s, now (tick s))]).drop (s.felt.halts.length + 1 - 16) } }))) ∧
  (∀ (s : State),
    rest s = true →
    running s = true →
    s.felt.streams = [] →
    s.qu.recs = [] →
    ∃ u, exec (.haltIn) s = .next u ∧ still u = still (logEvent 0x14 none ((myDie s).setWidth 32) 2 0 (assertSource 0x21 { tick s with
      pwr := { s.pwr with halted := true, hcause := 2 }
      pins := { (tick s).pins with  haltOut := true }
      felt := { (tick s).felt with halts := (s.felt.halts ++ [(myDie s, now (tick s))]).drop (s.felt.halts.length + 1 - 16) } }))) ∧
  (∀ (s : State),
    rest s = true →
    alive s = true →
    s.pwr.st = .sleep →
    ∃ u, exec (.coolantLoss) s = .next u ∧ still u = still (irqPut { tick s with
      pwr := { s.pwr with wake := true, haltOwed := if s.pwr.haltOwed.isNone then some 1 else s.pwr.haltOwed }
      pins := { (tick s).pins with coolantLossN := false, haltOut := true } } 0x20 { irqGet s 0x20 with latch := satInc 255 (irqGet s 0x20).latch })) ∧
  (∀ (s : State),
    rest s = true →
    alive s = true →
    s.pwr.st = .sleep →
    ∃ u, exec (.haltIn) s = .next u ∧ still u = still (irqPut { tick s with
      pwr := { s.pwr with wake := true, haltOwed := if s.pwr.haltOwed.isNone then some 2 else s.pwr.haltOwed }
      pins := { (tick s).pins with  haltOut := true } } 0x21 { irqGet s 0x21 with latch := satInc 255 (irqGet s 0x21).latch }))

/-- A PWR_WARN_ASSERT (constructor pwrWarnAssert) on a running die without streams and quires, out of VIRGIN, begins BRACE: the
state, the time and the counts of the episode, and source 0x22. A BRACED (constructor braced) with no quire and no launcher
request left, while PWR_WARN stays asserted, asks to write the summary, logs BRACE_ENTER and signals source 0x24. A
PWR_WARN_DEASSERT (constructor pwrWarnDeassert) in BRACED, on a die without streams, returns to ACTIVE, logs BRACE_EXIT with its
length and signals source 0x24. -/
def Obligations.BraceCompletes : Prop :=
  (∀ (s : State),
    rest s = true →
    running s = true →
    s.felt.streams = [] →
    s.qu.recs = [] →
    s.sec.st ≠ .virgin →
    s.pwr.warnDeb = false →
    s.pwr.bphase = .none →
    ∃ u, exec (.pwrWarnAssert) s = .next u ∧ still u = still (assertSource 0x22 { tick s with pwr := { s.pwr with
      st := .brace, warnDeb := true, bracePrev := .active, braceTime := now (tick s), bphase := .bracing, braceOwed := false
      braceAborts := 0, braceCommits := 0, braceAborts3 := 0 } })) ∧
  (∀ (s : State),
    rest s = true →
    gclkOn s = true →
    s.pwr.bphase = .bracing →
    braceDrained s = true →
    s.pwr.warnDeb = true →
    ∃ u, exec (.braced) s = .next u ∧ still u = still (assertSource 0x24 (logWrite 0x15 true 0 (BitVec.ofNat 64 (s.pwr.braceAborts.toNat + 2 ^ 16 * s.pwr.braceCommits.toNat))
      (BitVec.ofNat 64 (pendDescs s)) { tick s with
        pwr := { s.pwr with bphase := .braced }
        memp := { s.memp with waiting := s.memp.waiting ++
          [{ use := .summary, wr := true, size := 2, addr := s.pwr.braceBase ++ (0 : BitVec 6), data := braceSummary (tick s) }] } }))) ∧
  (∀ (s : State),
    rest s = true →
    gclkOn s = true →
    s.felt.streams = [] →
    s.pwr.st = .brace →
    s.pwr.bphase = .braced →
    ∃ u, exec (.pwrWarnDeassert) s = .next u ∧ still u = still (assertSource 0x24 (logWrite 0x16 true 0 (BitVec.ofNat 64 ((now (tick s) - s.pwr.braceTime).toNat / 8000))
      (BitVec.ofNat 64 s.pwr.warns) { tick s with pwr := { s.pwr with
        st := .active, bphase := .none, warnDeb := false } })))

/-- A DOZE_ENTRY (constructor dozeEntry) of an idle die with AUTODOZE enters DOZE. A SLEEP_ENTRY_COMPLETE (constructor
sleepEntryComplete) of a drained die enters SLEEP: GCLK and PD_CORE go, the die-to-die links slow down and the translation cache
empties. A SLEEP_ENTRY_TIMEOUT (constructor sleepEntryTimeout) abandons the entry with ERR 2. A SLEEP_EXIT (constructor
sleepExit) with a wake event pending asks for GCLK, and GCLK_ACK (constructor gclkAck) ends the exit. -/
def Obligations.SleepAndDozeComplete : Prop :=
  (∀ (s : State),
    rest s = true →
    running s = true →
    s.felt.streams = [] →
    s.pwr.autoDoze = true →
    s.pwr.bphase = .none →
    idle s = true →
    s.sec.st = .sealed_ →
    ∃ u, exec (.dozeEntry) s = .next u ∧ still u = still ({ tick s with pwr := { s.pwr with st := .doze } })) ∧
  (∀ (s : State),
    rest s = true →
    alive s = true →
    s.pwr.sleep = .draining →
    s.pwr.st = .active →
    idle s = true →
    feltReady s = true →
    poolUsed s = 0 →
    ∃ u, exec (.sleepEntryComplete) s = .next u ∧ still u = still ({ tick s with
      pwr := { s.pwr with st := .sleep, sleep := .asleep, wake := false, cmdBusy := false, cmdErr := 0 }
      pins := { (tick s).pins with gclkReq := false, gclkAck := false, d2dLowrate := true, pswCoreEn := false }
      xl := { s.xl with cache := [] }
      cal := { (tick s).cal with slewHeld := true, group := [], sentT1 := none } })) ∧
  (∀ (s : State),
    rest s = true →
    alive s = true →
    s.pwr.sleep = .draining →
    s.felt.streams = [] →
    ∃ u, exec (.sleepEntryTimeout) s = .next u ∧ still u = still ({ tick s with pwr := { s.pwr with sleep := .none, cmdBusy := false, cmdErr := 2 } })) ∧
  (∀ (s : State),
    rest s = true →
    alive s = true →
    s.pwr.sleep = .asleep →
    s.pwr.wake = true →
    ∃ u, exec (.sleepExit) s = .next u ∧ still u = still ({ tick s with pwr := { s.pwr with sleep := .exiting, wake := false }, pins := { (tick s).pins with gclkReq := true, pswCoreEn := true } })) ∧
  (∀ (s : State),
    rest s = true →
    alive s = true →
    s.pwr.sleep = .exiting →
    s.pins.gclkReq = true →
    s.felt.streams = [] →
    s.boot.phase = .run →
    s.regp.stalled = [] →
    s.boot.flashq = [] →
    s.pins.droop = s.pwr.droopSeen →
    s.pwr.haltOwed = none →
    s.pwr.braceOwed = false →
    [0x20, 0x21, 0x22, 0x23].all (fun n => (irqGet s n).latch == 0) = true →
    ∃ u, exec (.gclkAck) s = .next u ∧ still u = still ({ tick s with pwr := { s.pwr with st := .active, sleep := .none, wake := false }, pins := { (tick s).pins with gclkAck := true, d2dLowrate := false } }))

/-- A THERMAL_SAMPLE (constructor thermalSample) below the halt and trip temperatures records TEMP and raises PEAK alone; one at
the halt temperature halts a die without streams and quires with cause 3. A DROOP_CHANGE (constructor droopChange) with bubbles
enabled drops the bubbles still waiting and offers one, of the new level, to each agent the masks name. A REFCLK_EDGE
(constructor refclkEdge) at which nothing is slewed adds 320 units and RATE to TIME and its fraction. An AGENT_COUNTER_TICK
(constructor agentCounterTick) raises one counter of every agent of the die by 1. -/
def Obligations.SensorsComplete : Prop :=
  (∀ (t : Byte) (s : State),
    rest s = true →
    alive s = true →
    t.toInt < s.pwr.thalt.toInt →
    t.toInt < s.pwr.ttrip.toInt ∨ s.step.en = false →
    ∃ u, exec (.thermalSample t) s = .next u ∧ still u = still ({ tick s with pwr := { s.pwr with temp := t, peak := if s.pwr.peak.toInt < t.toInt then t else s.pwr.peak } })) ∧
  (∀ (t : Byte) (s : State),
    rest s = true →
    running s = true →
    s.felt.streams = [] →
    s.qu.recs = [] →
    s.pwr.thalt.toInt ≤ t.toInt →
    s.step.en = false →
    ∃ u, exec (.thermalSample t) s = .next u ∧ still u = still (logEvent 0x14 none ((myDie s).setWidth 32) 3 0 { tick s with
      pwr := { s.pwr with temp := t, peak := if s.pwr.peak.toInt < t.toInt then t else s.pwr.peak, halted := true, hcause := 3 }
      pins := { (tick s).pins with haltOut := true }
      felt := { (tick s).felt with halts := (s.felt.halts ++ [(myDie s, now (tick s))]).drop (s.felt.halts.length + 1 - 16) } })) ∧
  (∀ (v : BitVec 3) (s : State),
    rest s = true →
    gclkOn s = true →
    s.pwr.bubEn = true →
    v ≠ s.pwr.droopSeen →
    ∃ u, exec (.droopChange v) s = .next u ∧ still u = still ({ tick s with
      pins := { (tick s).pins with droop := v }
      pwr := { s.pwr with droopSeen := v, bubLevel := v }
      eg := { s.eg with queue := s.eg.queue.filter (fun f => !isBubble f) ++
        (bubbleAgents s).map (fun i => { f := bubbleFlit (tick s) v i, prio := 0, built := (tick s).clk.cycle }) } })) ∧
  (∀ (s : State),
    let n : Nat := ((s.cal.time.toNat * 2 ^ 32 + s.cal.frac.toNat + 320 * 2 ^ 32 + s.cal.rate.toInt) % (2 ^ 96 : Int)).toNat
    rest s = true →
    alive s = true →
    slewNow s = 0 →
    ∃ u, exec (.refclkEdge) s = .next u ∧ still u = still ({ tick s with cal := { s.cal with
      time := BitVec.ofNat 64 (n / 2 ^ 32), frac := BitVec.ofNat 32 n, edges := s.cal.edges + 1 } })) ∧
  (∀ (s : State),
    rest s = true →
    gclkOn s = true →
    ∃ u, exec (.agentCounterTick) s = .next u ∧ still { u with ag := { u.ag with pa := [] } } = still { tick s with ag := { s.ag with pa := [] } } ∧
      (∀ i ∈ dieAgents s, tget u.ag.pa i =
        some ((tgetD s.ag.pa i (List.replicate 8 0)).modify (tickClass s (agentWaits s) i) (· + 1))) ∧
      ∀ i, i ∉ dieAgents s → tget u.ag.pa i = tget s.ag.pa i)

/-- A TSYNC_INTERVAL (constructor tsyncInterval) with the stream to the parent UP sends REQ with the next exchange number;
without a parent it does nothing. In FIT the best exchange of the window becomes a point (constructor fitPoint), and the fit's
end (constructor fitEnd) sets RATE from the points and locks the Calender. A rising edge of PPS_IN (constructor ppsIn) not within
500 ms of the last asserts its source and records its time; PPS_OUT rises when enabled and falls (constructors ppsOutRise,
ppsOutFall). -/
def Obligations.CalenderCompletes : Prop :=
  (∀ (s : State) (d : DieId) (t : Stream),
    rest s = true →
    gclkOn s = true →
    parentDie s = some d →
    streamTo s d = some t →
    t.st = .up →
    txAllowed s = true →
    ∃ u, exec (.tsyncInterval) s = .next u ∧ still u = still (modStream d (fun u => { u with lastSent := now (tick s), ackOwed := false, used := (tick s).clk.cycle }) { tick s with
      cal := { (tick s).cal with xn := s.cal.xn + 1, sentT1 := some (now (tick s)) }
      felt := { (tick s).felt with wire := [{ h := mkHdr s t false false false 0, body := .tsyncReq (s.cal.xn + 1) (now (tick s)) }] } })) ∧
  (∀ (s : State),
    rest s = true →
    alive s = true →
    parentDie s = none →
    ∃ u, exec (.tsyncInterval) s = .next u ∧ still u = still (tick s)) ∧
  (∀ (s : State) (th de : Int) (t : W64),
    rest s = true →
    alive s = true →
    s.cal.st = .fit →
    isRoot s = false →
    s.cal.window = some (th, de, t) →
    ∃ u, exec (.fitPoint) s = .next u ∧ still u = still ({ tick s with cal := { (tick s).cal with points := s.cal.points ++ [(th, t)], window := none } })) ∧
  (∀ (s : State) (r : W32) (x : Bool),
    rest s = true →
    alive s = true →
    s.cal.st = .fit →
    isRoot s = false →
    fitRate s.cal.points = some (r, x) →
    ∃ u, exec (.fitEnd) s = .next u ∧ still u = still ({ tick s with cal := { (tick s).cal with rate := r, range := s.cal.range || x, st := .locked, points := [], window := none, cmdBusy := false } })) ∧
  (∀ (s : State),
    rest s = true →
    gclkOn s = true →
    ppsEarly (tick s) = false →
    s.cal.ppsAlign = false →
    ∃ u, exec (.ppsIn) s = .next u ∧ still u = still (assertSource 0x23 { tick s with cal := { (tick s).cal with ppsTime := now (tick s), ppsLast := some (now (tick s)), pps := true } })) ∧
  (∀ (s : State),
    rest s = true →
    alive s = true →
    s.cal.ppsoEn = true →
    ∃ u, exec (.ppsOutRise) s = .next u ∧ still u = still ({ tick s with pins := { (tick s).pins with ppsOut := true } })) ∧
  (∀ (s : State),
    rest s = true →
    alive s = true →
    ∃ u, exec (.ppsOutFall) s = .next u ∧ still u = still ({ tick s with pins := { (tick s).pins with ppsOut := false } }))

/-- A STEP_TICK (constructor stepTick) of a disabled unit records STEP_REQ alone. One of a unit that is free and that no limit
raises, while no grant may be made, presents an ARRIVE_R of weight 1 with its request as lane data and its epoch (MAX over the
lanes of format U64), and waits for the release. STEP_GRANT rises when its time has come (constructor stepGrantRise) and falls
(constructor stepGrantFall). -/
def Obligations.StepUnitCompletes : Prop :=
  (∀ (q : BitVec 6) (s : State),
    rest s = true →
    alive s = true →
    s.step.en = false →
    ∃ u, exec (.stepTick q) s = .next u ∧ still u = still ({ tick s with step := { s.step with stepReq := q, reqAt := s.clk.cycle + 1 } })) ∧
  (∀ (q : BitVec 6) (s : State) (e : W32),
    let r : Nat := max q.toNat s.step.fwReq.toNat
    rest s = true →
    running s = true →
    stepFree s = true →
    s.step.epoch = some e →
    s.step.presented = false →
    tripped s = false →
    canGrant (tick s) = false →
    s.pwr.floor.toNat ≤ r →
    s.pwr.maxup.toNat = 63 →
    ∃ u, exec (.stepTick q) s = .next u ∧ still u = still ({ tick s with
      step := { s.step with stepReq := q, reqAt := s.clk.cycle + 1, sent := BitVec.ofNat 6 r, pend := true }
      clk := { (tick s).clk with free := s.clk.free + 2 }
      hb := { (tick s).hb with link := [.step { opcode := opArriveR, agent := stepAgent s, ctx := 0, handle := s.step.handle
                                                inc := (Config.unstated s.clk.free).setWidth 8
                                                seq := (Config.unstated (s.clk.free + 1)).setWidth 16, a := 1
                                                b := BitVec.ofNat 64 (e.toNat + 2 ^ 32 * 5), data := BitVec.ofNat 512 r, src := .stepUnit }] } })) ∧
  (∀ (s : State),
    rest s = true →
    alive s = true →
    s.step.presented = true →
    s.step.at_.toNat ≤ (now (tick s)).toNat →
    ∃ u, exec (.stepGrantRise) s = .next u ∧ still u = still ({ tick s with step := { s.step with presented := false }, pins := { (tick s).pins with stepGrant := true } })) ∧
  (∀ (s : State),
    rest s = true →
    alive s = true →
    ∃ u, exec (.stepGrantFall) s = .next u ∧ still u = still ({ tick s with pins := { (tick s).pins with stepGrant := false } }))

/-- A SCRUB_VISIT (constructor scrubVisit) of a slot whose two copies agree and read without error changes nothing; one that
finds copy A unreadable beside a good copy B rewrites both from B, counts the error and logs MIRROR_FIX; one that finds an error
in the operation pool or the context table is fatal. An EGRESS_TRANSFER (constructor egressTransfer) sends the flit that the
port's order picks, and a release that leaves ends its pending arrival. -/
def Obligations.ScrubAndEgressComplete : Prop :=
  (∀ (n : BitVec 17) (s : State),
    rest s = true →
    gclkOn s = true →
    clean (slotAt s n.toNat) = true →
    ∃ u, exec (.scrubVisit (.slot n {} {})) s = .next u ∧ still u = still (tick s)) ∧
  (∀ (n : BitVec 17) (s : State),
    rest s = true →
    gclkOn s = true →
    clean (slotAt s n.toNat) = true →
    s.res.scrubEn = true →
    fetching s n.toNat = false →
    ∃ u, exec (.scrubVisit (.slot n { ue := true } {})) s = .next u ∧ still u = still (logEvent 0x01 none (n.setWidth 32) 0 0 (putSlot n.toNat (slotAt s n.toNat) { tick s with res := { (tick s).res with ue := sat16 s.res.ue } }))) ∧
  (∀ (a : ArrayId) (w : BitVec 24) (s : State),
    let v : State := logEvent 0x07 (some 0x08) (arraySubject a w) 0 0 { tick s with res := { (tick s).res with ue := sat16 s.res.ue } }
    rest s = true →
    gclkOn s = true →
    a = .pool ∨ a = .ctx →
    ∃ u, exec (.scrubVisit (.array a w .ue)) s = .next u ∧ still u = still (logEvent 0x11 none (arraySubject a w) 0 0 { v with res := { v.res with fatal := true }, pins := { (tick s).pins with fatalN := false } })) ∧
  (∀ (p : Port) (s : State) (f : EgFlit),
    rest s = true →
    gclkOn s = true →
    egPick (tick s) p = some f →
    f.f.two = false ∨ f.half = true →
    ∃ u, exec (.egressTransfer p) s = .next u ∧ still u = still ({ tick s with
      eg := { s.eg with queue := dropFirst (· == f) s.eg.queue, out := tset s.eg.out p.val (f.f, f.half) }
      couch := { s.couch with pend := match f.pend with
        | none => s.couch.pend
        | some i => s.couch.pend.filter (fun a => a.id != i) } }))

/-- PORST_N (constructor porstN) leaves every register at its reset value and every array zeroed, begins SELFTEST with GCLK asked
for, and takes the security state from the life-cycle pin. WARM_RST_N (constructor warmRstN) out of OPEN-AUTH does the same but
keeps TIME, the always-on counters, the last-resort registers, the session count, the pinned streams, the nonce, failures and
LOCKOUT, and raises every incarnation by 1. The loss of the PD_AON supply (constructor pdAonSupplyFails) loses everything.
Commands that wait, waiting accesses and the levels of input pins lie outside the block and stay. -/
def Obligations.ResetsComplete : Prop :=
  (∀ (x : Bool) (s : State),
    s.hb.ports = [] →
    ∃ u, exec (.porstN x) s = .next u ∧ still u = still ({ State.reset with
      pending := s.pending
      clk := (tick s).clk
      regp := { State.reset.regp with stalled := s.regp.stalled }
      sec := { State.reset.sec with st := if x then .sealed_ else .virgin }
      boot := { State.reset.boot with phase := .selftest }
      pins := { State.reset.pins with gclkReq := true, coolantLossN := s.pins.coolantLossN, droop := s.pins.droop }
      pwr := { State.reset.pwr with droopSeen := s.pins.droop } })) ∧
  (∀ (s : State),
    s.hb.ports = [] →
    alive s = true →
    s.sec.st ≠ .openAuth →
    ∃ u, exec (.warmRstN) s = .next u ∧ still u = still ({ State.reset with
      pending := s.pending
      clk := (tick s).clk
      regp := { State.reset.regp with stalled := s.regp.stalled }
      ag := { State.reset.ag with inc := incAll s.ag.inc }
      kt := { State.reset.kt with bad := s.kt.bad }
      couch := { State.reset.couch with takers := s.couch.takers, steppedDown := s.couch.steppedDown, taken := s.couch.taken }
      vat := { State.reset.vat with lostHolders := s.vat.lostHolders }
      felt := { State.reset.felt with
        session := s.felt.session
        streams := (s.felt.streams.filter (·.pinned)).map (fun t => { eth := t.eth, idx := t.idx, peer := t.peer, pinned := true }) }
      res := { State.reset.res with
        lr := s.res.lr, failed := s.res.failed, stuck := s.res.stuck.filter (fun e => e.1 == 2) }
      cal := { s.cal with ppsAlign := false, ppsoEn := false, asymD2d := 0, asymEth := 0, cmdBusy := false, cmdErr := 0 }
      aon := s.aon
      pwr := { State.reset.pwr with warnDeb := s.pwr.warnDeb, droopSeen := s.pins.droop }
      sec := { s.sec with token := none, spoiled := false, lastres := 0 }
      boot := { State.reset.boot with phase := .selftest, warm := true, resetTime := now (tick s), writes := s.boot.writes }
      pins := { State.reset.pins with gclkReq := true, logfailN := s.pins.logfailN, coolantLossN := s.pins.coolantLossN, droop := s.pins.droop } })) ∧
  (∀ (s : State),
    s.hb.ports = [] →
    ∃ u, exec (.pdAonSupplyFails) s = .next u ∧ still u = still ({ State.reset with
      pending := s.pending
      clk := (tick s).clk
      regp := { State.reset.regp with stalled := s.regp.stalled }
      pins := { State.reset.pins with coolantLossN := s.pins.coolantLossN, droop := s.pins.droop }
      pwr := { State.reset.pwr with droopSeen := s.pins.droop, off := true } }))

/-- SELFTEST (constructor selftest) that passes leads to DISCOVER, or to HELD in VIRGIN, and one that fails to FAILED with ERR 1.
DISCOVER (constructor discover) of a flash with its signature and parameter table leads to VERIFY, and of another to FAILED with
ERR 2. VERIFY (constructor verify) of a header that keeps its format, whose key has the fused hash and whose signature is right
leads to LOAD, and of another to FAILED with ERR 3, 4 or 5. LINKWAIT_TIMEOUT (constructor linkwaitTimeout) in LINKS enters RUN
with LINKTO. -/
def Obligations.StartUpCompletes : Prop :=
  (∀ (x : Bool) (s : State),
    rest s = true →
    alive s = true →
    s.boot.phase = .selftest →
    s.regp.stalled = [] →
    ∃ u, exec (.selftest x) s = .next u ∧ still u = still (if x then { tick s with boot := { s.boot with phase := if s.sec.st = .virgin then .held else .discover } } else { tick s with
      boot := { s.boot with
        phase := .failed, err := 1, part := 0
        us := BitVec.ofNat 32 ((now (tick s) - s.boot.resetTime).toNat / 8000) }
      pins := { (tick s).pins with fatalN := false } })) ∧
  (∀ (f : Sfdp) (s : State),
    rest s = true →
    alive s = true →
    s.boot.phase = .discover →
    ∃ u, exec (.discover f) s = .next u ∧ still u = still (if f.signature = 0x50444653 ∧ f.bfpt = true then { tick s with boot := { s.boot with
        phase := .verify, mode114 := f.fast114 && f.quadReq, addr4 := f.addr4only, flash := some f, eraseSize := smallestErase f.erase } }
    else { tick s with
      boot := { s.boot with
        phase := .failed, err := 2, part := 0
        us := BitVec.ofNat 32 ((now (tick s) - s.boot.resetTime).toNat / 8000) }
      pins := { (tick s).pins with fatalN := false } })) ∧
  (∀ (h : BitVec 5120) (s : State),
    let key : BitVec 768 := h.extractLsb' 3584 768
    rest s = true →
    alive s = true →
    s.boot.phase = .verify →
    ∃ u, exec (.verify h) s = .next u ∧ still u = still (match readHeader s.boot.eraseSize h with
    | none => { tick s with
      boot := { s.boot with
        phase := .failed, err := 3, part := 0
        us := BitVec.ofNat 32 ((now (tick s) - s.boot.resetTime).toNat / 8000) }
      pins := { (tick s).pins with fatalN := false } }
    | some d =>
      if Config.sha384 96 key.toNat ≠ Config.rootKeyHash then { tick s with
      boot := { s.boot with
        phase := .failed, err := 4, part := 0
        us := BitVec.ofNat 32 ((now (tick s) - s.boot.resetTime).toNat / 8000) }
      pins := { (tick s).pins with fatalN := false } }
      else if Config.ecdsaP384 key (Config.sha384 544 (h.toNat % 2 ^ 4352)) (h.extractLsb' 4352 768) then
        { tick s with boot := { s.boot with phase := .load, header := some d } }
      else { tick s with
      boot := { s.boot with
        phase := .failed, err := 5, part := 0
        us := BitVec.ofNat 32 ((now (tick s) - s.boot.resetTime).toNat / 8000) }
      pins := { (tick s).pins with fatalN := false } })) ∧
  (∀ (s : State),
    rest { s with boot := { s.boot with phase := .run } } = true →
    s.pwr.off = false →
    s.boot.phase = .links →
    s.boot.stepEnOwed = false →
    ∃ u, exec (.linkwaitTimeout) s = .next u ∧ still u = still ({ tick s with
      boot := { s.boot with
        phase := .run, linkto := true, bubEnOwed := false
        us := BitVec.ofNat 32 ((now (tick s) - s.boot.resetTime).toNat / 8000) }
      pwr := { s.pwr with bubEn := s.pwr.bubEn || s.boot.bubEnOwed }
      felt := { (tick s).felt with streams := s.felt.streams.map (fun t => { t with syncs := 0 }) } }))

/-- A LOAD (constructor load) of a partition without its digest, or of a topology table, a security policy or initial register
values that fail CHECK, fails start-up with ERR 6, 7, 8 or 9. One of good partitions, of a die without pinned streams whose
initial register values give context 0 its table, loads the topology, the policy's limits and the Kind Table, makes context 0
LIVE, releases the sequencers in their roles with their firmware, and enters RUN. -/
def Obligations.LoadCompletes : Prop :=
  (∀ (cal : BitVec 2048) (parts : List (List Byte)) (s : State) (h : Header) (i : Nat),
    rest s = true →
    alive s = true →
    s.boot.phase = .load →
    s.boot.header = some h →
    digestBad h parts = some i →
    ∃ u, exec (.load cal parts) s = .next u ∧ still u = still ({ tick s with
      boot := { s.boot with
        phase := .failed, err := 6, part := BitVec.ofNat 3 i
        us := BitVec.ofNat 32 ((now (tick s) - s.boot.resetTime).toNat / 8000) }
      pins := { (tick s).pins with fatalN := false } })) ∧
  (∀ (cal : BitVec 2048) (parts : List (List Byte)) (s : State) (h : Header),
    rest s = true →
    alive s = true →
    s.boot.phase = .load →
    s.boot.header = some h →
    digestBad h parts = none →
    loadTopo (parts.getD 0 []) = none ∨ loadPolicy (parts.getD 2 []) = none ∨ regsOk (parts.getD 5 []) = false →
    ∃ u, exec (.load cal parts) s = .next u ∧ still u = still ({ tick s with
      boot := { s.boot with
        phase := .failed, imgver := h.imgver
        err := if (loadTopo (parts.getD 0 [])).isNone then 7 else if (loadPolicy (parts.getD 2 [])).isNone then 8 else 9
        part := if (loadTopo (parts.getD 0 [])).isNone || (loadPolicy (parts.getD 2 [])).isNone then 0 else 5
        us := BitVec.ofNat 32 ((now (tick s) - s.boot.resetTime).toNat / 8000) }
      pins := { (tick s).pins with fatalN := false } })) ∧
  (∀ (cal : BitVec 2048) (parts : List (List Byte)) (s : State) (h : Header) (t : Topo) (p : Policy) (v : W32),
    rest s = true →
    alive s = true →
    s.boot.phase = .load →
    s.boot.header = some h →
    digestBad h parts = none →
    loadTopo (parts.getD 0 []) = some t →
    loadPolicy (parts.getD 2 []) = some p →
    regsOk (parts.getD 5 []) = true →
    regsEntries (parts.getD 5 []) = [(0x190C, v)] →
    v ≠ 0 →
    v.toNat ≤ 1048576 →
    s.ctx.sel = 0 →
    s.ctx.tab = [] →
    pinnedStreams t = [] →
    s.boot.stepEnOwed = false →
    ∃ u, exec (.load cal parts) s = .next u ∧ u.boot.phase = .run ∧ u.boot.linkto = false ∧ u.boot.imgver = h.imgver ∧ u.boot.topo = t ∧ u.boot.policy = p ∧
      u.pwr.floor = p.floor ∧ u.pwr.maxup = p.maxup ∧ u.pwr.ttrip = p.ttrip ∧ u.pwr.thalt = p.thalt ∧ u.pwr.maxops = p.maxops ∧
      u.kt.done = true ∧ u.kt.loaded = (loadKinds (parts.getD 1 [])).isOk ∧
      ctxState u 0 = .live ∧ (tgetD u.ctx.tab 0 {}).l1len = v.setWidth 21 ∧ u.felt.streams = [] ∧ u.felt.dieReg = t.die ∧
      (u.sq.sq0.role = h.rolemap ∧ u.sq.sq0.held = false ∧ u.sq.sq0.mem = memWrite 0 (parts.getD (if h.rolemap then 4 else 3) []) []) ∧
      u.sq.sq1.role = !h.rolemap ∧ u.sq.sq1.held = false ∧ u.sq.sq1.mem = memWrite 0 (parts.getD (if h.rolemap then 3 else 4) []) [])

/-- An OP frame (constructor op) heard while the Headbox may grant, whose operation is a SIGNAL, SET, TAKE, GIVE, CAS or INVOKE
that may act on the object of its slot and that the kind accepts without queueing, has its operation carried out in the same
cycle: the object takes the kind's effect and the sender gets the OK response in a FLIT frame. Heard while the Headbox may not
grant, its operation is held for LINK. -/
def Obligations.OperationFrameCompletes : Prop :=
  (∀ (h : FHdr) (o : Byte) (f : Flit) (slot : BitVec 17) (cont : Option (BitVec 256)) (s : State),
    let b : Body := .op o f slot cont
    let v : State := heard h (tick s)
    let n : Nat := slot.toNat
    let op : Op := opOfFrame h.src o f cont
    let r : KRes := kindStep (liveKinds s) (objAt s n) [] op (some f.agent)
    let o' : Obj := setLastsig (objAt s n) r.obj (some f.agent)
    let ans : Body := .flit (respFlit op stOk (if o = opCas then (objAt s n).value else o'.value) (objB o') 0)
    hears h b s = true →
    (o = opSignal ∨ o = opSet ∨ o = opTake ∨ o = opGive ∨ o = opCas ∨ o = opInvoke) →
    canGrant v = true →
    stateGate s o f.ctx = none →
    blocked s (.slot n) = false →
    thirdDead s n = false →
    clean (slotAt s n) = true →
    (objAt s n).kind ≠ 0 →
    kindUnknown s (objAt s n).kind = false →
    listAt s n = [] →
    holdersOf s n = [] →
    ownerOk (objAt s n) f.ctx = true →
    f.noresp = false →
    plain r = true →
    firstInLine op s = true →
    leaves h.src ans v = true →
    ∃ u, exec (.op h o f slot cont) s = .next u ∧ stillArb u = stillArb (sent h.src ans (withObject n o' (bumpAon 0x00 v)))) ∧
  (∀ (h : FHdr) (o : Byte) (f : Flit) (slot : BitVec 17) (cont : Option (BitVec 256)) (s : State),
    let b : Body := .op o f slot cont
    let v : State := heard h (tick s)
    let op : Op := opOfFrame h.src o f cont
    hears h b s = true →
    canGrant v = false →
    ∃ u, exec (.op h o f slot cont) s = .next u ∧ stillArb u = stillArb ({ v with hb := { v.hb with
      link := [.felt op slot.toNat], order := if namesObject o then s.hb.order ++ [placeOf op] else s.hb.order } }))

/-- A FLIT frame (constructor flit) with a response to an operation forwarded for a MESH agent ends that operation's entry and
puts the response in line, counted in the context's NACKS unless OK or DIVERGED; one with a release or bubble goes in line as it
is. A NOTIFY frame (constructor notify) for an agent of its incarnation goes in line with the agent's next notification number,
and for another incarnation without a stub it is dropped and counted. A FREED frame (constructor freed) frees the MIRROR of its
sender and index. -/
def Obligations.DeliveryFramesComplete : Prop :=
  (∀ (h : FHdr) (f : OutFlit) (s : State) (op : Op),
    let b : Body := .flit f
    let v : State := heard h (tick s)
    hears h b s = true →
    f.cls = 1 →
    s.hb.remote = [op] →
    s.hb.order = [placeOf op] →
    answersOp f op = true →
    op.src = .mesh →
    op.opcode ≠ opWatch →
    op.noresp = false →
    s.ag.moves = [] →
    s.ag.resets = [] →
    ∃ u, exec (.flit h f) s = .next u ∧ still u = still (let w := push 2 f none { v with hb := { v.hb with remote := [], order := [] } }
      if f.status = stOk ∨ f.status = stDiverged then w else modCtxCnt f.ctx (fun k => { k with nacks := k.nacks + 1 }) w)) ∧
  (∀ (h : FHdr) (f : OutFlit) (s : State),
    let b : Body := .flit f
    let v : State := heard h (tick s)
    hears h b s = true →
    f.cls ≠ 1 →
    stepOwn s f = false →
    ∃ u, exec (.flit h f) s = .next u ∧ still u = still (push 0 f none v)) ∧
  (∀ (h : FHdr) (f : OutFlit) (s : State),
    let b : Body := .notify f
    let v : State := heard h (tick s)
    let k : BitVec 16 := tgetD s.ag.notif (localIx f.agent) 0
    hears h b s = true →
    onceMirror s h.src f = none →
    f.inc = incOf s f.agent →
    f.fwd = false →
    ∃ u, exec (.notify h f) s = .next u ∧ still u = still (push 1 { f with seq := k } none { v with ag := { v.ag with notif := tput 0 s.ag.notif (localIx f.agent) (k + 1) } })) ∧
  (∀ (h : FHdr) (f : OutFlit) (s : State),
    let b : Body := .notify f
    let v : State := heard h (tick s)
    hears h b s = true →
    onceMirror s h.src f = none →
    f.inc ≠ incOf s f.agent →
    s.ag.stubs = [] →
    ∃ u, exec (.notify h f) s = .next u ∧ still u = still ({ v with wt := { v.wt with dropStale := sat16 s.wt.dropStale } })) ∧
  (∀ (h : FHdr) (idx : BitVec 16) (target : AgentId) (s : State) (ix : Nat),
    let b : Body := .freed idx target
    let v : State := heard h (tick s)
    hears h b s = true →
    mirrorAt s h.src idx = some ix →
    ∃ u, exec (.freed h idx target) s = .next u ∧ still u = still (freeEntry ix v))

/-- A REPORT frame (constructor report) without lanes for a BARRIER of package scope homed here, on a die that serves the package
role, with its translation cached, whose check passes and whose weight leaves the count below THRESH, adds the weight and notes
the sender as counted, with no answer. A RELEASE frame (constructor release) closes the die record open for its epoch and
releases its one arrival with the word and data; a REFUSAL frame (constructor refusal) closes the record of its handle and
releases the arrival with the status. -/
def Obligations.TreeFramesComplete : Prop :=
  (∀ (h : FHdr) (handle : W32) (ctx : CtxId) (epoch : W32) (weight : W32) (desc : Option LaneDesc) (parts : List Partial) (s : State) (x : Xl),
    let b : Body := .report handle ctx epoch weight desc parts
    let v : State := heard h (tick s)
    let rep : Rep := { handle, ctx, epoch, weight, desc, parts }
    let n : Nat := xlSlot x
    let w : State := tcTouch ctx handle v
    let a : ObjArr := tgetD s.couch.objs n {}
    let o' : Obj := { withCount (objAt s n) (countOf (objAt s n) + weight.toNat) with state := 1 }
    hears h b s = true →
    desc = none →
    scopeOf handle = 3 →
    servesPkg s = true →
    tcFind s ctx handle = some x →
    xlHome x = myDie s →
    s.pwr.halted = false →
    s.res.fatal = false →
    ctxState s ctx = .live →
    h.src ≠ myDie s →
    blocked s (.slot n) = false →
    clean (slotAt s n) = true →
    (objAt s n).kind = kBarrier →
    ownerOk (objAt s n) ctx = true →
    kidDup s n rep h.src = false →
    objCheck s n (objAt s n) (arrivalOfRep rep) = stOk →
    countOf (objAt s n) + weight.toNat < (objAt s n).thresh.toNat →
    listAt s n = [] →
    (objAt s n).wmark = false →
    ∃ u, exec (.report h handle ctx epoch weight desc parts) s = .next u ∧ still u = still (withObject n o' { w with couch := { w.couch with objs := tset s.couch.objs n { a with kids := a.kids ++ [h.src], idents := named (ctx, handle) a.idents } } })) ∧
  (∀ (h : FHdr) (handle : W32) (ctx : CtxId) (status : Status) (epoch : W32) (lanes : Bool) (word : W64) (data : BitVec 512) (s : State) (r : DieRec) (a : PendArr),
    let b : Body := .release handle ctx status epoch lanes word data
    let v : State := heard h (tick s)
    hears h b s = true →
    status = stOk →
    s.couch.recs = [r] →
    r.ctx = ctx →
    r.handle = handle →
    r.epoch = epoch →
    s.couch.roles = [] →
    s.couch.pend = [a] →
    a.slot = none →
    a.op.ctx = ctx →
    a.op.handle = handle →
    a.op.src = .mesh →
    a.leaving = false →
    ∃ u, exec (.release h handle ctx status epoch lanes word data) s = .next u ∧ still u = still (push 0 (releaseFlit a.op stOk epoch word data) (some a.id)
      { v with couch := { v.couch with recs := [], pend := [{ a with leaving := true }] } })) ∧
  (∀ (h : FHdr) (handle : W32) (ctx : CtxId) (status : Status) (epoch : W32) (s : State) (r : DieRec) (a : PendArr),
    let b : Body := .refusal handle ctx status epoch
    let v : State := heard h (tick s)
    hears h b s = true →
    s.couch.done = [] →
    s.couch.recs = [r] →
    r.ctx = ctx →
    r.handle = handle →
    s.couch.roles = [] →
    s.couch.pend = [a] →
    a.slot = none →
    a.op.ctx = ctx →
    a.op.handle = handle →
    a.op.src = .mesh →
    a.leaving = false →
    ∃ u, exec (.refusal h handle ctx status epoch) s = .next u ∧ still u = still (push 0 (releaseFlit a.op status epoch 0 0) (some a.id)
      { v with couch := { v.couch with recs := [], pend := [{ a with leaving := true }] } }))

/-- A RETARGET frame (constructor retarget) rewrites target and incarnation of a watch still aimed at the old ones and is
answered WACK with DONE; otherwise WACK without. An UNWATCH_RST frame (constructor unwatchRst) frees a watch aimed at the reset
incarnation, tells the target's die by FREED and is answered WACK with DONE. A WACK frame (constructor wack) that is the last one
a MOVE waits for ends the MOVE: it is answered OK and its stub's lifetime begins; the last one a reset waits for ends the reset's
wait. -/
def Obligations.WatchFramesComplete : Prop :=
  (∀ (h : FHdr) (idx : BitVec 16) (oldInc : Byte) (newInc : Byte) (oldT : AgentId) (newT : AgentId) (s : State) (w : Watch),
    let b : Body := .retarget idx oldInc newInc oldT newT
    let v : State := heard h (tick s)
    let ans : Body := .wack idx true false
    hears h b s = true →
    tget s.wt.entries idx.toNat = some (.watch w) →
    w.target = oldT →
    w.tinc = oldInc →
    leaves h.src ans v = true →
    ∃ u, exec (.retarget h idx oldInc newInc oldT newT) s = .next u ∧ still u = still (sent h.src ans (putEntry idx.toNat (.watch { w with target := newT, tinc := newInc }) v))) ∧
  (∀ (h : FHdr) (idx : BitVec 16) (oldInc : Byte) (newInc : Byte) (oldT : AgentId) (newT : AgentId) (s : State),
    let b : Body := .retarget idx oldInc newInc oldT newT
    let v : State := heard h (tick s)
    let ans : Body := .wack idx false false
    hears h b s = true →
    homeWatch s idx (fun w => w.target == oldT && w.tinc == oldInc) = none →
    leaves h.src ans v = true →
    ∃ u, exec (.retarget h idx oldInc newInc oldT newT) s = .next u ∧ still u = still (sent h.src ans v)) ∧
  (∀ (h : FHdr) (idx : BitVec 16) (oldInc : Byte) (target : AgentId) (s : State) (w : Watch),
    let b : Body := .unwatchRst idx oldInc target
    let v : State := heard h (tick s)
    let gone : Body := .freed idx target
    let ans : Body := .wack idx true true
    let w2 : State := sent h.src gone (bumpIf w.slot (bytesAt s w.slot) (unlink w.slot idx.toNat v))
    hears h b s = true →
    tget s.wt.entries idx.toNat = some (.watch w) →
    w.target = target →
    w.tinc = oldInc →
    dieOf target = h.src →
    holdersOf s w.slot = [] →
    leaves h.src gone v = true →
    leaves h.src ans w2 = true →
    ∃ u, exec (.unwatchRst h idx oldInc target) s = .next u ∧ still u = still (sent h.src ans w2)) ∧
  (∀ (h : FHdr) (idx : BitVec 16) (done : Bool) (rst : Bool) (s : State) (m : Mv),
    let b : Body := .wack idx done rst
    let v : State := heard h (tick s)
    hears h b s = true →
    rst = false →
    s.ag.moves = [m] →
    m.wait = [(h.src, idx)] →
    unanswered s m.x m.xi = false →
    m.op.src = .mesh →
    firstInLine m.op s = true →
    s.ag.resets = [] →
    ∃ u, exec (.wack h idx done rst) s = .next u ∧ still u = still (withResp m.op stOk 0 0 0 { v with ag := { v.ag with
      moves := []
      stubs := s.ag.stubs.map (fun b => if b.live ∧ b.x = m.x ∧ b.xi = m.xi then { b with started := true } else b) } })) ∧
  (∀ (h : FHdr) (idx : BitVec 16) (done : Bool) (rst : Bool) (s : State) (a : AgentId) (inc : Byte),
    let b : Body := .wack idx done rst
    let v : State := heard h (tick s)
    hears h b s = true →
    rst = true →
    s.ag.moves = [] →
    s.ag.resets = [{ agent := a, inc, wait := [(h.src, idx)] }] →
    unanswered s a inc = false →
    ∃ u, exec (.wack h idx done rst) s = .next u ∧ still u = still ({ v with ag := { v.ag with resets := [] } }))

/-- At a die that holds the slot's third copy for the sender, SHADOW_UPD replays a SET (constructor shadowUpdSet), adds and frees
a standby watch (constructors shadowUpdWatchAdd, shadowUpdWatchFree), each of them raising the copy's sequence at least to the
frame's, frees the copy (constructor shadowUpdDestroy) and answers a FETCH whose sequence it has reached with the copy
(constructor shadowUpdFetch). A CREATE in an empty slot (constructor shadowUpdCreate) makes the copy; in a used slot it is
answered with a CONFLICT. At the home the only COPY asked for (constructor shadowUpdCopy) decides three ways; a CONFLICT ends the
object's third copy. -/
def Obligations.ShadowFramesComplete : Prop :=
  (∀ (h : FHdr) (slot : BitVec 17) (seq : BitVec 16) (counting : Bool) (image : Image) (s : State),
    let b : Body := .shadow slot seq (.create counting image)
    let v : State := heard h (tick s)
    let n : Nat := slot.toNat
    let w : State := putSlot n { a := { obj := unpackObj image, seq }, b := { obj := unpackObj image, seq } } v
    hears h b s = true →
    (objAt s n).kind = 0 →
    (slotAt s n).lost = false →
    ∃ u, exec (.shadowUpdCreate h slot seq counting image) s = .next u ∧ still u = still ({ w with vat := { w.vat with third := tset s.vat.third n { home := h.src, counting } } })) ∧
  (∀ (h : FHdr) (slot : BitVec 17) (seq : BitVec 16) (counting : Bool) (image : Image) (s : State),
    let b : Body := .shadow slot seq (.create counting image)
    let v : State := heard h (tick s)
    let n : Nat := slot.toNat
    let w : State := logEvent 0x10 none (BitVec.ofNat 32 n) ((myDie s).setWidth 64) 0 { v with clk := { v.clk with free := s.clk.free + 4 } }
    let f : Nat → W64 := fun i => Config.unstated (s.clk.free + i)
    let ans : Body := .shadow slot seq (.copy false true (((f 0 ++ f 1) ++ f 2) ++ f 3))
    hears h b s = true →
    (objAt s n).kind ≠ 0 ∨ (slotAt s n).lost = true →
    leaves h.src ans w = true →
    ∃ u, exec (.shadowUpdCreate h slot seq counting image) s = .next u ∧ still u = still (sent h.src ans w)) ∧
  (∀ (h : FHdr) (slot : BitVec 17) (seq : BitVec 16) (s : State) (t : Third),
    let b : Body := .shadow slot seq .destroy
    let v : State := heard h (tick s)
    let n : Nat := slot.toNat
    hears h b s = true →
    thirdOf s n h.src = some t →
    listAt s n = [] →
    ∃ u, exec (.shadowUpdDestroy h slot seq) s = .next u ∧ still u = still (clearSlot n { v with vat := { v.vat with third := terase s.vat.third n } })) ∧
  (∀ (h : FHdr) (slot : BitVec 17) (seq : BitVec 16) (value : W64) (s : State) (t : Third),
    let b : Body := .shadow slot seq (.set value)
    let v : State := heard h (tick s)
    let n : Nat := slot.toNat
    let r : KRes := kindStep (liveKinds s) (objAt s n) [] { opcode := opSet, agent := 0, ctx := 0, a := value } none
    hears h b s = true →
    thirdOf s n h.src = some t →
    clean (slotAt s n) = true →
    r.status = stOk →
    ∃ u, exec (.shadowUpdSet h slot seq value) s = .next u ∧ still u = still (catchUp n seq (bumpIf n (bytesAt s n) (putObj n r.obj v)))) ∧
  (∀ (h : FHdr) (slot : BitVec 17) (seq : BitVec 16) (idx : BitVec 16) (comparand : W64) (cond : Byte) (tinc : Byte) (cookie : BitVec 16) (target : AgentId) (ctx : CtxId) (handle : W32) (s : State) (t : Third),
    let b : Body := .shadow slot seq (.watchAdd idx comparand cond tinc cookie target ctx handle)
    let v : State := heard h (tick s)
    let n : Nat := slot.toNat
    let c : BitVec 4 := cond.setWidth 4
    let w : Watch := { slot := n, cond := c, comparand, target, tinc, cookie, ctx, handle, ref := firstRef c comparand }
    let ix : Nat := lowestFreeFrom s.wt.entries 0
    hears h b s = true →
    thirdOf s n h.src = some t →
    entryFree s = true →
    ∃ u, exec (.shadowUpdWatchAdd h slot seq idx comparand cond tinc cookie target ctx handle) s = .next u ∧ still u = still (catchUp n seq (bumpIf n (bytesAt s n) (linkTail n ix (putEntry ix (.standby w h.src idx) v))))) ∧
  (∀ (h : FHdr) (slot : BitVec 17) (seq : BitVec 16) (idx : BitVec 16) (s : State) (t : Third) (ix : Nat) (w : Watch) (d : DieId),
    let b : Body := .shadow slot seq (.watchFree idx)
    let v : State := heard h (tick s)
    let n : Nat := slot.toNat
    hears h b s = true →
    thirdOf s n h.src = some t →
    listAt s n = [ix] →
    tget s.wt.entries ix = some (.standby w d idx) →
    ∃ u, exec (.shadowUpdWatchFree h slot seq idx) s = .next u ∧ still u = still (catchUp n seq (bumpIf n (bytesAt s n) (unlink n ix v)))) ∧
  (∀ (h : FHdr) (slot : BitVec 17) (seq : BitVec 16) (s : State) (t : Third),
    let b : Body := .shadow slot seq .fetch
    let v : State := heard h (tick s)
    let n : Nat := slot.toNat
    let ans : Body := .shadow slot (seqAt s n) (.copy t.counting false (packObj (objAt s n) (wheadAt s n)))
    hears h b s = true →
    thirdOf s n h.src = some t →
    clean (slotAt s n) = true →
    reached (seqAt s n) seq = true →
    leaves h.src ans v = true →
    ∃ u, exec (.shadowUpdFetch h slot seq) s = .next u ∧ still u = still (sent h.src ans v)) ∧
  (∀ (h : FHdr) (slot : BitVec 17) (seq : BitVec 16) (s : State) (t : Third),
    let b : Body := .shadow slot seq .fetch
    let v : State := heard h (tick s)
    let n : Nat := slot.toNat
    hears h b s = true →
    thirdOf s n h.src = some t →
    reached (seqAt s n) seq = false →
    ∃ u, exec (.shadowUpdFetch h slot seq) s = .next u ∧ still u = still ({ v with vat := { v.vat with owed := [{ slot := n, home := h.src, seq }] } })) ∧
  (∀ (h : FHdr) (slot : BitVec 17) (seq : BitVec 16) (counting : Bool) (conflict : Bool) (image : Image) (s : State),
    let b : Body := .shadow slot seq (.copy counting conflict image)
    let v : State := heard h (tick s)
    let n : Nat := slot.toNat
    let x : Slot := slotAt s n
    hears h b s = true →
    conflict = false →
    s.vat.fetch = [{ slot := n, from_ := [h.src], got := [], both := false }] →
    s.qu.held = [] →
    ∃ u, exec (.shadowUpdCopy h slot seq counting conflict image) s = .next u ∧ still u = still (writeBoth n (threeWay x.a.obj x.b.obj (unpackObj image)) x.a.seq
      (logEvent 0x04 none (BitVec.ofNat 32 n) (x.a.seq.setWidth 64) (seq.setWidth 64)
        { v with vat := { v.vat with fetch := [] }, res := { v.res with cmpThree := sat16 s.res.cmpThree } }))) ∧
  (∀ (h : FHdr) (slot : BitVec 17) (seq : BitVec 16) (counting : Bool) (conflict : Bool) (image : Image) (s : State),
    let b : Body := .shadow slot seq (.copy counting conflict image)
    let v : State := heard h (tick s)
    let n : Nat := slot.toNat
    hears h b s = true →
    conflict = true →
    s.vat.fetch = [] →
    ∃ u, exec (.shadowUpdCopy h slot seq counting conflict image) s = .next u ∧ still u = still (bumpIf n (bytesAt s n) (putObj n { objAt s n with shadow := false }
      { v with vat := { v.vat with holders := terase s.vat.holders n } })))

/-- A first QSTART frame (constructor qstart) opens a coordinator record with the quire's homes; a YES QVOTE (constructor qvote)
of the only home, which is the origin, decides COMMIT and sends QDECIDE, the record being kept until that is acknowledged, and
before QSTART the vote is recorded; a QWOUND (constructor qwound) decides ABORT with cause WOUND and sends QDECIDE, that record
being kept too. A QPREP (constructor qprep) of one SIGNAL that this home's object accepts, in a pass of the level the members
show, takes the lock and votes YES. A QDECIDE (constructor qdecide) that aborts ends the quire here: its locks go and QDONE
answers its member QUIRE_ABORTED. A QDONE (constructor qdone) that is the last of a committed quire answers its QOP and its
QCOMMIT and frees its record. -/
def Obligations.QuireFramesComplete : Prop :=
  (∀ (h : FHdr) (key : QKey) (agent : AgentId) (time : W64) (homes : List DieId) (s : State),
    let b : Body := .qstart key agent time homes
    let v : State := heard h (tick s)
    hears h b s = true →
    s.qu.coords = [] →
    ∃ u, exec (.qstart h key agent time homes) s = .next u ∧ still u = still ({ v with qu := { v.qu with coords := [{ key, shadow := !coordServes s key homes, homes := some homes }] } })) ∧
  (∀ (h : FHdr) (key : QKey) (no : Bool) (cause : Byte) (pos : BitVec 4) (status : Status) (s : State) (c : Coord),
    let b : Body := .qvote key no cause pos status
    let v : State := heard h (tick s)
    hears h b s = true →
    no = false →
    s.qu.coords = [c] →
    c = { key, shadow := false } →
    ∃ u, exec (.qvote h key no cause pos status) s = .next u ∧ still u = still ({ v with qu := { v.qu with coords := [{ c with votes := [h.src], yes := [h.src] }] } })) ∧
  (∀ (h : FHdr) (key : QKey) (no : Bool) (cause : Byte) (pos : BitVec 4) (status : Status) (s : State) (c : Coord),
    let b : Body := .qvote key no cause pos status
    let v : State := heard h (tick s)
    let ans : Body := .qdecide key false 0 [h.src]
    hears h b s = true →
    no = false →
    h.src = key.die →
    s.qu.coords = [c] →
    c = { key, shadow := false, homes := some [h.src] } →
    coordShadows s key [h.src] = [] →
    leaves h.src ans v = true →
    ∃ u, exec (.qvote h key no cause pos status) s = .next u ∧ still u = still (sent h.src ans { v with qu := { v.qu with coords :=
      [{ c with votes := [h.src], yes := [h.src], decision := some false, sent := [(s.felt.fid, h.src)] }] } })) ∧
  (∀ (h : FHdr) (key : QKey) (s : State) (c : Coord),
    let b : Body := .qwound key
    let v : State := heard h (tick s)
    let ans : Body := .qdecide key true 7 []
    hears h b s = true →
    h.src = key.die →
    s.qu.coords = [c] →
    c = { key, shadow := false } →
    coordShadows s key [] = [] →
    leaves h.src ans v = true →
    ∃ u, exec (.qwound h key) s = .next u ∧ still u = still (sent h.src ans { v with qu := { v.qu with coords := [{ c with no := some 7, decision := some true, cause := 7, sent := [(s.felt.fid, key.die)] }] } })) ∧
  (∀ (h : FHdr) (key : QKey) (inc : Byte) (agent : AgentId) (coord : DieId) (time : W64) (ctx : CtxId) (members : List QMember) (s : State) (m : QMember),
    let b : Body := .qprep key inc agent coord time ctx members
    let v : State := heard h (tick s)
    let n : Nat := m.slot.toNat
    let op : Op := { opcode := m.inner, agent, inc, ctx, handle := (Config.unstated s.clk.free).setWidth 32, seq := (Config.unstated (s.clk.free + 1)).setWidth 16, a := m.a, b := m.b, src := .felt key.die }
    let hm : HMember := { pos := m.pos.toNat, target := .slot n, slot := n, x := { w0 := 0 }, op }
    let r : KRes := kindStep (liveKinds s) (objAt s n) [] op (some agent)
    let ans : Body := .qvote key false 0 0 0
    let lv : Nat := (prepLevel key coord { v with clk := { v.clk with free := s.clk.free + 2 } }).1
    let w : State := (prepLevel key coord { v with clk := { v.clk with free := s.clk.free + 2 } }).2
    hears h b s = true →
    members = [m] →
    m.inner = opSignal →
    key.die ≠ myDie s →
    s.qu.homes = [] →
    s.qu.locks = [] →
    homeVeto s ctx = none →
    blocked s (.slot n) = false →
    thirdDead s n = false →
    clean (slotAt s n) = true →
    (objAt s n).kind ≠ 0 →
    ownerOk (objAt s n) ctx = true →
    kindUnknown s (objAt s n).kind = false →
    listAt s n = [] →
    plain r = true →
    canGrant v = true →
    voteHosts s lv coord = [coord] →
    leaves coord ans v = true →
    ∃ u, exec (.qprep h key inc agent coord time ctx members) s = .next u ∧ stillArb u = stillArb (sent coord ans { (bumpAon 0x00 w) with
      qu := { v.qu with
        locks := [{ target := .slot n, key, ticket := { time, agent } }]
        homes := [{ key, ticket := { time, agent }, inc, ctx, coord, level := lv, members := [{ hm with done := true }], voted := true }] } })) ∧
  (∀ (h : FHdr) (key : QKey) (abort : Bool) (cause : Byte) (voted : List DieId) (s : State) (q : HomeQ) (m : HMember),
    let b : Body := .qdecide key abort cause voted
    let v : State := heard h (tick s)
    let ans : Body := .qdone key [{ pos := BitVec.ofNat 4 m.pos, status := stQuireAborted, a := 0, b := 0 }]
    hears h b s = true →
    abort = true →
    h.src = key.die →
    shadowsRole s = false →
    (pkgHosts s (myPkg s)).drop 1 ≠ [myDie s] ∨ servesPkg s = true →
    s.qu.coords = [] →
    s.qu.homes = [q] →
    q.key = key →
    q.decision = none →
    q.no = none →
    q.members = [m] →
    s.wt.entries = [] →
    leaves h.src ans v = true →
    ∃ u, exec (.qdecide h key abort cause voted) s = .next u ∧ still u = still (sent h.src ans { v with qu := { v.qu with
      homes := [], locks := s.qu.locks.filter (fun l => l.key != key), parked := s.qu.parked.filter (fun p => p.key != key) } })) ∧
  (∀ (h : FHdr) (key : QKey) (answers : List QAnswer) (s : State) (a : QAnswer) (r : QRec) (m : Member) (cop : Op),
    let b : Body := .qdone key answers
    let v : State := heard h (tick s)
    hears h b s = true →
    key.die = myDie s →
    answers = [a] →
    a.status = stOk →
    a.pos.toNat = m.pos →
    tget s.qu.recs key.qid.toNat = some r →
    r.state = .committed →
    r.wait = [h.src] →
    r.got = [] →
    r.members = [m] →
    r.commit = some cop →
    m.home = h.src →
    m.mirror = none →
    m.op.src = .mesh →
    cop.src = .mesh →
    firstInLine m.op s = true →
    firstInLine cop s = true →
    s.ag.moves = [] →
    s.ag.resets = [] →
    s.pwr.bphase = .none →
    tget s.ag.hold (localIx r.agent) ≠ some r.ticket →
    ∃ u, exec (.qdone h key answers) s = .next u ∧ still u = still (withResp cop stOk 0 0 0 (withResp m.op stOk a.a a.b 0 { v with qu := { v.qu with
      recs := terase s.qu.recs key.qid.toNat, commits := sat16 s.qu.commits } })))

/-- A HEARTBEAT frame (constructor heartbeat) that brings neither a taker nor a change to or from SLEEP stores the peer's power
state and halt. An ACK frame (constructor ack) ends what it acknowledges. A TSYNC REQ (constructor tsyncReq) is answered at once
with its times; a RESP (constructor tsyncResp) of the parent to the exchange under way, in LOCKED, adds its offset and delay to
the group. A FWMSG frame (constructor fwmsg) goes into the INBOX of the sequencer of its role, or, for no role, back as a bounce.
A TAKEOVER frame (constructor takeover) of the die that may take a role adds the taker, counts and logs it. -/
def Obligations.LinkFramesComplete : Prop :=
  (∀ (h : FHdr) (power : BitVec 3) (halted : Bool) (taken : Bool) (time : W64) (s : State) (t : Machine.Stream),
    let b : Body := .heartbeat power halted taken time
    let v : State := heard h (tick s)
    hears h b s = true →
    streamTo s h.src = some t →
    taken = false →
    t.peerPower ≠ 2 →
    power ≠ 2 ∨ t.haltCopies = [] →
    ∃ u, exec (.heartbeat h power halted taken time) s = .next u ∧ still u = still (modStream h.src (fun t => { t with peerPower := power, peerHalted := halted }) v)) ∧
  (∀ (h : FHdr) (s : State),
    let b : Body := .ack
    let v : State := heard h (tick s)
    hears h b s = true →
    ∃ u, exec (.ack h) s = .next u ∧ still u = still (v)) ∧
  (∀ (h : FHdr) (s : State) (t : Machine.Stream) (m : Unacked),
    rest s = true →
    gclkOn s = true →
    s.boot.phase = .run →
    frameOk s h .ack = true →
    streamTo s h.src = some t →
    t.st = .up →
    h.session = t.peerSession →
    t.unacked = [m] →
    isAcked h.ack h.sack m.seq = true →
    bodyType m.body ≠ 0x90 →
    s.vat.heldResp = [] →
    s.qu.coords = [] →
    s.qu.homes = [] →
    s.felt.streams.all (fun t => t.peer != h.src || !t.closeOwed) = true →
    ∃ u, exec (.ack h) s = .next u ∧ still u = still (heard h (tick s))) ∧
  (∀ (h : FHdr) (xn : Byte) (t1 : W64) (s : State),
    let b : Body := .tsyncReq xn t1
    let v : State := heard h (tick s)
    hears h b s = true →
    s.res.fatal = false →
    ∃ u, exec (.tsyncReq h xn t1) s = .next u ∧ still u = still (told h.src (.tsyncResp xn (calCode s.cal.st) t1 (now (tick s)) (now (tick s))) v)) ∧
  (∀ (h : FHdr) (xn : Byte) (state : BitVec 2) (t1 : W64) (t2 : W64) (t3 : W64) (s : State),
    let b : Body := .tsyncResp xn state t1 t2 t3
    let v : State := heard h (tick s)
    let a : Int := (t2 - t1).toInt
    let c : Int := (now (tick s) - t3).toInt
    let asym : Int := if pkgOf h.src = myPkg s then s.cal.asymD2d.toInt else s.cal.asymEth.toInt
    hears h b s = true →
    parentDie s = some h.src →
    xn = s.cal.xn →
    s.cal.sentT1 = some t1 →
    s.cal.st = .locked →
    s.cal.group.length < 9 →
    ∃ u, exec (.tsyncResp h xn state t1 t2 t3) s = .next u ∧ still u = still ({ v with cal := { v.cal with
      sentT1 := none, parentLocked := state == 3, group := s.cal.group ++ [((a - c - asym) / 2, (a + c) / 2)] } })) ∧
  (∀ (h : FHdr) (dst : Byte) (role : Byte) (tag : BitVec 16) (bounce : Bool) (msg : List W64) (s : State) (n : Nat),
    let b : Body := .fwmsg dst role tag bounce msg
    let v : State := heard h (tick s)
    hears h b s = true →
    sqOfRole s dst = some n →
    sqRuns (sqAt s n) = true →
    (sqAt s n).msgs < 32 →
    ∃ u, exec (.fwmsg h dst role tag bounce msg) s = .next u ∧ still u = still (modSq n (storeMsg { src := h.src, dstRole := dst, srcRole := role, tag, bounce, msg }) v)) ∧
  (∀ (h : FHdr) (dst : Byte) (role : Byte) (tag : BitVec 16) (bounce : Bool) (msg : List W64) (s : State),
    let b : Body := .fwmsg dst role tag bounce msg
    let v : State := heard h (tick s)
    let ans : Body := .fwmsg role dst tag true []
    hears h b s = true →
    sqOfRole s dst = none →
    bounce = false →
    leaves h.src ans v = true →
    ∃ u, exec (.fwmsg h dst role tag bounce msg) s = .next u ∧ still u = still (sent h.src ans v)) ∧
  (∀ (h : FHdr) (role : Byte) (primary : DieId) (time : W64) (s : State),
    let b : Body := .takeover role primary time
    let v : State := heard h (tick s)
    hears h b s = true →
    primary ≠ myDie s →
    takerAllowed s role primary h.src = true →
    s.couch.takers.any (fun t => t.role == role && t.primary == primary) = false →
    (streamTo s primary).any (fun t => t.st == .up) = false →
    s.felt.peerHeld = [] →
    ∃ u, exec (.takeover h role primary time) s = .next u ∧ still u = still (logEvent 0x0E none (primary.setWidth 32) (role.setWidth 64) 0 (bumpAon 0x12
      { v with couch := { v.couch with takers := s.couch.takers ++ [{ role, primary, taker := h.src }] } })))

/-- A SYNC frame (constructor sync) to a stream that is closed here, or in SYNC with a sender of no higher ID, opens the stream
UP with a new session and answers SYNC_ACK. A SYNC_ACK frame (constructor syncAck) to a stream in SYNC brings it UP with the
peer's session and credit. A WAKE frame (constructor wake) asks for the exit from SLEEP, and out of SLEEP does nothing. A HALT
frame (constructor haltFrame) whose origin and time are new halts a die without quires with the frame's cause, drives HALT_OUT,
logs it and tells the sender by a HEARTBEAT; one that is remembered does nothing more. -/
def Obligations.StreamsOpen : Prop :=
  (∀ (h : FHdr) (s : State) (t : Machine.Stream),
    let w : State := tick s
    let n : BitVec 16 := s.felt.session + 1
    let ans : FHdr := { src := myDie s, dst := h.src, session := n, credit := initCredit t.eth }
    rest s = true →
    gclkOn s = true →
    s.boot.phase = .run →
    frameOk s h .sync = true →
    h.close = false →
    streamTo s h.src = some t →
    t.st = .closed ∨ (t.st = .sync ∧ h.src.toNat ≤ (myDie s).toNat) →
    t.unacked = [] →
    s.res.fatal = false →
    ∃ u, exec (.sync h) s = .next u ∧ still u = still (modStream h.src (fun t => { t with
      st := .up, mySession := n, peerSession := h.session, next := 0, exp := 0, unacked := [], held := []
      credit := h.credit, granted := initCredit t.eth, peerCwait := h.cwait, lastRecv := now w, syncs := 0
      ackOwed := false, closeOwed := false, lastSent := now w, used := w.clk.cycle })
      { w with felt := { w.felt with session := n, wire := [{ h := ans, body := .syncAck, idx := t.idx }] } })) ∧
  (∀ (h : FHdr) (s : State) (t : Machine.Stream),
    rest s = true →
    gclkOn s = true →
    s.boot.phase = .run →
    frameOk s h .syncAck = true →
    h.close = false →
    streamTo s h.src = some t →
    t.st = .sync →
    t.closeOwed = false →
    ∃ u, exec (.syncAck h) s = .next u ∧ still u = still (modStream h.src (fun t => { t with
      st := .up, peerSession := h.session, credit := h.credit, next := 0, exp := 0, held := [], lastRecv := now (tick s)
      peerCwait := h.cwait, syncs := 0 }) (tick s))) ∧
  (∀ (h : FHdr) (s : State),
    rest s = true →
    s.boot.phase = .run →
    s.pwr.off = false →
    s.pwr.st = .sleep →
    frameOk s h .wake = true →
    wakeLate s h = false →
    ∃ u, exec (.wake h) s = .next u ∧ still u = still ({ tick s with pwr := { s.pwr with wake := true } })) ∧
  (∀ (h : FHdr) (s : State),
    rest s = true →
    gclkOn s = true →
    s.boot.phase = .run →
    frameOk s h .wake = true →
    wakeLate s h = false →
    ∃ u, exec (.wake h) s = .next u ∧ still u = still (tick s)) ∧
  (∀ (h : FHdr) (origin : DieId) (cause : Byte) (time : W64) (s : State) (t : Machine.Stream),
    let b : Body := .halt origin cause time
    let v : State := heard h (tick s)
    hears h b s = true →
    s.felt.halts.contains (origin, time) = false →
    s.pwr.halted = false →
    s.res.fatal = false →
    s.qu.recs = [] →
    s.felt.streams = [t] →
    ∃ u, exec (.haltFrame h origin cause time) s = .next u ∧ still u = still (logEvent 0x14 none (origin.setWidth 32) (cause.setWidth 64) 0
      (told h.src (.heartbeat (powerNow s) true s.couch.taken (now (tick s))) { v with
        pwr := { v.pwr with halted := true, hcause := cause }
        pins := { v.pins with haltOut := true }
        felt := { v.felt with halts := (s.felt.halts ++ [(origin, time)]).drop (s.felt.halts.length + 1 - 16) } }))) ∧
  (∀ (h : FHdr) (origin : DieId) (cause : Byte) (time : W64) (s : State),
    let b : Body := .halt origin cause time
    let v : State := heard h (tick s)
    hears h b s = true →
    s.felt.halts.contains (origin, time) = true →
    ∃ u, exec (.haltFrame h origin cause time) s = .next u ∧ still u = still (v))

/-- A datagram (constructor datagramRx) that finds the buffer full is counted in GS_ETH_RXDROP, one with a bad frame check
sequence as a CRC error, one whose headers are wrong as a header error; one that holds an ACK frame alone has that frame's effect.
A cell (constructor d2dCellRx) that finds the buffer full is counted in GS_D2D_RXDROP, one without SOF when no frame is open as a
CRC error; one that holds a whole frame is kept, and an idle cycle after it that finds no further cell hands its ACK over. A frame
that FELT_SEND sends leaves as cells to a die of this package and as a datagram to one of another. -/
def Obligations.CarriersComplete : Prop :=
  (∀ (bytes : List Byte) (err full : Bool) (s : State),
    rest s = true →
    gclkOn s = true →
    s.boot.phase = .run →
    full = true →
    ∃ u, exec (.datagramRx bytes err full) s = .next u ∧ still u = still ({ tick s with regp := { s.regp with ethDrop := sat16 s.regp.ethDrop } })) ∧
  (∀ (bytes : List Byte) (s : State),
    rest s = true →
    gclkOn s = true →
    s.boot.phase = .run →
    ∃ u, exec (.datagramRx bytes true false) s = .next u ∧ still u = still ({ tick s with felt := { (tick s).felt with errCrc := sat16 s.felt.errCrc } })) ∧
  (∀ (bytes : List Byte) (s : State),
    rest s = true →
    gclkOn s = true →
    s.boot.phase = .run →
    readDatagram s bytes = none →
    ∃ u, exec (.datagramRx bytes false false) s = .next u ∧ still u = still ({ tick s with felt := { (tick s).felt with errHdr := sat16 s.felt.errHdr } })) ∧
  (∀ (bytes fb : List Byte) (h : FHdr) (s : State),
    readDatagram s bytes = some [fb] →
    crcGood fb = true →
    readFrame fb = some (h, .ack) →
    hears h .ack s = true →
    ∃ u, exec (.datagramRx bytes false false) s = .next u ∧ still u = still (heard h (tick s))) ∧
  (∀ (p : BitVec 4) (sof err : Bool) (cell : BitVec 512) (s : State),
    rest s = true →
    gclkOn s = true →
    s.boot.phase = .run →
    p.toNat ≠ (myDie s).toNat % 16 →
    ∃ u, exec (.d2dCellRx p sof err true cell) s = .next u ∧ still u = still ({ tick s with regp := { s.regp with d2dDrop := sat16 s.regp.d2dDrop } })) ∧
  (∀ (p : BitVec 4) (err : Bool) (cell : BitVec 512) (s : State),
    rest s = true →
    gclkOn s = true →
    s.boot.phase = .run →
    p.toNat ≠ (myDie s).toNat % 16 →
    tget s.felt.rx p.toNat = none →
    ∃ u, exec (.d2dCellRx p false err false cell) s = .next u ∧ still u = still ({ tick s with felt := { (tick s).felt with errCrc := sat16 s.felt.errCrc } })) ∧
  (∀ (p : BitVec 4) (cell : BitVec 512) (s : State),
    p.toNat ≠ (myDie s).toNat % 16 →
    tget s.felt.rx p.toNat = none →
    cellLen cell % 8 = 0 →
    32 ≤ cellLen cell →
    cellLen cell ≤ 64 →
    rest s = true →
    gclkOn s = true →
    s.boot.phase = .run →
    ∃ u, exec (.d2dCellRx p true false false cell) s = .next u ∧ still u = still ({ tick s with
      felt := { (tick s).felt with rx := tset s.felt.rx p.toNat { bad := false, cells := [cell], full := some (s.clk.cycle + 1) } } })) ∧
  (∀ (p : Nat) (cell : BitVec 512) (k : Nat) (fb : List Byte) (h : FHdr) (s : State),
    let t : State := { s with felt := { s.felt with rx := [] } }
    s.pending = [] →
    s.felt.rx = [(p, { bad := false, cells := [cell], full := some k })] →
    k + 4 ≤ s.clk.cycle →
    fb = (toBytes 64 cell.toNat).take (cellLen cell) →
    crcGood fb = true →
    readFrame fb = some (h, .ack) →
    hears h .ack t = true →
    ∃ u, step s = .next u ∧ still u = still (heard h (tick t))) ∧
  (∀ (f : TxFrame) (s : State) (t : Machine.Stream),
    let w : WireFrame := { h := mkHdr { tick s with felt := { (tick s).felt with txq := [] } } t true false false t.next, body := f.body, idx := t.idx }
    s.felt.txq = [f] →
    rest { s with felt := { s.felt with txq := [] } } = true →
    streamTo s f.dst = some t →
    canSend s t f.body = true →
    ∃ u, exec (.feltSend) s = .next u ∧ (pkgOf f.dst = pkgOf (myDie s) → u.felt.d2dTx = cellsOf w ∧ u.felt.ethTx = []) ∧
      (pkgOf f.dst ≠ pkgOf (myDie s) → u.felt.d2dTx = [] ∧
        u.felt.ethTx = [datagramOf s f.dst t.idx [frameBytes w.h w.body]]))

/-- FELT_SEND (constructor feltSend) sends the one frame that waits once its stream lets it. DELAYED_ACK (constructor delayedAck)
sends the ACK that is owed. RETRANSMIT_TIMER (constructor retransmitTimer) sends a frame again 8 us after its last transmission
and counts it. HEARTBEAT_TIMER (constructor heartbeatTimer) sends a HEARTBEAT after 1 us without a frame. SYNC_RESEND
(constructor syncResend) sends SYNC again with a new session. WAKE_RESEND (constructor wakeResend) sends WAKE again to a peer in
SLEEP. HALT_COPY_TIMER (constructor haltCopyTimer) sends the next copy of HALT. STREAM_SEEK_RETRY (constructor streamSeekRetry)
opens a stream with a free Ethernet entry. STREAM_SILENCE_TIMEOUT (constructor streamSilenceTimeout) takes a stream DOWN whose
peer has no role, copy or quire here, sets the DOWN bits and logs LINK_DOWN. -/
def Obligations.LinkTimersComplete : Prop :=
  (∀ (s : State) (f : TxFrame) (t : Machine.Stream),
    let w : State := tick s
    s.felt.txq = [f] →
    rest { s with felt := { s.felt with txq := [] } } = true →
    streamTo s f.dst = some t →
    canSend s t f.body = true →
    ∃ u, exec (.feltSend) s = .next u ∧ still u = still (modStream f.dst (fun u => { u with
      lastSent := now w, ackOwed := false, used := w.clk.cycle, next := u.next + 1
      unacked := u.unacked ++ [{ fid := f.fid, seq := t.next, body := f.body, last := now w, count := 1 }] })
      { w with felt := { w.felt with txq := [], wire := [{ h := mkHdr { w with felt := { w.felt with txq := [] } } t true false false t.next, body := f.body, idx := t.idx }] } })) ∧
  (∀ (peer : DieId) (s : State) (t : Machine.Stream),
    rest s = true →
    s.pwr.st ≠ .doze →
    txAllowed s = true →
    streamTo s peer = some t →
    t.ackOwed = true →
    ∃ u, exec (.delayedAck peer) s = .next u ∧ still u = still (told peer .ack (tick s))) ∧
  (∀ (peer : DieId) (seq : W32) (s : State) (t : Machine.Stream) (m : Unacked),
    let w : State := tick s
    rest s = true →
    gclkOn s = true →
    streamTo s peer = some t →
    canResend s t = true →
    t.unacked = [m] →
    m.seq = seq →
    m.count < 4 →
    64000 ≤ since (tick s) m.last →
    ∃ u, exec (.retransmitTimer peer seq) s = .next u ∧ still u = still (modStream peer (fun u => { u with
      lastSent := now w, ackOwed := false, used := w.clk.cycle
      unacked := u.unacked.map (fun v => if v.seq = seq then { v with last := now w, count := v.count + 1 } else v) })
      (bumpAon 0x11 { w with felt := { w.felt with
        retxTimer := sat16 s.felt.retxTimer, wire := [{ h := mkHdr w t true true false seq, body := m.body, idx := t.idx }] } }))) ∧
  (∀ (peer : DieId) (s : State) (t : Machine.Stream),
    rest s = true →
    gclkOn s = true →
    txAllowed s = true →
    streamTo s peer = some t →
    beatStream t = true →
    8000 ≤ since (tick s) t.lastSent →
    ∃ u, exec (.heartbeatTimer peer) s = .next u ∧ still u = still (told peer (.heartbeat (powerNow s) s.pwr.halted s.couch.taken (now (tick s))) (tick s))) ∧
  (∀ (peer : DieId) (s : State) (t : Machine.Stream),
    let w : State := tick s
    let n : BitVec 16 := s.felt.session + 1
    let q : FHdr := { src := myDie s, dst := peer, session := n, credit := initCredit t.eth }
    rest s = true →
    gclkOn s = true →
    txAllowed s = true →
    streamTo s peer = some t →
    t.st = .sync →
    t.peerPower ≠ 2 →
    t.syncs < 4 →
    64000 ≤ since (tick s) t.lastSent →
    ∃ u, exec (.syncResend peer) s = .next u ∧ still u = still (modStream peer (fun t => { t with
      st := .sync, mySession := n, next := 0, exp := 0, granted := initCredit t.eth, credit := 0, held := [], syncs := t.syncs + 1
      lastSent := now w, ackOwed := false, used := w.clk.cycle })
      { w with felt := { w.felt with session := n, wire := [{ h := q, body := .sync, idx := t.idx }] } })) ∧
  (∀ (peer : DieId) (s : State) (t : Machine.Stream),
    rest s = true →
    gclkOn s = true →
    txAllowed s = true →
    streamTo s peer = some t →
    t.peerPower = 2 →
    t.st ≠ .down →
    t.unacked ≠ [] ∨ t.haltCopies ≠ [] →
    8000 ≤ since (tick s) t.lastSent →
    ∃ u, exec (.wakeResend peer) s = .next u ∧ still u = still (told peer .wake (tick s))) ∧
  (∀ (peer : DieId) (s : State) (t : Machine.Stream) (k : Nat) (b : Body),
    rest s = true →
    s.pwr.st ≠ .doze →
    txAllowed s = true →
    streamTo s peer = some t →
    t.peerPower ≠ 2 →
    t.haltCopies = [(k, b)] →
    ∃ u, exec (.haltCopyTimer peer) s = .next u ∧ still u = still (modStream peer (fun u => { u with haltCopies := if k ≤ 1 then [] else [(k - 1, b)] }) (told peer b (tick s)))) ∧
  (∀ (peer : DieId) (s : State) (f : TxFrame) (i : Nat),
    let w : State := tick s
    let n : BitVec 16 := s.felt.session + 1
    let q : FHdr := { src := myDie s, dst := peer, session := n, credit := 4 }
    s.felt.txq = [f] →
    f.dst = peer →
    rest { s with felt := { s.felt with txq := [] } } = true →
    gclkOn s = true →
    txAllowed s = true →
    streamTo s peer = none →
    seeks (tick s) peer f.body = true →
    pkgOf peer ≠ pkgOf (myDie s) →
    freeEthIdx s = some i →
    ∃ u, exec (.streamSeekRetry peer) s = .next u ∧ still u = still ({ w with felt := { w.felt with
      session := n
      wire := [{ h := q, body := .sync, idx := i }]
      streams := s.felt.streams ++ [{ eth := true, idx := i, peer, st := .sync, mySession := n, granted := 4, syncs := 1
                                      lastSent := now w, used := w.clk.cycle }] } })) ∧
  (∀ (peer : DieId) (cause : DownCause) (s : State) (t : Machine.Stream),
    let w : State := tick s
    rest s = true →
    gclkOn s = true →
    streamTo s peer = some t →
    downDue (tick s) t cause = true →
    t.unacked = [] →
    s.felt.streams.filter (fun u => u.peer == peer) = [t] →
    shadowsPkgOf s peer = false →
    shadowedRoles s peer = [] →
    parentDie s ≠ some peer →
    s.vat.holders.any (fun e => e.2.contains peer) = false →
    s.qu.recs = [] →
    ∃ u, exec (.streamSilenceTimeout peer cause) s = .next u ∧ still u = still (logEvent 0x0D (some 0x06) (peer.setWidth 32) (BitVec.ofNat 64 (downCode cause + 2 ^ 8 * bit t.eth)) 0
      (modStream peer (fun u => { u with
        st := .down, downAt := now w, held := [], unacked := [], ackOwed := false, closeOwed := false
        haltCopies := if u.eth then [] else u.haltCopies })
        { w with felt := { w.felt with
          downEth := s.felt.downEth || t.eth
          downD2d := if t.eth then s.felt.downD2d else s.felt.downD2d ||| (1#16 <<< (peer.toNat % 16)) } })))

/-- PEER_DOWN_HOLD_TIMEOUT (constructor peerDownHoldTimeout) without a taker answers RETRY to the operation held for the failed
die. COPY_ANSWER_TIMEOUT (constructor copyAnswerTimeout) sends the copy that a FETCH still waits for. THIRD_COPY_TIMEOUT
(constructor thirdCopyTimeout) without an answer makes the slot LOST where both copies were bad, and DIVERGED otherwise.
QUIRE_TIMEOUT (constructor quireTimeout) of an undecided coordinator record decides ABORT with cause TIMEOUT, sends QDECIDE and
frees the record; of a shadow's record it frees it. -/
def Obligations.FailoverTimersComplete : Prop :=
  (∀ (peer : DieId) (s : State) (f : TxFrame) (o : Byte) (fl : Flit) (slot : BitVec 17) (cont : Option (BitVec 256)) (op : Op),
    rest s = true →
    s.pwr.st ≠ .doze →
    (streamTo s peer).all (fun t => t.st != .down || decide (16000 ≤ since (tick s) t.downAt)) = true →
    s.felt.peerHeld = [(peer, f)] →
    f.body = .op o fl slot cont →
    remoteOf s o fl = some op →
    s.hb.remote = [op] →
    s.hb.order = [placeOf op] →
    op.src = .mesh →
    mirrorOf s op = none →
    s.ag.moves = [] →
    s.ag.resets = [] →
    ∃ u, exec (.peerDownHoldTimeout peer) s = .next u ∧ still u = still (modCtxCnt op.ctx (fun k => { k with nacks := k.nacks + 1 }) (push 2 (respFlit op stRetry 0 0 0) none (bumpAon stRetry.toNat
      { tick s with hb := { (tick s).hb with remote := [], order := [] }, felt := { (tick s).felt with peerHeld := [] } })))) ∧
  (∀ (slot : BitVec 17) (s : State) (o : CopyOwed),
    let n : Nat := slot.toNat
    let ans : Body := .shadow slot (seqAt s n) (.copy ((thirdAt s n).any (·.counting)) false (packObj (objAt s n) (wheadAt s n)))
    s.vat.owed = [o] →
    o.slot = slot.toNat →
    rest { s with vat := { s.vat with owed := [] } } = true →
    gclkOn s = true →
    clean (slotAt s slot.toNat) = true →
    leaves o.home ans s = true →
    ∃ u, exec (.copyAnswerTimeout slot) s = .next u ∧ still u = still (sent o.home ans { tick s with vat := { s.vat with owed := [] } })) ∧
  (∀ (slot : BitVec 17) (s : State) (f : FetchWait),
    let v : State := { tick s with vat := { s.vat with fetch := [] } }
    rest s = true →
    gclkOn s = true →
    s.vat.fetch = [f] →
    f.slot = slot.toNat →
    f.got = [] →
    s.qu.held = [] →
    ∃ u, exec (.thirdCopyTimeout slot) s = .next u ∧ still u = still (if f.both then markLost slot.toNat v else bumpSeq slot.toNat (markDiverged slot.toNat v))) ∧
  (∀ (key : QKey) (s : State) (c : Coord),
    let ans : Body := .qdecide key true 0xA []
    rest s = true →
    gclkOn s = true →
    s.qu.coords = [c] →
    c = { key, shadow := false } →
    coordShadows s key [] = [] →
    leaves key.die ans s = true →
    ∃ u, exec (.quireTimeout key) s = .next u ∧ still u = still (sent key.die ans { tick s with qu := { s.qu with coords := [] } })) ∧
  (∀ (key : QKey) (s : State) (c : Coord),
    rest s = true →
    gclkOn s = true →
    s.qu.coords = [c] →
    c.key = key →
    c.shadow = true →
    ∃ u, exec (.quireTimeout key) s = .next u ∧ still u = still ({ tick s with qu := { s.qu with coords := [] } }))

/-- What the kind engine does with an event of nonzero amount: SEMAPHORE grants, refuses and queues TAKE and answers GIVE and
SIGNAL, serving a waiting TAKE from what it returns; EVENT sets, and grants one waiting TAKE; FENCECTR only rises; RING advances
its counters and realigns; MONOPAIR keeps its window; TICKETLOCK serves in ticket order. -/
def Obligations.KindTables : Prop :=
  (∀ (ks : List UKind) (o : Obj) (op : Op) (who : Option AgentId),
    o.kind = kSemaphore →
    op.opcode = opTake →
    op.a ≠ 0 →
    o.state = 0 ∨ o.state = 1 →
    kindStep ks o [] op who =
      if o.thresh ≠ 0 ∧ o.thresh.toNat < op.a.toNat then refuse o stKindReject
      else if o.state = 0 ∧ op.a.toNat ≤ o.value.toNat then { obj := { o with value := o.value - op.a, state := 0 } }
      else if tryBit op then refuse o stKindReject else { obj := { o with state := 1 }, queue := true }) ∧
  (∀ (ks : List UKind) (o : Obj) (op : Op) (who : Option AgentId),
    o.kind = kSemaphore →
    op.opcode = opGive →
    op.a ≠ 0 →
    kindStep ks o [] op who =
      if 2 ^ 64 ≤ o.value.toNat + op.a.toNat ∨ (o.thresh ≠ 0 ∧ o.thresh.toNat < o.value.toNat + op.a.toNat) then refuse o stOverflow
      else { obj := { o with value := o.value + op.a, state := 0 } }) ∧
  (∀ (ks : List UKind) (o : Obj) (op : Op) (who : Option AgentId) (h : QEnt),
    o.kind = kSemaphore →
    op.opcode = opSignal →
    op.a ≠ 0 →
    kindStep ks o [h] op who =
      if 2 ^ 64 ≤ o.value.toNat + op.a.toNat ∨ (o.thresh ≠ 0 ∧ o.thresh.toNat < o.value.toNat + op.a.toNat) then refuse o stOverflow
      else if h.op.a.toNat ≤ o.value.toNat + op.a.toNat then { obj := { o with value := o.value + op.a - h.op.a, state := 0 }, grants := [h.ix] }
      else { obj := { o with value := o.value + op.a, state := 1 } }) ∧
  (∀ (ks : List UKind) (o : Obj) (op : Op) (who : Option AgentId),
    o.kind = kEvent →
    op.opcode = opSignal →
    op.a ≠ 0 →
    o.state = 0 ∨ o.state = 1 →
    kindStep ks o [] op who =
      { obj := { o with value := o.value + op.a, state := 1, epoch := if o.state = 0 then o.epoch + 1 else o.epoch } }) ∧
  (∀ (ks : List UKind) (o : Obj) (op : Op) (who : Option AgentId) (h : QEnt) (l : List QEnt),
    o.kind = kEvent →
    op.opcode = opSignal →
    op.a ≠ 0 →
    o.state = 0 →
    kindStep ks o (h :: l) op who =
      { obj := { o with value := o.value + op.a, state := 0, epoch := o.epoch + 1 }, grants := [h.ix] }) ∧
  (∀ (ks : List UKind) (o : Obj) (op : Op) (who : Option AgentId),
    o.kind = kEvent →
    op.opcode = opTake →
    op.a ≠ 0 →
    kindStep ks o [] op who =
      if op.a ≠ 1 then refuse o stKindReject else if o.state = 1 then { obj := { o with state := 0 } }
      else if tryBit op then refuse o stKindReject else { obj := o, queue := true }) ∧
  (∀ (ks : List UKind) (o : Obj) (op : Op) (who : Option AgentId),
    o.kind = kFenceCtr →
    op.opcode = opSignal →
    op.a ≠ 0 →
    kindStep ks o [] op who =
      if 2 ^ 64 ≤ o.value.toNat + op.a.toNat then refuse o stOverflow
      else { obj := { o with value := o.value + op.a, epoch := o.epoch + 1 } }) ∧
  (∀ (ks : List UKind) (o : Obj) (op : Op) (who : Option AgentId),
    o.kind = kMonoPair →
    op.opcode = opSignal →
    op.a ≠ 0 →
    kindStep ks o [] op who =
      if 2 ^ 64 ≤ o.value.toNat + op.a.toNat ∨ o.thresh.toNat + (o.kflags.toNat + 1) < o.value.toNat + op.a.toNat then refuse o stOverflow
      else { obj := { o with value := o.value + op.a } }) ∧
  (∀ (ks : List UKind) (o : Obj) (op : Op) (who : Option AgentId),
    o.kind = kMonoPair →
    op.opcode = opGive →
    op.a ≠ 0 →
    kindStep ks o [] op who =
      if o.value.toNat < o.thresh.toNat + op.a.toNat then refuse o stOverflow
      else { obj := { o with thresh := o.thresh + op.a, epoch := o.epoch + 1 } }) ∧
  (∀ (ks : List UKind) (o : Obj) (op : Op) (who : Option AgentId) (x' : W64),
    o.kind = kTicketLock →
    op.opcode = opTake →
    op.a ≠ 0 →
    x' = o.value.extractLsb' 32 32 ++ (o.value.extractLsb' 0 32 + 1) →
    kindStep ks o [] op who =
      if op.a ≠ 1 then refuse o stKindReject
      else if o.state = 1 then (if tryBit op then refuse o stKindReject else { obj := { o with value := x', state := 1 }, queue := true })
      else { obj := { o with value := x', state := 1, lastsig := op.agent } }) ∧
  (∀ (ks : List UKind) (o : Obj) (op : Op) (who : Option AgentId),
    o.kind = kTicketLock →
    op.opcode = opGive →
    op.a ≠ 0 →
    kindStep ks o [] op who =
      if op.a ≠ 1 ∨ o.state = 0 ∨ who ≠ some o.lastsig then refuse o stKindReject
      else { obj := { o with value := (o.value.extractLsb' 32 32 + 1) ++ o.value.extractLsb' 0 32, state := 0 } })

/-- An event that a kind accepts leaves KIND, OWNER, KFLAGS and the FLAGS bits as they were. SEMAPHORE and TOKENPOOL stay at or
below a nonzero THRESH. A FENCECTR never falls, and its epoch rises by 1 exactly with VALUE. An EVENT is not SET while a TAKE
waits. A RING keeps f at or below c, c at or below h, h at or below N + f and at or below M, and is AT_MARK exactly while h = M.
A MONOPAIR keeps C at or below P and P at or below C + b. A TICKETLOCK is FREE exactly while x = s, and HELD with as many TAKEs
waiting as tickets drawn and not yet served. -/
def Obligations.KindRulesKept : Prop :=
  (∀ (ks : List UKind) (o : Obj) (q : List QEnt) (op : Op) (who : Option AgentId),
    let r : KRes := kindStep ks o q op who
    r.status = stOk →
    { r.obj with state := o.state, epoch := o.epoch, value := o.value, thresh := o.thresh, lastsig := o.lastsig } = o) ∧
  (∀ (ks : List UKind) (o : Obj) (q : List QEnt) (op : Op) (who : Option AgentId),
    let r : KRes := kindStep ks o q op who
    o.kind = kSemaphore ∨ o.kind = kTokenPool →
    o.thresh ≠ 0 →
    o.value.toNat ≤ o.thresh.toNat →
    r.status = stOk →
    r.obj.thresh = o.thresh ∧ r.obj.value.toNat ≤ o.thresh.toNat) ∧
  (∀ (ks : List UKind) (o : Obj) (q : List QEnt) (op : Op) (who : Option AgentId),
    let r : KRes := kindStep ks o q op who
    o.kind = kFenceCtr →
    r.status = stOk →
    o.value.toNat ≤ r.obj.value.toNat ∧ r.obj.epoch = (if o.value.toNat < r.obj.value.toNat then o.epoch + 1 else o.epoch)) ∧
  (∀ (ks : List UKind) (o : Obj) (q : List QEnt) (op : Op) (who : Option AgentId),
    let r : KRes := kindStep ks o q op who
    o.kind = kEvent →
    o.state = 0 ∨ (o.state = 1 ∧ q = []) →
    r.status = stOk →
    r.obj.state = 0 ∨ (r.obj.state = 1 ∧ r.queue = false ∧ q = [])) ∧
  (∀ (ks : List UKind) (o : Obj) (q : List QEnt) (op : Op) (who : Option AgentId),
    let r : KRes := kindStep ks o q op who
    o.kind = kRing →
    ringFit o = true →
    r.status = stOk →
    ringFit r.obj = true) ∧
  (∀ (ks : List UKind) (o : Obj) (q : List QEnt) (op : Op) (who : Option AgentId),
    let r : KRes := kindStep ks o q op who
    o.kind = kMonoPair →
    o.thresh.toNat ≤ o.value.toNat →
    o.value.toNat ≤ o.thresh.toNat + (o.kflags.toNat + 1) →
    r.status = stOk →
    r.obj.thresh.toNat ≤ r.obj.value.toNat ∧ r.obj.value.toNat ≤ r.obj.thresh.toNat + (o.kflags.toNat + 1)) ∧
  (∀ (ks : List UKind) (o : Obj) (q : List QEnt) (op : Op) (who : Option AgentId),
    let r : KRes := kindStep ks o q op who
    o.kind = kTicketLock →
    lockFit o q.length = true →
    r.status = stOk →
    lockFit r.obj (q.length + (if r.queue then 1 else 0) - r.grants.length) = true)

/-- A TAKE, GIVE or SIGNAL whose count or amount is 0 and that reaches an object of a built-in kind without Watermarks, other
than a SIGNAL on an EVENT, is answered KIND_REJECT with the object's unchanged VALUE, EPOCH, STATE and KIND, and leaves the
object as it was. A SIGNAL of amount 0 on a CLEAR EVENT without a list is answered OK, sets the event and leaves VALUE. -/
def Obligations.ZeroAmountRefused : Prop :=
  (∀ (o : Byte) (p : Port) (f : Flit) (s : State) (n : Nat),
    let op : Op := opOf o f none
    o = opSignal ∨ o = opTake ∨ o = opGive →
    grantable { port := p, opcode := o, f } s = true →
    reaches s op n = true →
    isBuiltin (objAt s n).kind = true →
    ¬ (o = opSignal ∧ (objAt s n).kind = kEvent) →
    (objAt s n).wmark = false →
    f.a = 0 →
    listAt s n = [] →
    ∃ u, exec (requestOf o p f) s = .next u ∧ stillArb u = stillArb (modCtxCnt f.ctx (fun k => { k with nacks := k.nacks + 1 })
      (push 2 (respFlit op stKindReject (objAt s n).value (objB (objAt s n)) 0) none
        (bumpAon stKindReject.toNat (tcTouch f.ctx f.handle (granted f.ctx s)))))) ∧
  (∀ (p : Port) (f : Flit) (s : State) (n : Nat),
    let op : Op := opOf opSignal f none
    let o' : Obj := { objAt s n with state := 1, epoch := (objAt s n).epoch + 1, lastsig := f.agent }
    grantable { port := p, opcode := opSignal, f } s = true →
    reaches s op n = true →
    (objAt s n).kind = kEvent →
    (objAt s n).state = 0 →
    (objAt s n).wmark = false →
    (objAt s n).diverged = false →
    f.a = 0 →
    listAt s n = [] →
    holdersOf s n = [] →
    ∃ u, exec (.signal p f) s = .next u ∧ stillArb u = stillArb (withResp op stOk (objAt s n).value (objB o') 0 (withObject n o' (tcTouch f.ctx f.handle (granted f.ctx s)))))

/-- A read of GS_VERSION (constructor rcRegisterRead, offset 0) returns 0x0003_0100, that is MAJOR 3, MINOR 1 and PATCH 0, and a
write of any value changes nothing. -/
def Obligations.VersionReads : Prop :=
  (∀ (acc : Acc) (s : State),
    served acc s = true →
    ∃ u, exec (.rcRegisterRead acc 0) s = .next u ∧ still u = still ({ tick s with regp := { s.regp with rdata := 0x00030100 } })) ∧
  (∀ (acc : Acc) (v : W32) (s : State),
    served acc s = true →
    ∃ u, exec (.registerWrite acc 0 v) s = .next u ∧ still u = still (wrote (tick s)))

/-- Where every kind of the Kind Table passes the checks of 04 R115 and R117, with codes rising in 0x20 to 0x7F, and at most 96
kinds, they still do after every step, whatever the command. -/
def Obligations.KindTableStaysChecked : Prop :=
  (∀ (s t : State),
    kindsOk s.kt.kinds = true →
    step s = .next t →
    kindsOk t.kt.kinds = true)

/-- After reset the registers listed read the values of their Reset columns, every incarnation is 0, no slot holds an object, the
event log and the always-on counters are empty, no command waits, and the Kind Table passes the checks of 04 R117. -/
def Obligations.ResetState : Prop :=
  ((∀ e ∈ resetWords, regVal State.reset .regp e.1 = some e.2) ∧
      State.reset.ag.inc = [] ∧ State.reset.vat.slots = [] ∧ State.reset.res.log = [] ∧ State.reset.aon = List.replicate 20 0 ∧
      State.reset.pending = [] ∧ kindsOk State.reset.kt.kinds = true)
end

