-- ==== Sys2Proof/Laws/Cycle.lean ====
section
/-! SUPPORT. What one cycle does around a command when nothing of the block waits. -/

namespace Sys2Proof.Laws

open Sys2Proof.Machine

/-! ## Each part of a cycle, when nothing waits for it -/

/-- What `rest` says. -/
structure Resting (s : State) : Prop where
  ports : s.hb.ports = []
  waiting : s.hb.waiting = []
  link : s.hb.link = []
  chains : s.hb.chains = []
  regq : s.hb.regq = []
  rx : ∀ e ∈ s.felt.rx, e.2.full = none
  txq : s.felt.txq = []
  loop : s.felt.loop = []
  returned : s.felt.returned = []
  owed : s.vat.owed = []
  closes : ∀ t ∈ s.felt.streams, (t.closeOwed && t.unacked.isEmpty) = false
  inbox : s.step.inbox = []
  due : s.step.due = false
  trip : s.step.tripDue = false
  entering : s.couch.entering = []
  walks : s.wt.walks = []
  brace : braceIdle s = true
  dump : dumpDue s = false
  clearing : s.ctx.clearing = none
  flash : flashIdle s = true
  links : s.boot.phase ≠ .links

theorem resting {s : State} (h : rest s = true) : Resting s := by
  simp only [rest, headEmpty, feltEmpty, stepEmpty, passesDone, Bool.and_eq_true, List.isEmpty_iff, List.all_eq_true,
    Bool.not_eq_true', Option.isNone_iff_eq_none, bne_iff_ne, ne_eq] at h
  constructor <;> tauto

theorem acceptPorts_empty {s : State} (h : s.hb.ports = []) : acceptPorts s = s := by
  have hp : ∀ p, acceptPort s p = s := by intro p; simp [acceptPort, h]
  simp [acceptPorts, List.range_succ, hp]

theorem handCells_none {s : State} (h : ∀ e ∈ s.felt.rx, e.2.full = none) : handCells s = s := by
  unfold handCells
  generalize s.felt.rx = l at h
  induction l with
  | nil => rfl
  | cons e r ih =>
    rw [List.foldl_cons, h e (by simp)]
    exact ih (fun e he => h e (by simp [he]))

theorem resumeWalks_empty {s : State} (h : s.wt.walks = []) : resumeWalks s = s := by
  unfold resumeWalks
  rw [h, List.foldl_nil]
  conv_lhs => rw [← h]

theorem enterAll_empty {s : State} (h : s.couch.entering = []) : enterAll s = s := by
  unfold enterAll enterSlots
  simp only [h, List.filter_nil, List.foldl_nil]
  conv_lhs => rw [← h]

/-- BRACE ends no quire where none is open. -/
theorem braceGo_idle {s : State} (h : braceIdle s = true) : braceGo s = s := by
  unfold braceIdle at h
  unfold braceGo
  split
  · rfl
  · next hb =>
    have hl : s.qu.recs.filter (fun e => e.2.state == .opened) = [] := by
      rw [List.filter_eq_nil_iff]
      intro e he
      simp only [Bool.or_eq_true, bne_iff_ne, ne_eq, List.all_eq_true] at h
      simp only [ne_eq, Decidable.not_not] at hb
      rcases h with h | h
      · exact absurd hb h
      · simpa using h e he
    rw [hl]; rfl

theorem dumpResume_idle {s : State} (h : dumpDue s = false) : dumpResume s = s := by simp [dumpResume, h]

theorem drain_empty {s : State} (n : Nat) (h1 : s.felt.loop = []) (h2 : s.felt.returned = []) (h3 : s.step.inbox = []) :
    drain n s = s := by
  cases n <;> simp [drain, h1, h2, h3]

theorem linkReady_empty {s : State} (h : s.hb.link = []) : linkReady s = false := by simp [linkReady, h]

theorem serveSlot_empty {s : State} (h1 : s.hb.waiting = []) (h2 : s.hb.link = []) : serveSlot s = s := by
  simp [serveSlot, activeAgents, h1, linkReady_empty h2]

theorem grantSlot_empty {s : State} (c : Bool) (h1 : s.hb.waiting = []) (h2 : s.hb.link = []) (h3 : s.hb.chains = [])
    (h4 : s.hb.regq = []) : grantSlot c s = s := by
  simp [grantSlot, h3, h4, serveSlot_empty h1 h2]

/-- A counted cycle moves the count alone. -/
theorem countCycle_eq (s : State) : ∃ n, countCycle s = { s with hb := { s.hb with counted := n } } := by
  unfold countCycle
  split
  · exact ⟨_, rfl⟩
  · exact ⟨s.hb.counted, rfl⟩

theorem grantCycle_empty {s : State} (c : Bool) (h1 : s.hb.waiting = []) (h2 : s.hb.link = []) (h3 : s.hb.chains = [])
    (h4 : s.hb.regq = []) (h5 : s.couch.entering = []) : grantCycle c s = countCycle s := by
  obtain ⟨n, hn⟩ := countCycle_eq s
  have hp : grantSlot c (countCycle s) = countCycle s := by
    rw [hn]; exact grantSlot_empty c h1 h2 h3 h4
  have he : enterAll (countCycle s) = countCycle s := enterAll_empty (by rw [hn]; exact h5)
  simp [grantCycle, List.range_succ, hp, he]

theorem payOwed_empty {s : State} (h : s.vat.owed = []) : payOwed s = s := by simp [payOwed, h]

theorem clearGo_none {s : State} (h : s.ctx.clearing = none) : clearGo s = s := by simp [clearGo, h]

theorem stepTry_idle {s : State} (h1 : s.step.due = false) (h2 : s.step.tripDue = false) : stepTry s = s := by
  unfold stepTry
  split
  · rfl
  · simp [h1, h2]

theorem answerCloses_none {s : State} (h : ∀ t ∈ s.felt.streams, (t.closeOwed && t.unacked.isEmpty) = false) :
    answerCloses s = s := by
  have : s.felt.streams.filter (fun t => t.closeOwed && t.unacked.isEmpty) = [] := by
    rw [List.filter_eq_nil_iff]; intro t ht; simp [h t ht]
  simp [answerCloses, this]

theorem seekWaiting_empty {s : State} (h : s.felt.txq = []) : seekWaiting s = s := by
  simp [seekWaiting, waitingPeers, h]

theorem pumpTx_empty {s : State} (h : s.felt.txq = []) : pumpTx s = s := by simp [pumpTx, h]

theorem flashNext_idle {s : State} (h : flashIdle s = true) : flashNext s = s := by
  unfold flashIdle at h
  unfold flashNext
  split
  · rfl
  · next k l e => rw [e] at h; split_ifs with hc <;> simp_all

theorem flashIdle_congr {s u : State} (hb : u.boot = s.boot) (hq : u.sq = s.sq) (hp : u.pwr = s.pwr) :
    flashIdle u = flashIdle s := by
  simp only [flashIdle, sqAt, hb, hq, hp]

theorem linksCheck_other {s : State} (h : s.boot.phase ≠ .links) : linksCheck s = s := by simp [linksCheck, h]

/-- Streams that differ in the credit granted alone. -/
def granting (l m : List Stream) : Prop := l.map (fun t => { t with granted := 0 }) = m.map (fun t => { t with granted := 0 })

/-- Changing the credit granted on one stream. -/
theorem granting_mod (s : State) (d : DieId) (g : Stream → BitVec 16) :
    ∃ l, granting l s.felt.streams ∧
      modStream d (fun u => { u with granted := g u }) s = { s with felt := { s.felt with streams := l } } := by
  refine ⟨_, ?_, rfl⟩
  simp only [granting, List.map_map]
  apply List.map_congr_left
  intro t _
  simp only [Function.comp]
  split <;> rfl

/-- `t` is `s` but for the credit granted on its streams and whose turn the next grant is. -/
def Granted (s t : State) : Prop :=
  ∃ l r, granting l s.felt.streams ∧ t = { s with felt := { s.felt with streams := l, rr := r } }

theorem Granted.refl (s : State) : Granted s s := ⟨_, _, rfl, rfl⟩

theorem Granted.trans {s t u : State} : Granted s t → Granted t u → Granted s u := by
  rintro ⟨l, r, h, rfl⟩ ⟨m, q, h', rfl⟩
  exact ⟨m, q, h'.trans h, rfl⟩

theorem raiseGrant_eq (s : State) (d : DieId) : Granted s (raiseGrant s d) := by
  unfold raiseGrant
  split
  · exact .refl s
  · lift_lets
    intro w
    split_ifs
    · obtain ⟨l, hl, he⟩ := granting_mod s d (fun u => u.exp.setWidth 16 + BitVec.ofNat 16 w)
      exact ⟨l, _, hl, he⟩
    · exact .refl s

theorem serveWaiter_eq (s : State) (d : DieId) : Granted s (serveWaiter s d) := by
  obtain ⟨l, r, h, e⟩ := raiseGrant_eq s d
  unfold serveWaiter
  generalize raiseGrant s d = t at e ⊢
  subst e
  simp only
  split_ifs
  · exact ⟨l, r, h, rfl⟩
  · exact ⟨l, some d, h, rfl⟩

theorem granted_fold (f : State → Stream → State) (hf : ∀ s t, Granted s (f s t)) (l : List Stream) (s : State) :
    Granted s (l.foldl f s) := by
  induction l generalizing s with
  | nil => exact .refl s
  | cons t r ih => exact (hf s t).trans (ih _)

theorem raiseGrants_eq (s : State) : Granted s (raiseGrants s) :=
  (granted_fold _ (fun s t => serveWaiter_eq s t.peer) _ s).trans (granted_fold _ (fun s t => raiseGrant_eq s t.peer) _ _)

/-! ## The block queues' Watermarks -/

theorem tset_filter {α : Type} (p : Nat → Bool) (t : Tbl α) (k : Nat) (a : α) (h : p k = false) :
    (tset t k a).filter (fun e => p e.1) = t.filter (fun e => p e.1) := by
  induction t with
  | nil => simp [tset, h]
  | cons e later ih =>
    simp only [tset]
    split_ifs with hlt heq
    · simp [List.filter_cons, ih]
    · rw [← heq] at h; simp [← heq, h]
    · simp [h]

theorem terase_filter {α : Type} (p : Nat → Bool) (t : Tbl α) (k : Nat) (h : p k = false) :
    (terase t k).filter (fun e => p e.1) = t.filter (fun e => p e.1) := by
  unfold terase
  rw [List.filter_filter]
  apply List.filter_congr
  intro e _
  by_cases hk : e.1 = k
  · simp [hk, h]
  · simp [hk]

theorem tput_filter {α : Type} [DecidableEq α] (p : Nat → Bool) (d : α) (t : Tbl α) (k : Nat) (a : α) (h : p k = false) :
    (tput d t k a).filter (fun e => p e.1) = t.filter (fun e => p e.1) := by
  unfold tput
  split
  · exact terase_filter p t k h
  · exact tset_filter p t k a h

theorem set_bumpAt (l : List W64) (i : Nat) (x : W64) : (bumpAt l i).set i x = l.set i x := by
  apply List.ext_getElem
  · simp [bumpAt]
  · intro k h1 h2
    simp only [bumpAt, List.getElem_set, List.getElem_modify]
    split <;> simp_all

/-- One test of a block queue's Watermark shows in nothing that `still` keeps. -/
theorem still_qwmTest (n unit cur : Nat) (h : n < 6) (s : State) : still (qwmTest n unit cur s) = still s := by
  have hq : qwmSource (0x10 + n) = true := by
    unfold qwmSource; simp; omega
  have hf := fun (x : IrqSrc) => tput_filter (fun k => !qwmSource k) {} s.irq.src (0x10 + n) x (by simp [hq])
  unfold qwmTest
  simp only
  split
  · unfold assertSource
    split
    · simp [still, bumpAon, set_bumpAt]
    · simp only [still, bumpAon, irqPut, irqGet, hf, set_bumpAt]
  · simp [still]

theorem still_qwmAll (s : State) : still (qwmAll s) = still s := by
  simp [qwmAll, still_qwmTest]

/-! ## The whole cycle -/

/-- The credit granted shows in nothing that `still` keeps. -/
theorem still_granted {s t : State} (h : Granted s t) : still t = still s := by
  obtain ⟨l, r, h, rfl⟩ := h
  unfold granting at h
  simp only [still]
  rw [h]

theorem still_emit (s : State) : still (emit s) = still s := rfl

/-- What a cycle does before its grants, where no cells are whole, no frame is this die's own and no list is being tested. -/
theorem settle_eq {s u : State} (c : Bool) (hx : ∀ e ∈ s.felt.rx, e.2.full = none) (ha : acceptPorts s = u)
    (hl : u.felt.loop = []) (hr : u.felt.returned = []) (hi : u.step.inbox = []) (hw : u.wt.walks = []) :
    settle c s = emit (qwmAll (linksCheck (pumpTx (flashNext (raiseGrants (seekWaiting (answerCloses (drain 256 (stepTry
      (dumpResume (braceGo (clearGo (payOwed (drain 256 (grantCycle c u))))))))))))))) := by
  unfold settle
  rw [handCells_none hx, ha, drain_empty _ hl hr hi, resumeWalks_empty hw]

/-- After its grants the rest of a cycle leaves a state in which nothing waits as it is, to `still`. -/
theorem still_afterGrants {v : State} (h : rest v = true) :
    still (emit (qwmAll (linksCheck (pumpTx (flashNext (raiseGrants (seekWaiting (answerCloses (drain 256 (stepTry
      (dumpResume (braceGo (clearGo (payOwed (drain 256 v))))))))))))))) = still v := by
  have r := resting h
  have hd := drain_empty 256 r.loop r.returned r.inbox
  rw [hd, payOwed_empty r.owed, clearGo_none r.clearing, braceGo_idle r.brace, dumpResume_idle r.dump, stepTry_idle r.due r.trip,
    hd, answerCloses_none r.closes, seekWaiting_empty r.txq]
  have hg := raiseGrants_eq v
  have hs := still_granted hg
  obtain ⟨_, _, _, e⟩ := hg
  generalize raiseGrants v = u at e hs ⊢
  have hb : u.boot = v.boot := by rw [e]
  rw [flashNext_idle ((flashIdle_congr hb (by rw [e]) (by rw [e])).trans r.flash), pumpTx_empty (by rw [e]; exact r.txq),
    linksCheck_other (by rw [hb]; exact r.links), still_emit, still_qwmAll, hs]

/-- The rest of a cycle in which nothing waits shows in nothing that `still` keeps. -/
theorem still_settle {s : State} (c : Bool) (h : rest s = true) : still (settle c s) = still s := by
  have r := resting h
  obtain ⟨n, hn⟩ := countCycle_eq s
  have hr : rest (countCycle s) = true := by rw [hn]; exact h
  rw [settle_eq c r.rx (acceptPorts_empty r.ports) r.loop r.returned r.inbox r.walks,
    grantCycle_empty c r.waiting r.link r.chains r.regq r.entering, still_afterGrants hr, hn]
  rfl

/-- The queue and the kinds put back. -/
theorem still_putBack {t u : State} (p : List Instr) (k : List UKind) (h : still t = still u) :
    still { t with pending := p, kt := { t.kt with kinds := k } } =
      { still u with pending := p, kt := { u.kt with kinds := k } } := by
  have hs := congrArg State.kt h
  rw [← h]
  simp only [still] at hs ⊢
  rw [hs]

/-- The map of the ports put in place shows in that map alone. -/
theorem still_withMap (m : BitVec 2048) (s : State) : still (withMap m s) = withMap m (still s) := rfl

/-- A command in one cycle, when nothing waits once its effect has happened: what `still` keeps is the effect on the state as
the cycle began, the queue and the Kind Table aside. -/
theorem still_inCycle (f : State → State) (s : State) (h : rest (f (tick s)) = true) :
    still (inCycle f s) =
      { still (f (tick s)) with pending := s.pending, kt := { (f (tick s)).kt with kinds := s.kt.kinds } } := by
  unfold inCycle
  apply still_putBack
  rw [still_withMap, still_settle (s := withMap s.regp.meshMap (f (tick s))) _ h]
  rfl

/-- The same for an effect that leaves the queue and the Kind Table alone. -/
theorem still_inCycle_same (f : State → State) (s : State) (h : rest (f (tick s)) = true)
    (hp : (f (tick s)).pending = s.pending) (hk : (f (tick s)).kt.kinds = s.kt.kinds) :
    still (inCycle f s) = still (f (tick s)) := by
  rw [still_inCycle f s h, ← hp, ← hk]
  rfl

end Sys2Proof.Laws
end

