-- ==== Sys2Proof/Laws/Access.lean ====
section
/-! SUPPORT. A register access served in the cycle that brings it: what it does is the register's own effect. -/

namespace Sys2Proof.Laws

open Sys2Proof Sys2Proof.Machine

/-- What `served` says. -/
structure Served (c : Acc) (s : State) : Prop where
  rest : rest s = true
  on : s.pwr.off = false
  awake : s.pwr.st ≠ .doze
  ready : regpHeld s = false
  ctx : accCtx c = 0
  bus : c.rq ≠ .regacc

theorem served_parts {c : Acc} {s : State} (h : served c s = true) : Served c s := by
  simp only [served, gclkOn, Bool.and_eq_true, Bool.not_eq_true', beq_iff_eq, bne_iff_ne, ne_eq] at h
  constructor <;> tauto

/-- Context 0 is refused no address (11 R273). -/
theorem served_admitted {c : Acc} {s : State} (h : served c s = true) (a : Nat) : admitted c a = true := by
  simp [admitted, (served_parts h).ctx]

/-- The access does not wait. -/
theorem access_runs {x : RegAcc} {s : State} (h : served x.acc s = true) :
    whenPower (regOffer x) (tick s) = regRun x (tick s) := by
  have p := served_parts h
  have h1 : (tick s).pwr = s.pwr := rfl
  have h2 : regpHeld (tick s) = false := by simpa [regpHeld, tick] using p.ready
  have h3 : wakeDoze (tick s) = tick s := by simp [wakeDoze, h1, p.awake]
  simp [whenPower, regOffer, h1, p.on, h2, h3]

/-- A write to a register takes its effect and returns no data. -/
theorem write_runs {x : RegAcc} {s : State} (h : served x.acc s = true) (hw : x.wr = true) (hf : x.far = false) {v : W32}
    (hv : regVal (tick s) x.acc.rq (4 * x.addr.toNat) = some v) :
    regRun x (tick s) = wrote (regPut x.acc (4 * x.addr.toNat) x.data (tick s)) := by
  simp [regRun, regServe, served_admitted h, hv, hw, hf, regDone, (served_parts h).bus, wrote]

/-- A read returns the register's value, and has its own effect. -/
theorem read_runs {x : RegAcc} {s : State} (h : served x.acc s = true) (hw : x.wr = false) (hf : x.far = false) {v : W32}
    (hv : regVal (tick s) x.acc.rq (4 * x.addr.toNat) = some v) :
    regRun x (tick s) = regDone x v (readEffect x.acc.rq (4 * x.addr.toNat) (tick s)) := by
  simp [regRun, regServe, served_admitted h, hv, hw, hf]

/-- An access to a reserved address is counted, reads zero and has no other effect (21 R460). -/
theorem reserved_runs {x : RegAcc} {s : State} (h : served x.acc s = true)
    (hv : regVal (tick s) x.acc.rq (4 * x.addr.toNat) = none) :
    regRun x (tick s) = regDone x 0 (countRsvd x.wr x.addr (tick s)) := by
  simp [regRun, regServe, served_admitted h, hv, (served_parts h).bus]

/-- A write that leaves nothing waiting, in its cycle. -/
theorem still_write {x : RegAcc} {s : State} {v : W32} {t : State} (h : served x.acc s = true) (hw : x.wr = true) (hf : x.far = false)
    (hv : regVal (tick s) x.acc.rq (4 * x.addr.toNat) = some v)
    (ht : wrote (regPut x.acc (4 * x.addr.toNat) x.data (tick s)) = t) (hr : rest t = true) (hp : t.pending = s.pending)
    (hk : t.kt.kinds = s.kt.kinds) : still (inCycle (whenPower (regOffer x)) s) = still t := by
  have e : whenPower (regOffer x) (tick s) = t := by rw [access_runs h, write_runs h hw hf hv, ht]
  rw [still_inCycle_same _ s (by rw [e]; exact hr) (by rw [e]; exact hp) (by rw [e]; exact hk), e]

end Sys2Proof.Laws
end

