-- ==== Sys2Proof/Laws/Grant.lean ====
section
/-! SUPPORT. A request that comes alone: accepted, admitted, granted and carried out in one cycle. -/

namespace Sys2Proof.Laws

open Sys2Proof.Machine

theorem nextAfter_single {p n x : Nat} (h : x < n) : nextAfter p n [x] = some x := by
  unfold nextAfter
  generalize hr : List.find? _ _ = r
  cases r with
  | some y =>
    have := List.find?_some hr
    simp at this
    rw [this]
  | none =>
    rw [List.find?_eq_none] at hr
    exfalso
    apply hr x
    · rw [List.mem_map]
      refine ⟨(x + n * (p + 1) - (p + 1)) % n, ?_, ?_⟩
      · rw [List.mem_range]; exact Nat.mod_lt _ (by omega)
      · have hle : p + 1 ≤ n * (p + 1) := Nat.le_mul_of_pos_left _ (by omega)
        rw [Nat.add_mod, Nat.mod_mod, ← Nat.add_mod]
        rw [show p + 1 + (x + n * (p + 1) - (p + 1)) = x + n * (p + 1) from by omega]
        rw [Nat.add_mul_mod_self_left, Nat.mod_eq_of_lt h]
    · simp

theorem localIx_lt (a : AgentId) : localIx a < 1024 := Nat.mod_lt _ (by decide)

theorem activeAgents_single {s : State} {m : MeshFlit} (h : s.hb.waiting = [m]) (hg : s.hb.grantedR = 0) : activeAgents s = [localIx m.f.agent] := by
  have hm : [localIx m.f.agent].eraseDups = [localIx m.f.agent] := by
    simp [List.eraseDups, List.eraseDupsBy, List.eraseDupsBy.loop]
  simp [activeAgents, h, hm, capped, hg]

theorem pickAgent_single {s : State} {i : Nat} (h : eligible s = [i]) :
    ∃ b, pickAgent s (i / 256) = some (i, b) := by
  unfold pickAgent
  have h1 : (eligible s).filter (fun j => j / 256 == i / 256) = [i] := by simp [h]
  simp only [h1, List.map_cons, List.map_nil]
  rw [nextAfter_single (by omega : i / 16 % 16 < 16)]
  have h2 : i / 256 * 16 + i / 16 % 16 = i / 16 := by omega
  simp only [h2, List.filter_cons, beq_self_eq_true, if_true, List.filter_nil, List.map_cons, List.map_nil]
  rw [nextAfter_single (by omega : i % 16 < 16)]
  have h3 : i / 16 * 16 + i % 16 = i := by omega
  simp only [h3]
  exact ⟨_, rfl⟩

/-- With one request waiting and no LINK operation a slot goes to the request. -/
theorem serveSlot_single {s : State} {m : MeshFlit} (h : s.hb.waiting = [m]) (hl : s.hb.link = []) (hg : s.hb.grantedR = 0) :
    ∃ b n, serveSlot s = grantMesh m { s with hb := { s.hb with arb := b, rounds := n } } := by
  have hc : ∀ u : State, u.hb.waiting = [m] → u.hb.link = [] → eligible u = [localIx m.f.agent] →
      ∃ b, (match nextAfter u.hb.arb.ptrDie 5 (dieChildren u) with
        | none => u
        | some x =>
          if x = 4 then grantLink u
          else match pickAgent u x with
            | none => u
            | some (i, arb) => match u.hb.waiting.find? (fun m => localIx m.f.agent == i) with
              | none => u
              | some m => grantMesh m { u with hb := { u.hb with arb } }) =
        grantMesh m { u with hb := { u.hb with arb := b } } := by
    intro u hw hk he
    have hi := localIx_lt m.f.agent
    have hd : dieChildren u = [localIx m.f.agent / 256] := by
      simp [dieChildren, he, linkReady_empty hk]
    obtain ⟨b, hb⟩ := pickAgent_single he
    refine ⟨b, ?_⟩
    rw [hd, nextAfter_single (by omega : localIx m.f.agent / 256 < 5)]
    simp only
    rw [if_neg (by omega), hb]
    simp [hw]
  have ha := activeAgents_single h hg
  unfold serveSlot
  rw [if_neg (by simp [ha])]
  by_cases hd : (dieChildren s).isEmpty
  · obtain ⟨b, hb⟩ := hc (startRound s) h hl (by
      simp only [eligible]
      rw [show activeAgents (startRound s) = activeAgents s from rfl, ha]
      simp [startRound, ha])
    refine ⟨b, sat16 s.hb.rounds, ?_⟩
    simp only [hd, if_true]
    exact hb
  · have he : eligible s = [localIx m.f.agent] := by
      have hf : eligible s = List.filter (fun i => s.hb.arb.credit.contains i) [localIx m.f.agent] := by
        simp only [eligible, ha]
      by_cases hm : s.hb.arb.credit.contains (localIx m.f.agent)
      · rw [hf, List.filter_cons, if_pos hm, List.filter_nil]
      · exfalso
        apply hd
        have : eligible s = [] := by rw [hf, List.filter_cons, if_neg hm, List.filter_nil]
        simp [dieChildren, this, linkReady_empty hl]
    obtain ⟨b, hb⟩ := hc s h hl he
    refine ⟨b, s.hb.rounds, ?_⟩
    simp only [hd]
    exact hb

/-- What `grantable` says. -/
structure Grantable (m : MeshFlit) (s : State) : Prop where
  rest : rest s = true
  bursts : s.hb.bursts = []
  running : running s = true
  room : poolRoom s = true
  grant : canGrant (tick s) = true
  first : m.f.cont = false
  whole : m.cont = none
  single : needsBurst m.opcode m.f = some false
  checked : headCheck s m = none
  line : firstInLine (opOf m.opcode m.f none) s = true

theorem grantable_parts {m : MeshFlit} {s : State} (h : grantable m s = true) : Grantable m s := by
  simp only [grantable, Bool.and_eq_true, List.isEmpty_iff, Bool.not_eq_true', Option.isNone_iff_eq_none, beq_iff_eq] at h
  constructor <;> tauto

/-- What `running` says. -/
structure Running (s : State) : Prop where
  run : s.boot.phase = .run
  active : s.pwr.st = .active
  awake : s.pwr.sleep = .none
  on : s.pwr.off = false
  unhalted : s.pwr.halted = false
  sound : s.res.fatal = false

theorem running_parts {s : State} (h : running s = true) : Running s := by
  simp only [running, Bool.and_eq_true, Bool.not_eq_true', beq_iff_eq] at h
  constructor <;> tauto

/-- Only one port offers a flit: it is accepted. -/
theorem acceptPorts_single {s : State} {m : MeshFlit} (h : s.hb.ports = [m])
    (hk : (acceptPort s m.port.val).hb.ports = []) : acceptPorts s = acceptPort s m.port.val := by
  have h0 : ∀ p, p ≠ m.port.val → acceptPort s p = s := by
    intro p hp
    simp [acceptPort, h, Ne.symm hp]
  have h1 : ∀ p, acceptPort (acceptPort s m.port.val) p = acceptPort s m.port.val := by
    intro p
    rw [acceptPort, hk]
    rfl
  have hm := m.port.isLt
  unfold acceptPorts
  simp only [List.range_succ, List.range_zero, List.nil_append, List.foldl_append, List.foldl_cons, List.foldl_nil]
  have hcases : m.port.val = 0 ∨ m.port.val = 1 ∨ m.port.val = 2 ∨ m.port.val = 3 := by omega
  rcases hcases with e | e | e | e <;> rw [e] at h0 h1 ⊢ <;> simp [h0, h1]

/-- A request's place in the order of responses is all that `noteFlit` writes. -/
theorem noteFlit_eq (m : MeshFlit) (s : State) :
    noteFlit m s = { s with hb := { s.hb with order := (noteFlit m s).hb.order } } := by
  unfold noteFlit noteOrder
  split <;> rfl

/-- The order of responses after a request, whatever else of the state differs. -/
theorem noteFlit_order (m : MeshFlit) {s u : State} (h : u.hb.order = s.hb.order) :
    (noteFlit m u).hb.order = (noteFlit m s).hb.order := by
  unfold noteFlit noteOrder
  split <;> simp [h]

/-- A request admitted on a state in which nothing waits. -/
def admitted (m : MeshFlit) (s : State) : State :=
  { tick s with hb := { (tick s).hb with
    bursts := [], order := (noteFlit m s).hb.order, waiting := [{ m with since := s.hb.counted }] } }

/-- A lone flit that is no continuation and takes one flit is admitted. -/
theorem accept_single {s : State} {m : MeshFlit} (h : grantable m s = true) :
    acceptPorts (offer m (tick s)) = admitted m s := by
  have g := grantable_parts h
  have r := resting g.rest
  have k := running_parts g.running
  have hports : (offer m (tick s)).hb.ports = [m] := by simp [offer, tick, r.ports]
  have hready : meshReady (offer m (tick s)) = true := by
    have hpr : poolRoom (offer m (tick s)) = true := g.room
    unfold meshReady
    rw [hpr]
    simp [offer, tick, k.run, k.active, k.awake, k.on]
  have e : acceptPort (offer m (tick s)) m.port.val = admitted m s := by
    have hdrop : dropFirst (fun f : MeshFlit => f.port.val == m.port.val) [m] = [] := by simp [dropFirst]
    unfold acceptPort
    rw [hports]
    simp only [List.find?_cons, beq_self_eq_true, hready, if_true, hdrop, wakeDoze]
    rw [if_neg (by simp [offer, tick, k.active])]
    simp only [acceptFlit, g.first, Bool.false_eq_true, if_false, acceptFirst, burstOf]
    have hf : List.find? (fun b : MeshFlit => localIx b.f.agent == localIx m.f.agent) (offer m (tick s)).hb.bursts = none := by
      simp [offer, tick, g.bursts]
    simp only [hf, g.single]
    simp only [bne_self_eq_false, Bool.and_false, Bool.false_eq_true, if_false, enterPool]
    rw [noteFlit_eq m]
    split
    · rename_i r hx
      exact absurd (g.checked.symm.trans hx) (by simp)
    · have ho := noteFlit_order m (s := s) (u := { offer m (tick s) with hb := { (offer m (tick s)).hb with ports := [] } }) rfl
      simp only [ho]
      simp [admitted, offer, tick, r.ports, r.waiting, g.bursts]
  rw [acceptPorts_single hports (by rw [e]; exact r.ports), e]

/-- The Headbox after a lone grant. -/
def headboxAfter (m : MeshFlit) (s : State) (a : Arb) (r n g mw : Nat) (w : List Nat) : Headbox :=
  { (tick s).hb with
    arb := a, rounds := r, counted := n, granted := g, maxWait := mw, window := w, waiting := [], bursts := []
    order := (noteFlit m s).hb.order }

/-- The granted state with the Headbox's bookkeeping. -/
def grantedAs (c : CtxId) (s : State) (hb : Headbox) : State := { granted c s with hb }

/-- Any operation but an ARRIVE_R is carried out as it is. -/
theorem stampTime_other {op : Op} (s : State) (h : op.opcode ≠ opArriveR) : stampTime op s = (op, s) := by simp [stampTime, h]

theorem still_arb {s t : State} (h : still s = still t) : stillArb s = stillArb t := by
  unfold stillArb
  rw [h]

/-- The state in which a lone request is granted. -/
theorem countCycle_granting {s : State} (h : running s = true) (hc : canGrant s = true) :
    countCycle s = { s with hb := { s.hb with counted := s.hb.counted + 1 } } := by
  have k := running_parts h
  simp [countCycle, hc, k.active, k.unhalted, k.sound]

/-- The cycle after its acceptances and grants leaves a state in which nothing waits as it is, to `still`. -/
theorem settle_from {s u v : State} (c : Bool) (hx : ∀ e ∈ s.felt.rx, e.2.full = none) (ha : acceptPorts s = u)
    (hl : u.felt.loop = []) (hr : u.felt.returned = []) (hi : u.step.inbox = []) (hw : u.wt.walks = [])
    (hg : grantCycle c u = v) (hv : rest v = true) : still (settle c s) = still v := by
  rw [settle_eq c hx ha hl hr hi hw, hg, still_afterGrants hv]

/-- A lone request that the cycle's acceptances leave waiting: what the cycle leaves is what carrying it out on the granted state
leaves. -/
theorem lone_grant (f : State → State) (m : MeshFlit) (s : State) (hr : rest s = true) (hrun : running s = true)
    (hcg : canGrant (tick s) = true) (hs0 : stateGate s m.opcode m.f.ctx = none) (hx : (f (tick s)).felt.rx = s.felt.rx)
    (hmap : (f (tick s)).regp.meshMap = s.regp.meshMap)
    (hacc : acceptPorts (f (tick s)) = admitted m s) :
    ∃ a r n mw w,
      let g := stampTime (opOf m.opcode m.f m.cont) (grantedAs m.f.ctx s (headboxAfter m s a r n 1 mw w))
      let u := carryOut g.1 g.2
      rest u = true →
        still (inCycle f s) =
          { still (withMap s.regp.meshMap u) with pending := s.pending, kt := { u.kt with kinds := s.kt.kinds } } := by
  have r := resting hr
  generalize hA : admitted m s = A at hacc
  unfold admitted at hA
  have hcount : countCycle A = { A with hb := { A.hb with counted := s.hb.counted + 1 } } := by
    rw [countCycle_granting (by rw [← hA]; exact hrun) (by rw [← hA]; exact hcg), ← hA]
    rfl
  generalize hB : ({ A with hb := { A.hb with counted := s.hb.counted + 1 } } : State) = B at hcount
  obtain ⟨b, n, hs⟩ := serveSlot_single (s := B) (m := { m with since := s.hb.counted }) (by rw [← hB, ← hA]) (by
    rw [← hB, ← hA]; exact r.link) (by rw [← hB, ← hA]; rfl)
  have hgate : ∀ u : State, u.pwr = s.pwr → u.res.fatal = s.res.fatal → u.ctx.tab = s.ctx.tab →
      stateGate u m.opcode m.f.ctx = stateGate s m.opcode m.f.ctx := by
    intro u e1 e2 e3
    unfold stateGate ctxState
    rw [e1, e2, e3]
  let w := windowNow B ++ [B.clk.cycle]
  refine ⟨b, n, B.hb.counted, min 0xFFFF (max B.hb.maxWait (B.hb.counted - s.hb.counted)), w, ?_⟩
  intro g u hu
  have hgm : grantMesh { m with since := s.hb.counted } { B with hb := { B.hb with arb := b, rounds := n } } = u := by
    unfold grantMesh
    have hw : B.hb.waiting = [{ m with since := s.hb.counted }] := by rw [← hB, ← hA]
    simp only [hw, dropFirst, beq_self_eq_true, if_true, List.find?_nil]
    split
    · rename_i st hx
      exfalso
      have this : stateGate s m.opcode m.f.ctx = some st := by
        refine (hgate _ ?_ ?_ ?_).symm.trans hx <;> (subst hB; subst hA; rfl)
      rw [hs0] at this
      exact absurd this (by simp)
    · show carryOut (stampTime _ _).1 (stampTime _ _).2 = carryOut (stampTime _ _).1 (stampTime _ _).2
      subst hB; subst hA; rfl
  have hslot : grantSlot (!s.hb.chains.isEmpty) B = u := by
    unfold grantSlot
    have c1 : canGrant B = true := by rw [← hB, ← hA]; exact hcg
    have c2 : B.hb.granted = 0 := by rw [← hB, ← hA]; rfl
    have c3 : B.hb.chains = [] := by rw [← hB, ← hA]; exact r.chains
    have c4 : B.hb.regq = [] := by rw [← hB, ← hA]; exact r.regq
    rw [if_neg (by simp [c1, c2]), if_neg (by simp [c3]), if_neg (by simp [c4]), hs, hgm]
  have q := resting hu
  have hgc : grantCycle (!s.hb.chains.isEmpty) A = u := by
    have hid : grantSlot (!s.hb.chains.isEmpty) u = u := grantSlot_empty _ q.waiting q.link q.chains q.regq
    unfold grantCycle
    simp only [List.range_succ, List.range_zero, List.nil_append, List.foldl_append, List.foldl_cons, List.foldl_nil]
    rw [hcount, hslot, hid, hid, hid, enterAll_empty q.entering]
  have e := settle_from (!s.hb.chains.isEmpty) (by rw [hx]; exact r.rx) hacc (by rw [← hA]; exact r.loop)
    (by rw [← hA]; exact r.returned) (by rw [← hA]; exact r.inbox) (by rw [← hA]; exact r.walks) hgc hu
  have hid : withMap s.regp.meshMap (f (tick s)) = f (tick s) := by rw [← hmap]; rfl
  unfold inCycle
  apply still_putBack (u := withMap s.regp.meshMap u)
  rw [hid, hmap, still_withMap, still_withMap, e]

/-- The last of the header checks. -/
theorem headCheck_gate {s : State} {m : MeshFlit} (hh : headCheck s m = none) : stateGate s m.opcode m.f.ctx = none := by
  cases hf : formCheck s m <;> cases hi : incCheck s m <;> cases hm : moreWrong m.opcode m.f <;> simp_all [headCheck]

/-- A lone request of one flit. -/
theorem mesh_grant (m : MeshFlit) (s : State) (h : grantable m s = true) :
    ∃ a r n mw w,
      let g := stampTime (opOf m.opcode m.f m.cont) (grantedAs m.f.ctx s (headboxAfter m s a r n 1 mw w))
      let u := carryOut g.1 g.2
      rest u = true →
        still (inCycle (offer m) s) =
          { still (withMap s.regp.meshMap u) with pending := s.pending, kt := { u.kt with kinds := s.kt.kinds } } := by
  have g := grantable_parts h
  exact lone_grant (offer m) m s g.rest g.running g.grant (headCheck_gate g.checked) rfl rfl (accept_single h)

end Sys2Proof.Laws
end

