-- ==== Sys2Proof/Laws/Object.lean ====
section
/-! SUPPORT. An operation that reaches its object: what translation and the home's checks leave of it. -/

namespace Sys2Proof.Laws

open Sys2Proof.Machine

/-- What `reaches` says of the operation's translation. -/
structure Hit (s : State) (op : Op) (n : Nat) (x : Xl) : Prop where
  found : tcFind s op.ctx op.handle = some x
  slot : xlSlot x = n
  home : xlHome x = myDie s
  here : homeNow s (xlHome x) op.handle = myDie s
  allowed : useDenied op x = false
  direct : ¬((op.opcode = opArrive ∨ op.opcode = opArriveR) ∧ xlComb x = true)

/-- What `reaches` says of the operation at its object. -/
structure AtObject (s : State) (op : Op) (n : Nat) : Prop where
  live : ctxState s op.ctx = .live
  free : blocked s (.slot n) = false
  alive : thirdDead s n = false
  clean : clean (slotAt s n) = true
  kind : (objAt s n).kind ≠ 0
  owner : ownerOk (objAt s n) op.ctx = true

theorem reaches_atObject {s : State} {op : Op} {n : Nat} (h : reaches s op n = true) : AtObject s op n := by
  simp only [reaches, Bool.and_eq_true, beq_iff_eq, Bool.not_eq_true', bne_iff_ne, ne_eq] at h
  constructor <;> tauto

theorem reaches_hit {s : State} {op : Op} {n : Nat} (h : reaches s op n = true) : ∃ x, Hit s op n x := by
  unfold reaches at h
  rcases hx : tcFind s op.ctx op.handle with _ | x
  · simp [hx] at h
  · exists x
    rw [hx] at h
    constructor <;> rcases hd : xlComb x <;> simp [hd] at h ⊢ <;> tauto

theorem resolve_clean {s : State} {n : Nat} (h : clean (slotAt s n) = true) : resolve n s = (.ok false, s) := by
  simp only [clean, Bool.and_eq_true, Bool.not_eq_true', decide_eq_true_eq] at h
  simp [resolve, h.1.1.1, h.1.2, h.2]

/-- Where no arrival is on its way into its slot, none enters. -/
theorem enterSlots_empty {s : State} (p : Nat → Bool) (h : s.couch.entering = []) : enterSlots p s = s := by
  unfold enterSlots
  simp only [h, List.filter_nil, List.foldl_nil]
  conv_lhs => rw [← h]

/-- What is left of an operation of the mesh at its object, once translation and the home's checks have passed: an arrival is taken
in, any other runs its pass. -/
theorem objectOp_reaches {s : State} {op : Op} {n : Nat} (hm : op.src = .mesh) (hb : blocked s (.slot n) = false)
    (ht : thirdDead s n = false) (hc : clean (slotAt s n) = true) (hk : (objAt s n).kind ≠ 0)
    (ho : ownerOk (objAt s n) op.ctx = true) (he : s.couch.entering = []) :
    objectOp op n s =
      if treeArrival (objAt s n) op then joinArrive op n false s
      else endPass op n false (evalObj false none op n s).1 (evalObj false none op n s).2 := by
  unfold objectOp
  simp only [homeGate, hm]
  unfold objectPass
  rw [enterSlots_empty _ he]
  simp only [ite_self]
  rw [if_neg (by simp [hb])]
  simp only [ht, Bool.false_eq_true, if_false, resolve_clean hc]
  rw [if_neg hk, if_neg (by simp [ho])]

/-- A translated operation of the mesh: a hit in the cache, then the object. -/
theorem carryOut_reaches {s : State} {op : Op} {n : Nat} (hm : op.src = .mesh) (ho : objOpcode op.opcode = true)
    (h : reaches s op n = true) : carryOut op s = objectOp op n (tcTouch op.ctx op.handle s) := by
  obtain ⟨x, hx⟩ := reaches_hit h
  have hq : op.opcode ≠ opQop := by intro e; rw [e] at ho; exact absurd ho (by decide)
  have e : carryOut op s = translate (.op op) s := by
    have hz : ∀ o : Byte, objOpcode o = true → handleZero o = false := by decide
    simp [carryOut, hq, hz _ ho]
  have hl' : ¬ ctxState (tcTouch op.ctx op.handle s) op.ctx ≠ .live := by
    rw [show ctxState (tcTouch op.ctx op.handle s) op.ctx = ctxState s op.ctx from rfl, (reaches_atObject h).live]; simp
  have hd : homeNow (tcTouch op.ctx op.handle s) (xlHome x) op.handle = myDie s := hx.here
  have hme : myDie (tcTouch op.ctx op.handle s) = myDie s := rfl
  rw [e]
  have e2 : Machine.translate (.op op) s = useXl (.op op) x (tcTouch op.ctx op.handle s) := by
    unfold Machine.translate
    simp only [jobHandle, hx.found]
  rw [e2]
  simp only [useXl]
  rw [if_neg hl', if_neg (by simp [hq]), hx.allowed]
  simp only [Bool.false_eq_true, if_false]
  unfold routeOp
  simp only [hq, if_false]
  rw [if_neg hx.direct, hd, hme, if_neg (by simp), if_neg (fun e => e.1 hx.home), hx.slot]
  simp [slotOp, hm]

end Sys2Proof.Laws
end

