-- ==== Sys2Proof/Laws/State.lean ====
section
/-! SUPPORT. What each update of the state leaves and what it writes: one lemma per field and update. -/

namespace Sys2Proof.Laws

open Sys2Proof.Machine

variable (s : State)

/-! ## modCal -/

section

variable (f : Calender → Calender)

@[simp] theorem modCal_pending : (modCal f s).pending = s.pending := rfl
@[simp] theorem modCal_clk : (modCal f s).clk = s.clk := rfl
@[simp] theorem modCal_hb : (modCal f s).hb = s.hb := rfl
@[simp] theorem modCal_ag : (modCal f s).ag = s.ag := rfl
@[simp] theorem modCal_xl : (modCal f s).xl = s.xl := rfl
@[simp] theorem modCal_ctx : (modCal f s).ctx = s.ctx := rfl
@[simp] theorem modCal_vat : (modCal f s).vat = s.vat := rfl
@[simp] theorem modCal_kt : (modCal f s).kt = s.kt := rfl
@[simp] theorem modCal_wt : (modCal f s).wt = s.wt := rfl
@[simp] theorem modCal_couch : (modCal f s).couch = s.couch := rfl
@[simp] theorem modCal_wm : (modCal f s).wm = s.wm := rfl
@[simp] theorem modCal_qu : (modCal f s).qu = s.qu := rfl
@[simp] theorem modCal_la : (modCal f s).la = s.la := rfl
@[simp] theorem modCal_memp : (modCal f s).memp = s.memp := rfl
@[simp] theorem modCal_felt : (modCal f s).felt = s.felt := rfl
@[simp] theorem modCal_res : (modCal f s).res = s.res := rfl
@[simp] theorem modCal_cal : (modCal f s).cal = f s.cal := rfl
@[simp] theorem modCal_reel : (modCal f s).reel = s.reel := rfl
@[simp] theorem modCal_aon : (modCal f s).aon = s.aon := rfl
@[simp] theorem modCal_dump : (modCal f s).dump = s.dump := rfl
@[simp] theorem modCal_irq : (modCal f s).irq = s.irq := rfl
@[simp] theorem modCal_pwr : (modCal f s).pwr = s.pwr := rfl
@[simp] theorem modCal_step : (modCal f s).step = s.step := rfl
@[simp] theorem modCal_sec : (modCal f s).sec = s.sec := rfl
@[simp] theorem modCal_boot : (modCal f s).boot = s.boot := rfl
@[simp] theorem modCal_sq : (modCal f s).sq = s.sq := rfl
@[simp] theorem modCal_regp : (modCal f s).regp = s.regp := rfl
@[simp] theorem modCal_eg : (modCal f s).eg = s.eg := rfl
@[simp] theorem modCal_pins : (modCal f s).pins = s.pins := rfl

end

/-! ## modBoot -/

section

variable (f : Boot → Boot)

@[simp] theorem modBoot_pending : (modBoot f s).pending = s.pending := rfl
@[simp] theorem modBoot_clk : (modBoot f s).clk = s.clk := rfl
@[simp] theorem modBoot_hb : (modBoot f s).hb = s.hb := rfl
@[simp] theorem modBoot_ag : (modBoot f s).ag = s.ag := rfl
@[simp] theorem modBoot_xl : (modBoot f s).xl = s.xl := rfl
@[simp] theorem modBoot_ctx : (modBoot f s).ctx = s.ctx := rfl
@[simp] theorem modBoot_vat : (modBoot f s).vat = s.vat := rfl
@[simp] theorem modBoot_kt : (modBoot f s).kt = s.kt := rfl
@[simp] theorem modBoot_wt : (modBoot f s).wt = s.wt := rfl
@[simp] theorem modBoot_couch : (modBoot f s).couch = s.couch := rfl
@[simp] theorem modBoot_wm : (modBoot f s).wm = s.wm := rfl
@[simp] theorem modBoot_qu : (modBoot f s).qu = s.qu := rfl
@[simp] theorem modBoot_la : (modBoot f s).la = s.la := rfl
@[simp] theorem modBoot_memp : (modBoot f s).memp = s.memp := rfl
@[simp] theorem modBoot_felt : (modBoot f s).felt = s.felt := rfl
@[simp] theorem modBoot_res : (modBoot f s).res = s.res := rfl
@[simp] theorem modBoot_cal : (modBoot f s).cal = s.cal := rfl
@[simp] theorem modBoot_reel : (modBoot f s).reel = s.reel := rfl
@[simp] theorem modBoot_aon : (modBoot f s).aon = s.aon := rfl
@[simp] theorem modBoot_dump : (modBoot f s).dump = s.dump := rfl
@[simp] theorem modBoot_irq : (modBoot f s).irq = s.irq := rfl
@[simp] theorem modBoot_pwr : (modBoot f s).pwr = s.pwr := rfl
@[simp] theorem modBoot_step : (modBoot f s).step = s.step := rfl
@[simp] theorem modBoot_sec : (modBoot f s).sec = s.sec := rfl
@[simp] theorem modBoot_boot : (modBoot f s).boot = f s.boot := rfl
@[simp] theorem modBoot_sq : (modBoot f s).sq = s.sq := rfl
@[simp] theorem modBoot_regp : (modBoot f s).regp = s.regp := rfl
@[simp] theorem modBoot_eg : (modBoot f s).eg = s.eg := rfl
@[simp] theorem modBoot_pins : (modBoot f s).pins = s.pins := rfl

end

/-! ## modCtxs -/

section

variable (f : Contexts → Contexts)

@[simp] theorem modCtxs_pending : (modCtxs f s).pending = s.pending := rfl
@[simp] theorem modCtxs_clk : (modCtxs f s).clk = s.clk := rfl
@[simp] theorem modCtxs_hb : (modCtxs f s).hb = s.hb := rfl
@[simp] theorem modCtxs_ag : (modCtxs f s).ag = s.ag := rfl
@[simp] theorem modCtxs_xl : (modCtxs f s).xl = s.xl := rfl
@[simp] theorem modCtxs_ctx : (modCtxs f s).ctx = f s.ctx := rfl
@[simp] theorem modCtxs_vat : (modCtxs f s).vat = s.vat := rfl
@[simp] theorem modCtxs_kt : (modCtxs f s).kt = s.kt := rfl
@[simp] theorem modCtxs_wt : (modCtxs f s).wt = s.wt := rfl
@[simp] theorem modCtxs_couch : (modCtxs f s).couch = s.couch := rfl
@[simp] theorem modCtxs_wm : (modCtxs f s).wm = s.wm := rfl
@[simp] theorem modCtxs_qu : (modCtxs f s).qu = s.qu := rfl
@[simp] theorem modCtxs_la : (modCtxs f s).la = s.la := rfl
@[simp] theorem modCtxs_memp : (modCtxs f s).memp = s.memp := rfl
@[simp] theorem modCtxs_felt : (modCtxs f s).felt = s.felt := rfl
@[simp] theorem modCtxs_res : (modCtxs f s).res = s.res := rfl
@[simp] theorem modCtxs_cal : (modCtxs f s).cal = s.cal := rfl
@[simp] theorem modCtxs_reel : (modCtxs f s).reel = s.reel := rfl
@[simp] theorem modCtxs_aon : (modCtxs f s).aon = s.aon := rfl
@[simp] theorem modCtxs_dump : (modCtxs f s).dump = s.dump := rfl
@[simp] theorem modCtxs_irq : (modCtxs f s).irq = s.irq := rfl
@[simp] theorem modCtxs_pwr : (modCtxs f s).pwr = s.pwr := rfl
@[simp] theorem modCtxs_step : (modCtxs f s).step = s.step := rfl
@[simp] theorem modCtxs_sec : (modCtxs f s).sec = s.sec := rfl
@[simp] theorem modCtxs_boot : (modCtxs f s).boot = s.boot := rfl
@[simp] theorem modCtxs_sq : (modCtxs f s).sq = s.sq := rfl
@[simp] theorem modCtxs_regp : (modCtxs f s).regp = s.regp := rfl
@[simp] theorem modCtxs_eg : (modCtxs f s).eg = s.eg := rfl
@[simp] theorem modCtxs_pins : (modCtxs f s).pins = s.pins := rfl

end

/-! ## modDump -/

section

variable (f : Dump → Dump)

@[simp] theorem modDump_pending : (modDump f s).pending = s.pending := rfl
@[simp] theorem modDump_clk : (modDump f s).clk = s.clk := rfl
@[simp] theorem modDump_hb : (modDump f s).hb = s.hb := rfl
@[simp] theorem modDump_ag : (modDump f s).ag = s.ag := rfl
@[simp] theorem modDump_xl : (modDump f s).xl = s.xl := rfl
@[simp] theorem modDump_ctx : (modDump f s).ctx = s.ctx := rfl
@[simp] theorem modDump_vat : (modDump f s).vat = s.vat := rfl
@[simp] theorem modDump_kt : (modDump f s).kt = s.kt := rfl
@[simp] theorem modDump_wt : (modDump f s).wt = s.wt := rfl
@[simp] theorem modDump_couch : (modDump f s).couch = s.couch := rfl
@[simp] theorem modDump_wm : (modDump f s).wm = s.wm := rfl
@[simp] theorem modDump_qu : (modDump f s).qu = s.qu := rfl
@[simp] theorem modDump_la : (modDump f s).la = s.la := rfl
@[simp] theorem modDump_memp : (modDump f s).memp = s.memp := rfl
@[simp] theorem modDump_felt : (modDump f s).felt = s.felt := rfl
@[simp] theorem modDump_res : (modDump f s).res = s.res := rfl
@[simp] theorem modDump_cal : (modDump f s).cal = s.cal := rfl
@[simp] theorem modDump_reel : (modDump f s).reel = s.reel := rfl
@[simp] theorem modDump_aon : (modDump f s).aon = s.aon := rfl
@[simp] theorem modDump_dump : (modDump f s).dump = f s.dump := rfl
@[simp] theorem modDump_irq : (modDump f s).irq = s.irq := rfl
@[simp] theorem modDump_pwr : (modDump f s).pwr = s.pwr := rfl
@[simp] theorem modDump_step : (modDump f s).step = s.step := rfl
@[simp] theorem modDump_sec : (modDump f s).sec = s.sec := rfl
@[simp] theorem modDump_boot : (modDump f s).boot = s.boot := rfl
@[simp] theorem modDump_sq : (modDump f s).sq = s.sq := rfl
@[simp] theorem modDump_regp : (modDump f s).regp = s.regp := rfl
@[simp] theorem modDump_eg : (modDump f s).eg = s.eg := rfl
@[simp] theorem modDump_pins : (modDump f s).pins = s.pins := rfl

end

/-! ## modPwr -/

section

variable (f : Power → Power)

@[simp] theorem modPwr_pending : (modPwr f s).pending = s.pending := rfl
@[simp] theorem modPwr_clk : (modPwr f s).clk = s.clk := rfl
@[simp] theorem modPwr_hb : (modPwr f s).hb = s.hb := rfl
@[simp] theorem modPwr_ag : (modPwr f s).ag = s.ag := rfl
@[simp] theorem modPwr_xl : (modPwr f s).xl = s.xl := rfl
@[simp] theorem modPwr_ctx : (modPwr f s).ctx = s.ctx := rfl
@[simp] theorem modPwr_vat : (modPwr f s).vat = s.vat := rfl
@[simp] theorem modPwr_kt : (modPwr f s).kt = s.kt := rfl
@[simp] theorem modPwr_wt : (modPwr f s).wt = s.wt := rfl
@[simp] theorem modPwr_couch : (modPwr f s).couch = s.couch := rfl
@[simp] theorem modPwr_wm : (modPwr f s).wm = s.wm := rfl
@[simp] theorem modPwr_qu : (modPwr f s).qu = s.qu := rfl
@[simp] theorem modPwr_la : (modPwr f s).la = s.la := rfl
@[simp] theorem modPwr_memp : (modPwr f s).memp = s.memp := rfl
@[simp] theorem modPwr_felt : (modPwr f s).felt = s.felt := rfl
@[simp] theorem modPwr_res : (modPwr f s).res = s.res := rfl
@[simp] theorem modPwr_cal : (modPwr f s).cal = s.cal := rfl
@[simp] theorem modPwr_reel : (modPwr f s).reel = s.reel := rfl
@[simp] theorem modPwr_aon : (modPwr f s).aon = s.aon := rfl
@[simp] theorem modPwr_dump : (modPwr f s).dump = s.dump := rfl
@[simp] theorem modPwr_irq : (modPwr f s).irq = s.irq := rfl
@[simp] theorem modPwr_pwr : (modPwr f s).pwr = f s.pwr := rfl
@[simp] theorem modPwr_step : (modPwr f s).step = s.step := rfl
@[simp] theorem modPwr_sec : (modPwr f s).sec = s.sec := rfl
@[simp] theorem modPwr_boot : (modPwr f s).boot = s.boot := rfl
@[simp] theorem modPwr_sq : (modPwr f s).sq = s.sq := rfl
@[simp] theorem modPwr_regp : (modPwr f s).regp = s.regp := rfl
@[simp] theorem modPwr_eg : (modPwr f s).eg = s.eg := rfl
@[simp] theorem modPwr_pins : (modPwr f s).pins = s.pins := rfl

end

/-! ## modPins -/

section

variable (f : Pins → Pins)

@[simp] theorem modPins_pending : (modPins f s).pending = s.pending := rfl
@[simp] theorem modPins_clk : (modPins f s).clk = s.clk := rfl
@[simp] theorem modPins_hb : (modPins f s).hb = s.hb := rfl
@[simp] theorem modPins_ag : (modPins f s).ag = s.ag := rfl
@[simp] theorem modPins_xl : (modPins f s).xl = s.xl := rfl
@[simp] theorem modPins_ctx : (modPins f s).ctx = s.ctx := rfl
@[simp] theorem modPins_vat : (modPins f s).vat = s.vat := rfl
@[simp] theorem modPins_kt : (modPins f s).kt = s.kt := rfl
@[simp] theorem modPins_wt : (modPins f s).wt = s.wt := rfl
@[simp] theorem modPins_couch : (modPins f s).couch = s.couch := rfl
@[simp] theorem modPins_wm : (modPins f s).wm = s.wm := rfl
@[simp] theorem modPins_qu : (modPins f s).qu = s.qu := rfl
@[simp] theorem modPins_la : (modPins f s).la = s.la := rfl
@[simp] theorem modPins_memp : (modPins f s).memp = s.memp := rfl
@[simp] theorem modPins_felt : (modPins f s).felt = s.felt := rfl
@[simp] theorem modPins_res : (modPins f s).res = s.res := rfl
@[simp] theorem modPins_cal : (modPins f s).cal = s.cal := rfl
@[simp] theorem modPins_reel : (modPins f s).reel = s.reel := rfl
@[simp] theorem modPins_aon : (modPins f s).aon = s.aon := rfl
@[simp] theorem modPins_dump : (modPins f s).dump = s.dump := rfl
@[simp] theorem modPins_irq : (modPins f s).irq = s.irq := rfl
@[simp] theorem modPins_pwr : (modPins f s).pwr = s.pwr := rfl
@[simp] theorem modPins_step : (modPins f s).step = s.step := rfl
@[simp] theorem modPins_sec : (modPins f s).sec = s.sec := rfl
@[simp] theorem modPins_boot : (modPins f s).boot = s.boot := rfl
@[simp] theorem modPins_sq : (modPins f s).sq = s.sq := rfl
@[simp] theorem modPins_regp : (modPins f s).regp = s.regp := rfl
@[simp] theorem modPins_eg : (modPins f s).eg = s.eg := rfl
@[simp] theorem modPins_pins : (modPins f s).pins = f s.pins := rfl

end

/-! ## modReel -/

section

variable (f : Reel → Reel)

@[simp] theorem modReel_pending : (modReel f s).pending = s.pending := rfl
@[simp] theorem modReel_clk : (modReel f s).clk = s.clk := rfl
@[simp] theorem modReel_hb : (modReel f s).hb = s.hb := rfl
@[simp] theorem modReel_ag : (modReel f s).ag = s.ag := rfl
@[simp] theorem modReel_xl : (modReel f s).xl = s.xl := rfl
@[simp] theorem modReel_ctx : (modReel f s).ctx = s.ctx := rfl
@[simp] theorem modReel_vat : (modReel f s).vat = s.vat := rfl
@[simp] theorem modReel_kt : (modReel f s).kt = s.kt := rfl
@[simp] theorem modReel_wt : (modReel f s).wt = s.wt := rfl
@[simp] theorem modReel_couch : (modReel f s).couch = s.couch := rfl
@[simp] theorem modReel_wm : (modReel f s).wm = s.wm := rfl
@[simp] theorem modReel_qu : (modReel f s).qu = s.qu := rfl
@[simp] theorem modReel_la : (modReel f s).la = s.la := rfl
@[simp] theorem modReel_memp : (modReel f s).memp = s.memp := rfl
@[simp] theorem modReel_felt : (modReel f s).felt = s.felt := rfl
@[simp] theorem modReel_res : (modReel f s).res = s.res := rfl
@[simp] theorem modReel_cal : (modReel f s).cal = s.cal := rfl
@[simp] theorem modReel_reel : (modReel f s).reel = f s.reel := rfl
@[simp] theorem modReel_aon : (modReel f s).aon = s.aon := rfl
@[simp] theorem modReel_dump : (modReel f s).dump = s.dump := rfl
@[simp] theorem modReel_irq : (modReel f s).irq = s.irq := rfl
@[simp] theorem modReel_pwr : (modReel f s).pwr = s.pwr := rfl
@[simp] theorem modReel_step : (modReel f s).step = s.step := rfl
@[simp] theorem modReel_sec : (modReel f s).sec = s.sec := rfl
@[simp] theorem modReel_boot : (modReel f s).boot = s.boot := rfl
@[simp] theorem modReel_sq : (modReel f s).sq = s.sq := rfl
@[simp] theorem modReel_regp : (modReel f s).regp = s.regp := rfl
@[simp] theorem modReel_eg : (modReel f s).eg = s.eg := rfl
@[simp] theorem modReel_pins : (modReel f s).pins = s.pins := rfl

end

/-! ## modFelt -/

section

variable (f : Felt → Felt)

@[simp] theorem modFelt_pending : (modFelt f s).pending = s.pending := rfl
@[simp] theorem modFelt_clk : (modFelt f s).clk = s.clk := rfl
@[simp] theorem modFelt_hb : (modFelt f s).hb = s.hb := rfl
@[simp] theorem modFelt_ag : (modFelt f s).ag = s.ag := rfl
@[simp] theorem modFelt_xl : (modFelt f s).xl = s.xl := rfl
@[simp] theorem modFelt_ctx : (modFelt f s).ctx = s.ctx := rfl
@[simp] theorem modFelt_vat : (modFelt f s).vat = s.vat := rfl
@[simp] theorem modFelt_kt : (modFelt f s).kt = s.kt := rfl
@[simp] theorem modFelt_wt : (modFelt f s).wt = s.wt := rfl
@[simp] theorem modFelt_couch : (modFelt f s).couch = s.couch := rfl
@[simp] theorem modFelt_wm : (modFelt f s).wm = s.wm := rfl
@[simp] theorem modFelt_qu : (modFelt f s).qu = s.qu := rfl
@[simp] theorem modFelt_la : (modFelt f s).la = s.la := rfl
@[simp] theorem modFelt_memp : (modFelt f s).memp = s.memp := rfl
@[simp] theorem modFelt_felt : (modFelt f s).felt = f s.felt := rfl
@[simp] theorem modFelt_res : (modFelt f s).res = s.res := rfl
@[simp] theorem modFelt_cal : (modFelt f s).cal = s.cal := rfl
@[simp] theorem modFelt_reel : (modFelt f s).reel = s.reel := rfl
@[simp] theorem modFelt_aon : (modFelt f s).aon = s.aon := rfl
@[simp] theorem modFelt_dump : (modFelt f s).dump = s.dump := rfl
@[simp] theorem modFelt_irq : (modFelt f s).irq = s.irq := rfl
@[simp] theorem modFelt_pwr : (modFelt f s).pwr = s.pwr := rfl
@[simp] theorem modFelt_step : (modFelt f s).step = s.step := rfl
@[simp] theorem modFelt_sec : (modFelt f s).sec = s.sec := rfl
@[simp] theorem modFelt_boot : (modFelt f s).boot = s.boot := rfl
@[simp] theorem modFelt_sq : (modFelt f s).sq = s.sq := rfl
@[simp] theorem modFelt_regp : (modFelt f s).regp = s.regp := rfl
@[simp] theorem modFelt_eg : (modFelt f s).eg = s.eg := rfl
@[simp] theorem modFelt_pins : (modFelt f s).pins = s.pins := rfl

end

/-! ## modSec -/

section

variable (f : Sec → Sec)

@[simp] theorem modSec_pending : (modSec f s).pending = s.pending := rfl
@[simp] theorem modSec_clk : (modSec f s).clk = s.clk := rfl
@[simp] theorem modSec_hb : (modSec f s).hb = s.hb := rfl
@[simp] theorem modSec_ag : (modSec f s).ag = s.ag := rfl
@[simp] theorem modSec_xl : (modSec f s).xl = s.xl := rfl
@[simp] theorem modSec_ctx : (modSec f s).ctx = s.ctx := rfl
@[simp] theorem modSec_vat : (modSec f s).vat = s.vat := rfl
@[simp] theorem modSec_kt : (modSec f s).kt = s.kt := rfl
@[simp] theorem modSec_wt : (modSec f s).wt = s.wt := rfl
@[simp] theorem modSec_couch : (modSec f s).couch = s.couch := rfl
@[simp] theorem modSec_wm : (modSec f s).wm = s.wm := rfl
@[simp] theorem modSec_qu : (modSec f s).qu = s.qu := rfl
@[simp] theorem modSec_la : (modSec f s).la = s.la := rfl
@[simp] theorem modSec_memp : (modSec f s).memp = s.memp := rfl
@[simp] theorem modSec_felt : (modSec f s).felt = s.felt := rfl
@[simp] theorem modSec_res : (modSec f s).res = s.res := rfl
@[simp] theorem modSec_cal : (modSec f s).cal = s.cal := rfl
@[simp] theorem modSec_reel : (modSec f s).reel = s.reel := rfl
@[simp] theorem modSec_aon : (modSec f s).aon = s.aon := rfl
@[simp] theorem modSec_dump : (modSec f s).dump = s.dump := rfl
@[simp] theorem modSec_irq : (modSec f s).irq = s.irq := rfl
@[simp] theorem modSec_pwr : (modSec f s).pwr = s.pwr := rfl
@[simp] theorem modSec_step : (modSec f s).step = s.step := rfl
@[simp] theorem modSec_sec : (modSec f s).sec = f s.sec := rfl
@[simp] theorem modSec_boot : (modSec f s).boot = s.boot := rfl
@[simp] theorem modSec_sq : (modSec f s).sq = s.sq := rfl
@[simp] theorem modSec_regp : (modSec f s).regp = s.regp := rfl
@[simp] theorem modSec_eg : (modSec f s).eg = s.eg := rfl
@[simp] theorem modSec_pins : (modSec f s).pins = s.pins := rfl

end

/-! ## modStep -/

section

variable (f : Step → Step)

@[simp] theorem modStep_pending : (modStep f s).pending = s.pending := rfl
@[simp] theorem modStep_clk : (modStep f s).clk = s.clk := rfl
@[simp] theorem modStep_hb : (modStep f s).hb = s.hb := rfl
@[simp] theorem modStep_ag : (modStep f s).ag = s.ag := rfl
@[simp] theorem modStep_xl : (modStep f s).xl = s.xl := rfl
@[simp] theorem modStep_ctx : (modStep f s).ctx = s.ctx := rfl
@[simp] theorem modStep_vat : (modStep f s).vat = s.vat := rfl
@[simp] theorem modStep_kt : (modStep f s).kt = s.kt := rfl
@[simp] theorem modStep_wt : (modStep f s).wt = s.wt := rfl
@[simp] theorem modStep_couch : (modStep f s).couch = s.couch := rfl
@[simp] theorem modStep_wm : (modStep f s).wm = s.wm := rfl
@[simp] theorem modStep_qu : (modStep f s).qu = s.qu := rfl
@[simp] theorem modStep_la : (modStep f s).la = s.la := rfl
@[simp] theorem modStep_memp : (modStep f s).memp = s.memp := rfl
@[simp] theorem modStep_felt : (modStep f s).felt = s.felt := rfl
@[simp] theorem modStep_res : (modStep f s).res = s.res := rfl
@[simp] theorem modStep_cal : (modStep f s).cal = s.cal := rfl
@[simp] theorem modStep_reel : (modStep f s).reel = s.reel := rfl
@[simp] theorem modStep_aon : (modStep f s).aon = s.aon := rfl
@[simp] theorem modStep_dump : (modStep f s).dump = s.dump := rfl
@[simp] theorem modStep_irq : (modStep f s).irq = s.irq := rfl
@[simp] theorem modStep_pwr : (modStep f s).pwr = s.pwr := rfl
@[simp] theorem modStep_step : (modStep f s).step = f s.step := rfl
@[simp] theorem modStep_sec : (modStep f s).sec = s.sec := rfl
@[simp] theorem modStep_boot : (modStep f s).boot = s.boot := rfl
@[simp] theorem modStep_sq : (modStep f s).sq = s.sq := rfl
@[simp] theorem modStep_regp : (modStep f s).regp = s.regp := rfl
@[simp] theorem modStep_eg : (modStep f s).eg = s.eg := rfl
@[simp] theorem modStep_pins : (modStep f s).pins = s.pins := rfl

end

/-! ## modCouch -/

section

variable (f : Couch → Couch)

@[simp] theorem modCouch_pending : (modCouch f s).pending = s.pending := rfl
@[simp] theorem modCouch_clk : (modCouch f s).clk = s.clk := rfl
@[simp] theorem modCouch_hb : (modCouch f s).hb = s.hb := rfl
@[simp] theorem modCouch_ag : (modCouch f s).ag = s.ag := rfl
@[simp] theorem modCouch_xl : (modCouch f s).xl = s.xl := rfl
@[simp] theorem modCouch_ctx : (modCouch f s).ctx = s.ctx := rfl
@[simp] theorem modCouch_vat : (modCouch f s).vat = s.vat := rfl
@[simp] theorem modCouch_kt : (modCouch f s).kt = s.kt := rfl
@[simp] theorem modCouch_wt : (modCouch f s).wt = s.wt := rfl
@[simp] theorem modCouch_couch : (modCouch f s).couch = f s.couch := rfl
@[simp] theorem modCouch_wm : (modCouch f s).wm = s.wm := rfl
@[simp] theorem modCouch_qu : (modCouch f s).qu = s.qu := rfl
@[simp] theorem modCouch_la : (modCouch f s).la = s.la := rfl
@[simp] theorem modCouch_memp : (modCouch f s).memp = s.memp := rfl
@[simp] theorem modCouch_felt : (modCouch f s).felt = s.felt := rfl
@[simp] theorem modCouch_res : (modCouch f s).res = s.res := rfl
@[simp] theorem modCouch_cal : (modCouch f s).cal = s.cal := rfl
@[simp] theorem modCouch_reel : (modCouch f s).reel = s.reel := rfl
@[simp] theorem modCouch_aon : (modCouch f s).aon = s.aon := rfl
@[simp] theorem modCouch_dump : (modCouch f s).dump = s.dump := rfl
@[simp] theorem modCouch_irq : (modCouch f s).irq = s.irq := rfl
@[simp] theorem modCouch_pwr : (modCouch f s).pwr = s.pwr := rfl
@[simp] theorem modCouch_step : (modCouch f s).step = s.step := rfl
@[simp] theorem modCouch_sec : (modCouch f s).sec = s.sec := rfl
@[simp] theorem modCouch_boot : (modCouch f s).boot = s.boot := rfl
@[simp] theorem modCouch_sq : (modCouch f s).sq = s.sq := rfl
@[simp] theorem modCouch_regp : (modCouch f s).regp = s.regp := rfl
@[simp] theorem modCouch_eg : (modCouch f s).eg = s.eg := rfl
@[simp] theorem modCouch_pins : (modCouch f s).pins = s.pins := rfl

end

/-! ## modQRec -/

section

variable (q : Nat) (f : QRec → QRec)

@[simp] theorem modQRec_pending : (modQRec q f s).pending = s.pending := rfl
@[simp] theorem modQRec_clk : (modQRec q f s).clk = s.clk := rfl
@[simp] theorem modQRec_hb : (modQRec q f s).hb = s.hb := rfl
@[simp] theorem modQRec_ag : (modQRec q f s).ag = s.ag := rfl
@[simp] theorem modQRec_xl : (modQRec q f s).xl = s.xl := rfl
@[simp] theorem modQRec_ctx : (modQRec q f s).ctx = s.ctx := rfl
@[simp] theorem modQRec_vat : (modQRec q f s).vat = s.vat := rfl
@[simp] theorem modQRec_kt : (modQRec q f s).kt = s.kt := rfl
@[simp] theorem modQRec_wt : (modQRec q f s).wt = s.wt := rfl
@[simp] theorem modQRec_couch : (modQRec q f s).couch = s.couch := rfl
@[simp] theorem modQRec_wm : (modQRec q f s).wm = s.wm := rfl
@[simp] theorem modQRec_qu : (modQRec q f s).qu = { s.qu with recs := tmod s.qu.recs q f } := rfl
@[simp] theorem modQRec_la : (modQRec q f s).la = s.la := rfl
@[simp] theorem modQRec_memp : (modQRec q f s).memp = s.memp := rfl
@[simp] theorem modQRec_felt : (modQRec q f s).felt = s.felt := rfl
@[simp] theorem modQRec_res : (modQRec q f s).res = s.res := rfl
@[simp] theorem modQRec_cal : (modQRec q f s).cal = s.cal := rfl
@[simp] theorem modQRec_reel : (modQRec q f s).reel = s.reel := rfl
@[simp] theorem modQRec_aon : (modQRec q f s).aon = s.aon := rfl
@[simp] theorem modQRec_dump : (modQRec q f s).dump = s.dump := rfl
@[simp] theorem modQRec_irq : (modQRec q f s).irq = s.irq := rfl
@[simp] theorem modQRec_pwr : (modQRec q f s).pwr = s.pwr := rfl
@[simp] theorem modQRec_step : (modQRec q f s).step = s.step := rfl
@[simp] theorem modQRec_sec : (modQRec q f s).sec = s.sec := rfl
@[simp] theorem modQRec_boot : (modQRec q f s).boot = s.boot := rfl
@[simp] theorem modQRec_sq : (modQRec q f s).sq = s.sq := rfl
@[simp] theorem modQRec_regp : (modQRec q f s).regp = s.regp := rfl
@[simp] theorem modQRec_eg : (modQRec q f s).eg = s.eg := rfl
@[simp] theorem modQRec_pins : (modQRec q f s).pins = s.pins := rfl

end

/-! ## modDesc -/

section

variable (d : Nat) (f : Desc → Desc)

@[simp] theorem modDesc_pending : (modDesc d f s).pending = s.pending := rfl
@[simp] theorem modDesc_clk : (modDesc d f s).clk = s.clk := rfl
@[simp] theorem modDesc_hb : (modDesc d f s).hb = s.hb := rfl
@[simp] theorem modDesc_ag : (modDesc d f s).ag = s.ag := rfl
@[simp] theorem modDesc_xl : (modDesc d f s).xl = s.xl := rfl
@[simp] theorem modDesc_ctx : (modDesc d f s).ctx = s.ctx := rfl
@[simp] theorem modDesc_vat : (modDesc d f s).vat = s.vat := rfl
@[simp] theorem modDesc_kt : (modDesc d f s).kt = s.kt := rfl
@[simp] theorem modDesc_wt : (modDesc d f s).wt = s.wt := rfl
@[simp] theorem modDesc_couch : (modDesc d f s).couch = s.couch := rfl
@[simp] theorem modDesc_wm : (modDesc d f s).wm = s.wm := rfl
@[simp] theorem modDesc_qu : (modDesc d f s).qu = s.qu := rfl
@[simp] theorem modDesc_la : (modDesc d f s).la = { s.la with descs := tmod s.la.descs d f } := rfl
@[simp] theorem modDesc_memp : (modDesc d f s).memp = s.memp := rfl
@[simp] theorem modDesc_felt : (modDesc d f s).felt = s.felt := rfl
@[simp] theorem modDesc_res : (modDesc d f s).res = s.res := rfl
@[simp] theorem modDesc_cal : (modDesc d f s).cal = s.cal := rfl
@[simp] theorem modDesc_reel : (modDesc d f s).reel = s.reel := rfl
@[simp] theorem modDesc_aon : (modDesc d f s).aon = s.aon := rfl
@[simp] theorem modDesc_dump : (modDesc d f s).dump = s.dump := rfl
@[simp] theorem modDesc_irq : (modDesc d f s).irq = s.irq := rfl
@[simp] theorem modDesc_pwr : (modDesc d f s).pwr = s.pwr := rfl
@[simp] theorem modDesc_step : (modDesc d f s).step = s.step := rfl
@[simp] theorem modDesc_sec : (modDesc d f s).sec = s.sec := rfl
@[simp] theorem modDesc_boot : (modDesc d f s).boot = s.boot := rfl
@[simp] theorem modDesc_sq : (modDesc d f s).sq = s.sq := rfl
@[simp] theorem modDesc_regp : (modDesc d f s).regp = s.regp := rfl
@[simp] theorem modDesc_eg : (modDesc d f s).eg = s.eg := rfl
@[simp] theorem modDesc_pins : (modDesc d f s).pins = s.pins := rfl

end

/-! ## bumpAon -/

section

variable (c : Nat)

@[simp] theorem bumpAon_pending : (bumpAon c s).pending = s.pending := rfl
@[simp] theorem bumpAon_clk : (bumpAon c s).clk = s.clk := rfl
@[simp] theorem bumpAon_hb : (bumpAon c s).hb = s.hb := rfl
@[simp] theorem bumpAon_ag : (bumpAon c s).ag = s.ag := rfl
@[simp] theorem bumpAon_xl : (bumpAon c s).xl = s.xl := rfl
@[simp] theorem bumpAon_ctx : (bumpAon c s).ctx = s.ctx := rfl
@[simp] theorem bumpAon_vat : (bumpAon c s).vat = s.vat := rfl
@[simp] theorem bumpAon_kt : (bumpAon c s).kt = s.kt := rfl
@[simp] theorem bumpAon_wt : (bumpAon c s).wt = s.wt := rfl
@[simp] theorem bumpAon_couch : (bumpAon c s).couch = s.couch := rfl
@[simp] theorem bumpAon_wm : (bumpAon c s).wm = s.wm := rfl
@[simp] theorem bumpAon_qu : (bumpAon c s).qu = s.qu := rfl
@[simp] theorem bumpAon_la : (bumpAon c s).la = s.la := rfl
@[simp] theorem bumpAon_memp : (bumpAon c s).memp = s.memp := rfl
@[simp] theorem bumpAon_felt : (bumpAon c s).felt = s.felt := rfl
@[simp] theorem bumpAon_res : (bumpAon c s).res = s.res := rfl
@[simp] theorem bumpAon_cal : (bumpAon c s).cal = s.cal := rfl
@[simp] theorem bumpAon_reel : (bumpAon c s).reel = s.reel := rfl
@[simp] theorem bumpAon_aon : (bumpAon c s).aon = bumpAt s.aon c := rfl
@[simp] theorem bumpAon_dump : (bumpAon c s).dump = s.dump := rfl
@[simp] theorem bumpAon_irq : (bumpAon c s).irq = s.irq := rfl
@[simp] theorem bumpAon_pwr : (bumpAon c s).pwr = s.pwr := rfl
@[simp] theorem bumpAon_step : (bumpAon c s).step = s.step := rfl
@[simp] theorem bumpAon_sec : (bumpAon c s).sec = s.sec := rfl
@[simp] theorem bumpAon_boot : (bumpAon c s).boot = s.boot := rfl
@[simp] theorem bumpAon_sq : (bumpAon c s).sq = s.sq := rfl
@[simp] theorem bumpAon_regp : (bumpAon c s).regp = s.regp := rfl
@[simp] theorem bumpAon_eg : (bumpAon c s).eg = s.eg := rfl
@[simp] theorem bumpAon_pins : (bumpAon c s).pins = s.pins := rfl

end

/-! ## push -/

section

variable (k : Nat) (f : OutFlit) (p : Option Nat)

@[simp] theorem push_pending : (push k f p s).pending = s.pending := rfl
@[simp] theorem push_clk : (push k f p s).clk = s.clk := rfl
@[simp] theorem push_hb : (push k f p s).hb = s.hb := rfl
@[simp] theorem push_ag : (push k f p s).ag = s.ag := rfl
@[simp] theorem push_xl : (push k f p s).xl = s.xl := rfl
@[simp] theorem push_ctx : (push k f p s).ctx = s.ctx := rfl
@[simp] theorem push_vat : (push k f p s).vat = s.vat := rfl
@[simp] theorem push_kt : (push k f p s).kt = s.kt := rfl
@[simp] theorem push_wt : (push k f p s).wt = s.wt := rfl
@[simp] theorem push_couch : (push k f p s).couch = s.couch := rfl
@[simp] theorem push_wm : (push k f p s).wm = s.wm := rfl
@[simp] theorem push_qu : (push k f p s).qu = s.qu := rfl
@[simp] theorem push_la : (push k f p s).la = s.la := rfl
@[simp] theorem push_memp : (push k f p s).memp = s.memp := rfl
@[simp] theorem push_felt : (push k f p s).felt = s.felt := rfl
@[simp] theorem push_res : (push k f p s).res = s.res := rfl
@[simp] theorem push_cal : (push k f p s).cal = s.cal := rfl
@[simp] theorem push_reel : (push k f p s).reel = s.reel := rfl
@[simp] theorem push_aon : (push k f p s).aon = s.aon := rfl
@[simp] theorem push_dump : (push k f p s).dump = s.dump := rfl
@[simp] theorem push_irq : (push k f p s).irq = s.irq := rfl
@[simp] theorem push_pwr : (push k f p s).pwr = s.pwr := rfl
@[simp] theorem push_step : (push k f p s).step = s.step := rfl
@[simp] theorem push_sec : (push k f p s).sec = s.sec := rfl
@[simp] theorem push_boot : (push k f p s).boot = s.boot := rfl
@[simp] theorem push_sq : (push k f p s).sq = s.sq := rfl
@[simp] theorem push_regp : (push k f p s).regp = s.regp := rfl
@[simp] theorem push_eg : (push k f p s).eg = { s.eg with queue := s.eg.queue ++ [{ f, prio := k, built := s.clk.cycle, pend := p }] } := rfl
@[simp] theorem push_pins : (push k f p s).pins = s.pins := rfl

end

/-! ## modCtxCnt -/

section

variable (c : CtxId) (f : CtxCnt → CtxCnt)

@[simp] theorem modCtxCnt_pending : (modCtxCnt c f s).pending = s.pending := rfl
@[simp] theorem modCtxCnt_clk : (modCtxCnt c f s).clk = s.clk := rfl
@[simp] theorem modCtxCnt_hb : (modCtxCnt c f s).hb = s.hb := rfl
@[simp] theorem modCtxCnt_ag : (modCtxCnt c f s).ag = s.ag := rfl
@[simp] theorem modCtxCnt_xl : (modCtxCnt c f s).xl = s.xl := rfl
@[simp] theorem modCtxCnt_vat : (modCtxCnt c f s).vat = s.vat := rfl
@[simp] theorem modCtxCnt_kt : (modCtxCnt c f s).kt = s.kt := rfl
@[simp] theorem modCtxCnt_wt : (modCtxCnt c f s).wt = s.wt := rfl
@[simp] theorem modCtxCnt_couch : (modCtxCnt c f s).couch = s.couch := rfl
@[simp] theorem modCtxCnt_wm : (modCtxCnt c f s).wm = s.wm := rfl
@[simp] theorem modCtxCnt_qu : (modCtxCnt c f s).qu = s.qu := rfl
@[simp] theorem modCtxCnt_la : (modCtxCnt c f s).la = s.la := rfl
@[simp] theorem modCtxCnt_memp : (modCtxCnt c f s).memp = s.memp := rfl
@[simp] theorem modCtxCnt_felt : (modCtxCnt c f s).felt = s.felt := rfl
@[simp] theorem modCtxCnt_res : (modCtxCnt c f s).res = s.res := rfl
@[simp] theorem modCtxCnt_cal : (modCtxCnt c f s).cal = s.cal := rfl
@[simp] theorem modCtxCnt_reel : (modCtxCnt c f s).reel = s.reel := rfl
@[simp] theorem modCtxCnt_aon : (modCtxCnt c f s).aon = s.aon := rfl
@[simp] theorem modCtxCnt_dump : (modCtxCnt c f s).dump = s.dump := rfl
@[simp] theorem modCtxCnt_irq : (modCtxCnt c f s).irq = s.irq := rfl
@[simp] theorem modCtxCnt_pwr : (modCtxCnt c f s).pwr = s.pwr := rfl
@[simp] theorem modCtxCnt_step : (modCtxCnt c f s).step = s.step := rfl
@[simp] theorem modCtxCnt_sec : (modCtxCnt c f s).sec = s.sec := rfl
@[simp] theorem modCtxCnt_boot : (modCtxCnt c f s).boot = s.boot := rfl
@[simp] theorem modCtxCnt_sq : (modCtxCnt c f s).sq = s.sq := rfl
@[simp] theorem modCtxCnt_regp : (modCtxCnt c f s).regp = s.regp := rfl
@[simp] theorem modCtxCnt_eg : (modCtxCnt c f s).eg = s.eg := rfl
@[simp] theorem modCtxCnt_pins : (modCtxCnt c f s).pins = s.pins := rfl

end

/-! ## modStream -/

section

variable (d : DieId) (f : Machine.Stream → Machine.Stream)

@[simp] theorem modStream_pending : (modStream d f s).pending = s.pending := rfl
@[simp] theorem modStream_clk : (modStream d f s).clk = s.clk := rfl
@[simp] theorem modStream_hb : (modStream d f s).hb = s.hb := rfl
@[simp] theorem modStream_ag : (modStream d f s).ag = s.ag := rfl
@[simp] theorem modStream_xl : (modStream d f s).xl = s.xl := rfl
@[simp] theorem modStream_ctx : (modStream d f s).ctx = s.ctx := rfl
@[simp] theorem modStream_vat : (modStream d f s).vat = s.vat := rfl
@[simp] theorem modStream_kt : (modStream d f s).kt = s.kt := rfl
@[simp] theorem modStream_wt : (modStream d f s).wt = s.wt := rfl
@[simp] theorem modStream_couch : (modStream d f s).couch = s.couch := rfl
@[simp] theorem modStream_wm : (modStream d f s).wm = s.wm := rfl
@[simp] theorem modStream_qu : (modStream d f s).qu = s.qu := rfl
@[simp] theorem modStream_la : (modStream d f s).la = s.la := rfl
@[simp] theorem modStream_memp : (modStream d f s).memp = s.memp := rfl
@[simp] theorem modStream_res : (modStream d f s).res = s.res := rfl
@[simp] theorem modStream_cal : (modStream d f s).cal = s.cal := rfl
@[simp] theorem modStream_reel : (modStream d f s).reel = s.reel := rfl
@[simp] theorem modStream_aon : (modStream d f s).aon = s.aon := rfl
@[simp] theorem modStream_dump : (modStream d f s).dump = s.dump := rfl
@[simp] theorem modStream_irq : (modStream d f s).irq = s.irq := rfl
@[simp] theorem modStream_pwr : (modStream d f s).pwr = s.pwr := rfl
@[simp] theorem modStream_step : (modStream d f s).step = s.step := rfl
@[simp] theorem modStream_sec : (modStream d f s).sec = s.sec := rfl
@[simp] theorem modStream_boot : (modStream d f s).boot = s.boot := rfl
@[simp] theorem modStream_sq : (modStream d f s).sq = s.sq := rfl
@[simp] theorem modStream_regp : (modStream d f s).regp = s.regp := rfl
@[simp] theorem modStream_eg : (modStream d f s).eg = s.eg := rfl
@[simp] theorem modStream_pins : (modStream d f s).pins = s.pins := rfl

end

/-! ## modLq -/

section

variable (q : Nat) (f : LQueue → LQueue)

@[simp] theorem modLq_pending : (modLq q f s).pending = s.pending := rfl
@[simp] theorem modLq_clk : (modLq q f s).clk = s.clk := rfl
@[simp] theorem modLq_hb : (modLq q f s).hb = s.hb := rfl
@[simp] theorem modLq_ag : (modLq q f s).ag = s.ag := rfl
@[simp] theorem modLq_xl : (modLq q f s).xl = s.xl := rfl
@[simp] theorem modLq_ctx : (modLq q f s).ctx = s.ctx := rfl
@[simp] theorem modLq_vat : (modLq q f s).vat = s.vat := rfl
@[simp] theorem modLq_kt : (modLq q f s).kt = s.kt := rfl
@[simp] theorem modLq_wt : (modLq q f s).wt = s.wt := rfl
@[simp] theorem modLq_couch : (modLq q f s).couch = s.couch := rfl
@[simp] theorem modLq_wm : (modLq q f s).wm = s.wm := rfl
@[simp] theorem modLq_qu : (modLq q f s).qu = s.qu := rfl
@[simp] theorem modLq_memp : (modLq q f s).memp = s.memp := rfl
@[simp] theorem modLq_felt : (modLq q f s).felt = s.felt := rfl
@[simp] theorem modLq_res : (modLq q f s).res = s.res := rfl
@[simp] theorem modLq_cal : (modLq q f s).cal = s.cal := rfl
@[simp] theorem modLq_reel : (modLq q f s).reel = s.reel := rfl
@[simp] theorem modLq_aon : (modLq q f s).aon = s.aon := rfl
@[simp] theorem modLq_dump : (modLq q f s).dump = s.dump := rfl
@[simp] theorem modLq_irq : (modLq q f s).irq = s.irq := rfl
@[simp] theorem modLq_pwr : (modLq q f s).pwr = s.pwr := rfl
@[simp] theorem modLq_step : (modLq q f s).step = s.step := rfl
@[simp] theorem modLq_sec : (modLq q f s).sec = s.sec := rfl
@[simp] theorem modLq_boot : (modLq q f s).boot = s.boot := rfl
@[simp] theorem modLq_sq : (modLq q f s).sq = s.sq := rfl
@[simp] theorem modLq_regp : (modLq q f s).regp = s.regp := rfl
@[simp] theorem modLq_eg : (modLq q f s).eg = s.eg := rfl
@[simp] theorem modLq_pins : (modLq q f s).pins = s.pins := rfl

end

/-! ## modCtx -/

section

variable (c : Nat) (f : CtxEntry → CtxEntry)

@[simp] theorem modCtx_pending : (modCtx c f s).pending = s.pending := rfl
@[simp] theorem modCtx_clk : (modCtx c f s).clk = s.clk := rfl
@[simp] theorem modCtx_hb : (modCtx c f s).hb = s.hb := rfl
@[simp] theorem modCtx_ag : (modCtx c f s).ag = s.ag := rfl
@[simp] theorem modCtx_xl : (modCtx c f s).xl = s.xl := rfl
@[simp] theorem modCtx_vat : (modCtx c f s).vat = s.vat := rfl
@[simp] theorem modCtx_kt : (modCtx c f s).kt = s.kt := rfl
@[simp] theorem modCtx_wt : (modCtx c f s).wt = s.wt := rfl
@[simp] theorem modCtx_couch : (modCtx c f s).couch = s.couch := rfl
@[simp] theorem modCtx_wm : (modCtx c f s).wm = s.wm := rfl
@[simp] theorem modCtx_qu : (modCtx c f s).qu = s.qu := rfl
@[simp] theorem modCtx_la : (modCtx c f s).la = s.la := rfl
@[simp] theorem modCtx_memp : (modCtx c f s).memp = s.memp := rfl
@[simp] theorem modCtx_felt : (modCtx c f s).felt = s.felt := rfl
@[simp] theorem modCtx_res : (modCtx c f s).res = s.res := rfl
@[simp] theorem modCtx_cal : (modCtx c f s).cal = s.cal := rfl
@[simp] theorem modCtx_reel : (modCtx c f s).reel = s.reel := rfl
@[simp] theorem modCtx_aon : (modCtx c f s).aon = s.aon := rfl
@[simp] theorem modCtx_dump : (modCtx c f s).dump = s.dump := rfl
@[simp] theorem modCtx_irq : (modCtx c f s).irq = s.irq := rfl
@[simp] theorem modCtx_pwr : (modCtx c f s).pwr = s.pwr := rfl
@[simp] theorem modCtx_step : (modCtx c f s).step = s.step := rfl
@[simp] theorem modCtx_sec : (modCtx c f s).sec = s.sec := rfl
@[simp] theorem modCtx_boot : (modCtx c f s).boot = s.boot := rfl
@[simp] theorem modCtx_sq : (modCtx c f s).sq = s.sq := rfl
@[simp] theorem modCtx_regp : (modCtx c f s).regp = s.regp := rfl
@[simp] theorem modCtx_eg : (modCtx c f s).eg = s.eg := rfl
@[simp] theorem modCtx_pins : (modCtx c f s).pins = s.pins := rfl

end

/-! ## modHome -/

section

variable (k : QKey) (f : HomeQ → HomeQ)

@[simp] theorem modHome_pending : (modHome k f s).pending = s.pending := rfl
@[simp] theorem modHome_clk : (modHome k f s).clk = s.clk := rfl
@[simp] theorem modHome_hb : (modHome k f s).hb = s.hb := rfl
@[simp] theorem modHome_ag : (modHome k f s).ag = s.ag := rfl
@[simp] theorem modHome_xl : (modHome k f s).xl = s.xl := rfl
@[simp] theorem modHome_ctx : (modHome k f s).ctx = s.ctx := rfl
@[simp] theorem modHome_vat : (modHome k f s).vat = s.vat := rfl
@[simp] theorem modHome_kt : (modHome k f s).kt = s.kt := rfl
@[simp] theorem modHome_wt : (modHome k f s).wt = s.wt := rfl
@[simp] theorem modHome_couch : (modHome k f s).couch = s.couch := rfl
@[simp] theorem modHome_wm : (modHome k f s).wm = s.wm := rfl
@[simp] theorem modHome_la : (modHome k f s).la = s.la := rfl
@[simp] theorem modHome_memp : (modHome k f s).memp = s.memp := rfl
@[simp] theorem modHome_felt : (modHome k f s).felt = s.felt := rfl
@[simp] theorem modHome_res : (modHome k f s).res = s.res := rfl
@[simp] theorem modHome_cal : (modHome k f s).cal = s.cal := rfl
@[simp] theorem modHome_reel : (modHome k f s).reel = s.reel := rfl
@[simp] theorem modHome_aon : (modHome k f s).aon = s.aon := rfl
@[simp] theorem modHome_dump : (modHome k f s).dump = s.dump := rfl
@[simp] theorem modHome_irq : (modHome k f s).irq = s.irq := rfl
@[simp] theorem modHome_pwr : (modHome k f s).pwr = s.pwr := rfl
@[simp] theorem modHome_step : (modHome k f s).step = s.step := rfl
@[simp] theorem modHome_sec : (modHome k f s).sec = s.sec := rfl
@[simp] theorem modHome_boot : (modHome k f s).boot = s.boot := rfl
@[simp] theorem modHome_sq : (modHome k f s).sq = s.sq := rfl
@[simp] theorem modHome_regp : (modHome k f s).regp = s.regp := rfl
@[simp] theorem modHome_eg : (modHome k f s).eg = s.eg := rfl
@[simp] theorem modHome_pins : (modHome k f s).pins = s.pins := rfl

end

/-! ## modMember -/

section

variable (k : QKey) (p : Nat) (f : HMember → HMember)

@[simp] theorem modMember_pending : (modMember k p f s).pending = s.pending := rfl
@[simp] theorem modMember_clk : (modMember k p f s).clk = s.clk := rfl
@[simp] theorem modMember_hb : (modMember k p f s).hb = s.hb := rfl
@[simp] theorem modMember_ag : (modMember k p f s).ag = s.ag := rfl
@[simp] theorem modMember_xl : (modMember k p f s).xl = s.xl := rfl
@[simp] theorem modMember_ctx : (modMember k p f s).ctx = s.ctx := rfl
@[simp] theorem modMember_vat : (modMember k p f s).vat = s.vat := rfl
@[simp] theorem modMember_kt : (modMember k p f s).kt = s.kt := rfl
@[simp] theorem modMember_wt : (modMember k p f s).wt = s.wt := rfl
@[simp] theorem modMember_couch : (modMember k p f s).couch = s.couch := rfl
@[simp] theorem modMember_wm : (modMember k p f s).wm = s.wm := rfl
@[simp] theorem modMember_la : (modMember k p f s).la = s.la := rfl
@[simp] theorem modMember_memp : (modMember k p f s).memp = s.memp := rfl
@[simp] theorem modMember_felt : (modMember k p f s).felt = s.felt := rfl
@[simp] theorem modMember_res : (modMember k p f s).res = s.res := rfl
@[simp] theorem modMember_cal : (modMember k p f s).cal = s.cal := rfl
@[simp] theorem modMember_reel : (modMember k p f s).reel = s.reel := rfl
@[simp] theorem modMember_aon : (modMember k p f s).aon = s.aon := rfl
@[simp] theorem modMember_dump : (modMember k p f s).dump = s.dump := rfl
@[simp] theorem modMember_irq : (modMember k p f s).irq = s.irq := rfl
@[simp] theorem modMember_pwr : (modMember k p f s).pwr = s.pwr := rfl
@[simp] theorem modMember_step : (modMember k p f s).step = s.step := rfl
@[simp] theorem modMember_sec : (modMember k p f s).sec = s.sec := rfl
@[simp] theorem modMember_boot : (modMember k p f s).boot = s.boot := rfl
@[simp] theorem modMember_sq : (modMember k p f s).sq = s.sq := rfl
@[simp] theorem modMember_regp : (modMember k p f s).regp = s.regp := rfl
@[simp] theorem modMember_eg : (modMember k p f s).eg = s.eg := rfl
@[simp] theorem modMember_pins : (modMember k p f s).pins = s.pins := rfl

end

/-! ## modCoord -/

section

variable (k : QKey) (f : Coord → Coord)

@[simp] theorem modCoord_pending : (modCoord k f s).pending = s.pending := rfl
@[simp] theorem modCoord_clk : (modCoord k f s).clk = s.clk := rfl
@[simp] theorem modCoord_hb : (modCoord k f s).hb = s.hb := rfl
@[simp] theorem modCoord_ag : (modCoord k f s).ag = s.ag := rfl
@[simp] theorem modCoord_xl : (modCoord k f s).xl = s.xl := rfl
@[simp] theorem modCoord_ctx : (modCoord k f s).ctx = s.ctx := rfl
@[simp] theorem modCoord_vat : (modCoord k f s).vat = s.vat := rfl
@[simp] theorem modCoord_kt : (modCoord k f s).kt = s.kt := rfl
@[simp] theorem modCoord_wt : (modCoord k f s).wt = s.wt := rfl
@[simp] theorem modCoord_couch : (modCoord k f s).couch = s.couch := rfl
@[simp] theorem modCoord_wm : (modCoord k f s).wm = s.wm := rfl
@[simp] theorem modCoord_la : (modCoord k f s).la = s.la := rfl
@[simp] theorem modCoord_memp : (modCoord k f s).memp = s.memp := rfl
@[simp] theorem modCoord_felt : (modCoord k f s).felt = s.felt := rfl
@[simp] theorem modCoord_res : (modCoord k f s).res = s.res := rfl
@[simp] theorem modCoord_cal : (modCoord k f s).cal = s.cal := rfl
@[simp] theorem modCoord_reel : (modCoord k f s).reel = s.reel := rfl
@[simp] theorem modCoord_aon : (modCoord k f s).aon = s.aon := rfl
@[simp] theorem modCoord_dump : (modCoord k f s).dump = s.dump := rfl
@[simp] theorem modCoord_irq : (modCoord k f s).irq = s.irq := rfl
@[simp] theorem modCoord_pwr : (modCoord k f s).pwr = s.pwr := rfl
@[simp] theorem modCoord_step : (modCoord k f s).step = s.step := rfl
@[simp] theorem modCoord_sec : (modCoord k f s).sec = s.sec := rfl
@[simp] theorem modCoord_boot : (modCoord k f s).boot = s.boot := rfl
@[simp] theorem modCoord_sq : (modCoord k f s).sq = s.sq := rfl
@[simp] theorem modCoord_regp : (modCoord k f s).regp = s.regp := rfl
@[simp] theorem modCoord_eg : (modCoord k f s).eg = s.eg := rfl
@[simp] theorem modCoord_pins : (modCoord k f s).pins = s.pins := rfl

end

end Sys2Proof.Laws
end

