-- ==== Sys2Proof/Laws/Table.lean ====
section
/-! SUPPORT. Sparse tables: reading after writing, and the canonical form that every operation keeps. -/

namespace Sys2Proof.Laws

open Sys2Proof.Machine

variable {α : Type}

/-! ## Reading after writing -/

theorem tget_tset (t : Tbl α) (k j : Nat) (a : α) : tget (tset t k a) j = if j = k then some a else tget t j := by
  induction t with
  | nil => simp [tset, tget, eq_comm]
  | cons e later ih =>
    by_cases hlt : e.1 < k
    · simp only [tset, if_pos hlt, tget, ih]
      split_ifs <;> first | rfl | omega
    · by_cases heq : e.1 = k <;> by_cases hj : j = k <;> simp [tset, tget, hlt, heq, hj, eq_comm (a := k)]

@[simp] theorem tget_tset_self (t : Tbl α) (k : Nat) (a : α) : tget (tset t k a) k = some a := by simp [tget_tset]

theorem tget_tset_ne (t : Tbl α) {k j : Nat} (a : α) (h : j ≠ k) : tget (tset t k a) j = tget t j := by simp [tget_tset, h]

@[simp] theorem tget_terase_self (t : Tbl α) (k : Nat) : tget (terase t k) k = none := by
  induction t with
  | nil => rfl
  | cons e r ih =>
    obtain ⟨i, b⟩ := e
    by_cases h : i = k
    · simpa [terase, List.filter_cons, h] using ih
    · simpa [terase, List.filter_cons, h, tget] using ih

theorem tget_terase_ne (t : Tbl α) {k j : Nat} (h : j ≠ k) : tget (terase t k) j = tget t j := by
  induction t with
  | nil => rfl
  | cons e r ih =>
    obtain ⟨i, b⟩ := e
    by_cases hk : i = k
    · subst hk; simpa [terase, List.filter_cons, tget, h.symm] using ih
    · simp only [terase, List.filter_cons, bne_iff_ne, ne_eq, hk, not_false_eq_true, if_true, tget]
      split
      · rfl
      · exact ih

/-- What an index of an array whose default is `d` reads after a write. -/
@[simp] theorem tgetD_tput_self [DecidableEq α] (d : α) (t : Tbl α) (k : Nat) (a : α) : tgetD (tput d t k a) k d = a := by
  unfold tput tgetD
  split <;> simp [*]

theorem tgetD_tput_ne [DecidableEq α] (d : α) (t : Tbl α) {k j : Nat} (a : α) (h : j ≠ k) :
    tgetD (tput d t k a) j d = tgetD t j d := by
  unfold tput tgetD
  split
  · rw [tget_terase_ne t h]
  · rw [tget_tset_ne t a h]

theorem tget_tmod (t : Tbl α) (k j : Nat) (f : α → α) :
    tget (tmod t k f) j = if j = k then (tget t j).map f else tget t j := by
  induction t with
  | nil => simp [tmod, tget]
  | cons e r ih =>
    obtain ⟨i, b⟩ := e
    simp only [tmod, List.map_cons] at ih ⊢
    by_cases hi : i = k
    · subst hi
      by_cases hj : j = i
      · subst hj; simp [tget]
      · have h' : ¬ i = j := fun e => hj e.symm
        simp only [tget, ih]; simp [h', hj]
    · by_cases hj : i = j
      · subst hj; simp [tget, hi]
      · simp [tget, hi, hj, ih]

/-! ## The canonical form -/

theorem twf_iff (t : Tbl α) : twf t = true ↔ t.Pairwise (fun e f => e.1 < f.1) := by simp [twf]

/-- A write lists its own index and nothing else new. -/
theorem mem_tset {t : Tbl α} {k : Nat} {a : α} {e : Nat × α} (h : e ∈ tset t k a) : e = (k, a) ∨ e ∈ t := by
  induction t with
  | nil => exact .inl (by simpa [tset] using h)
  | cons f later ih =>
    simp only [tset] at h
    split_ifs at h <;> simp only [List.mem_cons] at h ⊢ <;> tauto

theorem twf_tset (t : Tbl α) (k : Nat) (a : α) (h : twf t = true) : twf (tset t k a) = true := by
  rw [twf_iff] at h ⊢
  induction t with
  | nil => simp [tset]
  | cons e later ih =>
    rw [List.pairwise_cons] at h
    simp only [tset]
    split_ifs with hlt heq
    · refine List.pairwise_cons.mpr ⟨fun f hf => ?_, ih h.2⟩
      obtain rfl | hf := mem_tset hf
      · exact hlt
      · exact h.1 f hf
    · exact List.pairwise_cons.mpr ⟨fun f hf => heq ▸ h.1 f hf, h.2⟩
    · have hk : k < e.1 := by omega
      refine List.pairwise_cons.mpr ⟨fun f hf => ?_, List.pairwise_cons.mpr h⟩
      obtain rfl | hf := List.mem_cons.mp hf
      · exact hk
      · exact hk.trans (h.1 f hf)

theorem twf_terase (t : Tbl α) (k : Nat) (h : twf t = true) : twf (terase t k) = true := by
  rw [twf_iff] at h ⊢
  exact h.sublist List.filter_sublist

theorem twf_tput [DecidableEq α] (d : α) (t : Tbl α) (k : Nat) (a : α) (h : twf t = true) : twf (tput d t k a) = true := by
  unfold tput
  split
  · exact twf_terase t k h
  · exact twf_tset t k a h

theorem twf_tmod (t : Tbl α) (k : Nat) (f : α → α) (h : twf t = true) : twf (tmod t k f) = true := by
  rw [twf_iff] at h ⊢
  have hk : ∀ e : Nat × α, (if e.1 = k then (k, f e.2) else e).1 = e.1 := by intro e; split <;> simp [*]
  exact List.pairwise_map.mpr (by simpa only [hk] using h)

end Sys2Proof.Laws
end

