-- ==== Sys2Proof/Tests/States.lean ====
section
/-! SUPPORT. Small states for the tests. -/

namespace Sys2Proof.Tests

open Sys2Proof.Machine

/-- A die in RUN with context 0 LIVE, in which nothing waits. -/
def w0 : State :=
  { State.reset with
    boot := { State.reset.boot with phase := .run }
    ctx := { State.reset.ctx with tab := [(0, { state := .live })] }
    kt := { State.reset.kt with done := true } }

/-- A translation of handle 0 in context 0 to slot 5 of this die, every right granted. -/
def x5 : Xl := { w0 := BitVec.ofNat 64 (1 + 0xFC + 2 ^ 8 * 5) }

/-- An object in slot 5. -/
def withObj (o : Obj) (s : State) : State :=
  { s with
    vat := { s.vat with slots := [(5, { a := { obj := o }, b := { obj := o } })] }
    xl := { s.xl with cache := [{ ctx := 0, handle := 0, x := x5 }] } }

/-- A die with a SEMAPHORE of value 3 in slot 5. -/
def wSem : State := withObj { kind := kSemaphore, value := 3 } w0

/-- A watch of agent 0 on slot 5. -/
def wt3 : Watch := { slot := 5, cond := 0, comparand := 9, target := 0, tinc := 0, cookie := 0, ctx := 0, handle := 0 }

/-- The SEMAPHORE with a watch in entry 3. -/
def wWatched : State :=
  { wSem with
    wt := { wSem.wt with entries := [(3, .watch wt3)] }
    vat := { wSem.vat with slots := wSem.vat.slots.map (fun e => (e.1, { e.2 with list := [3] })) } }

/-- A BARRIER of THRESH 5 at epoch 7. -/
def wBar : State := withObj { kind := kBarrier, thresh := 5, epoch := 7 } w0

/-- The SEMAPHORE, an open burst of an ARM, and launch queue 0 enabled. -/
def wArm : State :=
  { wSem with
    hb := { wSem.hb with bursts := [{ port := 0, opcode := opArm, f := { more := true, a := 9 } }] }
    la := { wSem.la with queues := wSem.la.queues.set 0 { en := true, logsize := 4 } } }

/-- A quire of one member, held open by agent 0. -/
def qr0 : QRec := { agent := 0, inc := 0, ctx := 0, count := 1, ticket := { time := 0, agent := 0 } }

/-- The SEMAPHORE and the open quire. -/
def wQuire : State := { wSem with qu := { wSem.qu with recs := [(0, qr0)] } }

/-- A SIGNAL member on slot 5. -/
def qm0 : Member :=
  { pos := 0, inner := opSignal, op := { opcode := opQop, agent := 0, ctx := 0, a := 2 ^ 16 * 2, data := 4 }, slot := 5, home := 0
    x := x5, a := 4, b := 0 }

/-- The same with the member recorded. -/
def wQuire1 : State := { wSem with qu := { wSem.qu with recs := [(0, { qr0 with members := [qm0] })] } }

/-- A descriptor on slot 5 in entry 3. -/
def d7 : Desc :=
  { queue := 0, dbEn := false, dbProd := false, postEn := false, postGive := false, noq := false, tag := 0, postSlot := 0
    dbValue := 0, postAmount := 0, body := 0, ctx := 0, slot := 5, entry := 3, cond := 0, comparand := 9 }

/-- The SEMAPHORE with the descriptor armed on it. -/
def wDesc : State :=
  { wSem with
    wt := { wSem.wt with entries := [(3, .armed 5 7)] }
    la := { wSem.la with descs := [(7, d7)] }
    vat := { wSem.vat with slots := wSem.vat.slots.map (fun e => (e.1, { e.2 with
      a := { e.2.a with obj := { e.2.a.obj with armed := true } }, b := { e.2.b with obj := { e.2.b.obj with armed := true } }
      list := [3] })) } }

/-- A user kind of one state: INVOKE 1 adds X to VALUE. -/
def uk : UKind :=
  { code := 0x40, nstates := 1, init := 0, cgop := 0, cgl := 0, cgr := 0, kfmask := 0, irqEn := false, linkEn := false, irqsrc := 0
    linkoff := 0, name := 0, cs := [0, 0, 0, 0], rows := [BitVec.ofNat 64 (2 ^ 4 * 6 + 2 ^ 8 + 2 ^ 33)] }

/-- A chained INVOKE for slot 5. -/
def ch5 : Chain := { target := 5, ecode := 1, x := 4, ctx := 0, agent := some 0 }

/-- An object of the user kind, and the chained INVOKE waiting. -/
def wChain : State :=
  let s := withObj { kind := 0x40, value := 3 } w0
  { s with kt := { s.kt with kinds := [uk] }, hb := { s.hb with chains := [ch5] } }

/-- A post-operation, SIGNAL of 2 on slot 5, in line. -/
def wPost : State :=
  { wSem with la := { wSem.la with
      descs := [(7, { d7 with postEn := true, postSlot := 5, postAmount := 2 })]
      runs := [{ desc := 7, queue := 0, stage := .post, idx := 0 }], posts := [7] } }

/-- An UP stream to die 1. -/
def up1 : Machine.Stream :=
  { eth := false, idx := 1, peer := 1, pinned := true, st := .up, mySession := 3, peerSession := 4, credit := 8, granted := 8 }

/-- The stream in a die. -/
def withUp (s : State) : State := { s with felt := { s.felt with streams := [up1] } }

/-- A die with that stream. -/
def wUp : State := withUp w0

/-- The header of a sequenced and of an unsequenced frame of that stream. -/
def hq : FHdr := { sq := true, src := 1, dst := 0, session := 4, credit := 8 }
def hu : FHdr := { src := 1, dst := 0, session := 4, credit := 8 }

/-- A quire of die 1. -/
def key1 : QKey := { die := 1, qid := 3 }

/-- A record of this die and the arrival counted in it. -/
def rec1 : DieRec :=
  { ctx := 0, handle := 0x30000000, epoch := 7, count := 1, opcode := opArrive, lanes := none, x := x5, reported := true }
def pend1 : PendArr :=
  { id := 2, op := { opcode := opArrive, agent := 3, ctx := 0, handle := 0x30000000 }, slot := none, epoch := 7, weight := 1 }

/-- An ACK frame of die 1 as bytes. -/
def ackBytes : List Byte :=
  let z := toBytes 32 (layFrame hu .ack)
  z.take 28 ++ toBytes 4 (crc32c z).toNat

/-- The UDP datagram that holds it, with a given checksum. -/
def ackUdp (ck : Nat) : List Byte :=
  [0, 0] ++ (toBytes 2 w0.felt.udpPort.toNat).reverse ++ [0, 44] ++ (toBytes 2 ck).reverse ++ [1, 1, 0, 0] ++ ackBytes

/-- The IPv6 packet of die 1 to die 0 that holds it, as an Ethernet frame. -/
def ackDatagram : List Byte :=
  let adr := List.replicate 15 0 ++ [1] ++ List.replicate 16 (0 : Byte)
  let ck := 0xFFFF - foldSum (sumWords adr + 17 + 44 + sumWords (ackUdp 0))
  List.replicate 12 0 ++ [0x86, 0xDD, 0x60, 0, 0, 0, 0, 44, 17, 64] ++ adr ++ ackUdp ck

/-- A directory entry that holds the length and digest of some bytes. -/
def partOf (b : List Byte) : Part := { off := 0, len := b.length, digest := Config.sha384 b.length (leNat b) }

/-- An image header of given partitions. -/
def hdrOf (parts : List (List Byte)) : Header :=
  { sckDiv := 4, rolemap := false, length := 640, imgver := 7, linkwait := 1, caloff := 0, parts := parts.map partOf }

/-- A die whose LOAD of those partitions is due. -/
def wLoad (parts : List (List Byte)) : State :=
  { State.reset with boot := { State.reset.boot with phase := .load, header := some (hdrOf parts) } }

/-- The partitions of a die alone, whose initial register values give context 0 a table of one page. -/
def goodParts : List (List Byte) :=
  [toBytes 64 (0x47545031 + 2 ^ 32 * 64 + 2 ^ 96 + 2 ^ 128 + 2 ^ 136 + 2 ^ 144 + 2 ^ 152 + 2 ^ 168 * 0xFF + 2 ^ 176 * 3), []
  , toBytes 128 (0x47504C31 + 2 ^ 64 * 0x50 + 2 ^ 72 * 0x60 + 2 ^ 80 * 64), [], [], toBytes 8 (0x190C + 2 ^ 32)]

end Sys2Proof.Tests
end

