-- ==== Sys2Proof/WellFormed.lean ====
section
/-! DEFINITION. Which operands a command's row can carry: a check per row, with the limits of the flit, frame, register and
image formats (02 R26, R28, R32, R36; 11 R273; 12 R279, R281, R282; 18 R411; 20 R447). What breaks one is not a command of
that row: it is an offence of another row, or a transfer that cannot be formed. -/

namespace Sys2Proof

open Sys2Proof.Machine

/-- A request flit is no continuation (02 R28, R36). -/
def Flit.first (f : Flit) : Bool := !f.cont

/-- A row's frame as its sender makes it: sequenced by its TYPE, SEQ 0 where unsequenced, its fields in range (12 R279, R282). -/
def FHdr.carries (h : FHdr) (b : Body) : Bool := h.sq == bodySq b && (h.sq || h.seq == 0) && closeOk h b && bodyOk b

/-- REGP alone carries a context (11 R273; 17 R407; 21 R465). -/
def Acc.sound (c : Acc) : Bool := c.rq == .regp || c.ctx == 0

/-- An access to an address that holds no register (21 R460). -/
def accessReserved (c : Acc) (addr : BitVec 23) : Bool :=
  admitted c (4 * addr.toNat) && (regVal State.reset c.rq (4 * addr.toNat)).isNone

/-- The operands fit the command's row. -/
def Instr.wellFormed : Instr → Bool
  | .nop _ f | .read _ f | .signal _ f | .set _ f | .take _ f | .give _ f | .arrive _ f | .arriveR _ f | .cas _ f
  | .watch _ f | .unwatch _ f | .move _ f | .qbegin _ f | .qop _ f | .qcommit _ f | .qabort _ f | .arm _ f | .disarm _ f
  | .invoke _ f | .probe _ f | .traceMark _ f => f.first
  | .undefinedOpcode _ o _ => decide (0x14 < o.toNat)
  | .burstContinuation _ _ f => f.cont
  | .burstTimeout _ | .egressTransfer _ | .chainedInvoke | .postOperation | .lockedOpRestart | .quirePrepareUnpark
  | .tableWalkStart | .mempTimeout _ | .mempLateResponse _ | .launchIssue _ | .consReread _ => true
  | .walkReadResponse .. | .consReadResponse .. | .launchWriteResponse .. | .reelWriteResponse .. => true
  | .lqFaultClear acc | .lqEnable acc _ | .reelEnable acc _ => acc.sound
  | .reelFlush | .stubExpiry .. | .wmHoldoffEnd _ | .datagramRx .. => true
  | .heartbeat h p ha t time => h.carries (.heartbeat p ha t time)
  | .ack h => h.carries .ack
  | .sync h => h.carries .sync
  | .syncAck h => h.carries .syncAck
  | .wake h => h.carries .wake
  | .haltFrame h o c t => h.carries (.halt o c t)
  | .tsyncReq h x t => h.carries (.tsyncReq x t)
  | .tsyncResp h x st t1 t2 t3 => h.carries (.tsyncResp x st t1 t2 t3)
  | .fwmsg h d sr t b m => h.carries (.fwmsg d sr t b m)
  | .op h o f sl c => h.carries (.op o f sl c)
  | .flit h f => h.carries (.flit f)
  | .notify h f => h.carries (.notify f)
  | .release h ha c st e l w d => h.carries (.release ha c st e l w d)
  | .report h ha c e w d ps => h.carries (.report ha c e w d ps)
  | .refusal h ha c st e => h.carries (.refusal ha c st e)
  | .freed h i t => h.carries (.freed i t)
  | .retarget h i oi ni ot nt => h.carries (.retarget i oi ni ot nt)
  | .unwatchRst h i oi t => h.carries (.unwatchRst i oi t)
  | .wack h i d r => h.carries (.wack i d r)
  | .shadowUpdCreate h sl sq c w => h.carries (.shadow sl sq (.create c w))
  | .shadowUpdDestroy h sl sq => h.carries (.shadow sl sq .destroy)
  | .shadowUpdSet h sl sq v => h.carries (.shadow sl sq (.set v))
  | .shadowUpdWatchAdd h sl sq i cmp cond ti ck tg c ha => h.carries (.shadow sl sq (.watchAdd i cmp cond ti ck tg c ha))
  | .shadowUpdWatchFree h sl sq i => h.carries (.shadow sl sq (.watchFree i))
  | .shadowUpdFetch h sl sq => h.carries (.shadow sl sq .fetch)
  | .shadowUpdCopy h sl sq c k w => h.carries (.shadow sl sq (.copy c k w))
  | .copyAnswerTimeout _ | .thirdCopyTimeout _ => true
  | .takeover h r p t => h.carries (.takeover r p t)
  | .qstart h k a t l => h.carries (.qstart k a t l)
  | .qprep h k i a co t c l => h.carries (.qprep k i a co t c l)
  | .qvote h k n c p st => h.carries (.qvote k n c p st)
  | .qwound h k => h.carries (.qwound k)
  | .qdecide h k ab c l => h.carries (.qdecide k ab c l)
  | .qdone h k l => h.carries (.qdone k l)
  | .quireTimeout _ | .feltSend | .delayedAck _ | .retransmitTimer .. | .heartbeatTimer _ | .streamSilenceTimeout ..
  | .syncResend _ | .wakeResend _ | .haltCopyTimer _ | .streamSeekRetry _ | .peerDownHoldTimeout _ => true
  | .scrubVisit _ => true
  | .agentReset acc _ | .create acc | .destroy acc | .destroyForce acc | .fetch acc | .attach acc | .detach acc _
  | .wmRead acc _ | .wmRetarget acc _ | .openCtx acc | .deckleClear acc | .invHandle acc _ | .invCtx acc _ | .invAll acc
  | .rejoin acc | .closeStream acc | .accept acc _ | .refit acc | .dumpStart acc _ _ => acc.sound
  | .dumpWriteResponse .. => true
  | .irqClaim acc _ _ | .irqSet acc _ _ | .irqPendingClear acc _ _ _ | .secLock acc => acc.sound
  | .idcode | .challenge | .response _ | .dbgstat | .regacc _ | .tapLock | .unlockVerifyDone | .unlockExpiry => true
  | .bypass t => t.ir == 0 || decide (7 ≤ t.ir.toNat)
  | .porstN _ | .warmRstN | .selftest _ | .discover _ | .verify _ => true
  | .load _ parts => decide (parts.length = 6)
  | .linkwaitTimeout | .coolantLoss | .haltIn => true
  | .haltCommand acc => acc.sound
  | .pwrWarnAssert | .braced | .braceSummaryResponse .. | .pwrWarnDeassert | .dozeEntry => true
  | .sleep acc => acc.sound
  | .sleepEntryComplete | .sleepEntryTimeout | .sleepExit | .gclkAck | .thermalSample _ | .droopChange _ => true
  | .stepEnable acc _ => acc.sound
  | .stepTick _ | .stepGrantRise | .stepGrantFall | .tsyncInterval | .fitPoint | .fitEnd | .ppsIn | .ppsOutRise | .ppsOutFall => true
  | .restart acc _ | .wdogKick acc _ _ => acc.sound
  | .wdogExpiry _ | .sqFault _ | .sqReloadDone .. => true
  | .sqSend acc _ _ _ outbox => acc.sound && decide (outbox.length ≤ 512)
  | .mboxPop acc _ | .capture acc | .calWrite acc => acc.sound
  | .calwBufferResponse .. | .calFlashDone _ | .calFlashTimeout => true
  | .linkcal acc => acc.sound
  | .linkcalDone _ | .linkcalTimeout => true
  | .regpRsvdAccess acc _ addr _ => acc.sound && accessReserved acc addr
  | .regpDenied acc _ addr _ => acc.sound && !admitted acc (4 * addr.toNat)
  | .registerWrite acc _ _ => acc.sound
  | .d2dCellRx .. | .mempRequestTransfer | .pdAonSupplyFails | .refclkEdge | .agentCounterTick => true
  | .rcRegisterRead acc _ => acc.sound

end Sys2Proof
end

