-- ==== Sys2Proof/Tests/Slice0.lean ====
section
/-! SUPPORT. Tests. `_hypotheses`: a state and operands that meet every hypothesis of the clause of the obligation named, by its
number in it. `test_illformed_`: an ill-formed operand that WellFormed's check refuses. The others hold worked examples of the
spec against the model. -/

namespace Sys2Proof.Tests

open Sys2Proof Sys2Proof.Machine

set_option Elab.async false
set_option linter.unusedVariables false

/-- Partitions whose directory holds their own digests pass. -/
theorem digests (a b c d e f : List Byte) : digestBad (hdrOf [a, b, c, d, e, f]) [a, b, c, d, e, f] = none := by
  simp [digestBad, hdrOf, partOf, List.range_succ]

/-! ## Hypotheses met -/

theorem test_StepTakesFront_1_hypotheses :
    let c : Instr := .idcode
    let cs : List Instr := [.dbgstat]
    let s : State := { w0 with pending := .idcode :: [.dbgstat] }
    (s.pending = c :: cs) := by decide +kernel

theorem test_IdleStep_1_hypotheses :
    let s : State := wSem
    (s.pending = []) ∧ (rest s = true) := by decide +kernel

theorem test_NopCompletes_1_hypotheses :
    let p : Port := 0
    let f : Flit := { seq := 9 }
    let s : State := w0
    (grantable { port := p, opcode := opNop, f } s = true) := by decide +kernel

theorem test_UndefinedOpcodeRefused_1_hypotheses :
    let p : Port := 1
    let o : Byte := 0x15
    let f : Flit := { seq := 9, noresp := true }
    let s : State := w0
    (rest s = true) ∧ (running s = true) ∧ (poolRoom s = true) ∧ (s.hb.bursts = []) ∧ (f.cont = false) ∧ (0x14 < o.toNat) := by decide +kernel

theorem test_ReadProbeComplete_1_hypotheses :
    let p : Port := 0
    let f : Flit := { seq := 9 }
    let s : State := wSem
    let n : Nat := 5
    (grantable { port := p, opcode := opRead, f } s = true) ∧ (reaches s (opOf opRead f none) n = true) ∧ ((objAt s n).diverged = false) := by decide +kernel

theorem test_ReadProbeComplete_2_hypotheses :
    let p : Port := 0
    let f : Flit := { seq := 9 }
    let s : State := wSem
    let n : Nat := 5
    (grantable { port := p, opcode := opProbe, f } s = true) ∧ (reaches s (opOf opProbe f none) n = true) ∧ ((objAt s n).diverged = false) := by decide +kernel

theorem test_ObjectOperationCompletes_1_hypotheses :
    let o : Byte := opSignal
    let p : Port := 0
    let f : Flit := { a := 2 }
    let s : State := wSem
    let n : Nat := 5
    let op : Op := opOf o f none
    let r : KRes := kindStep (liveKinds s) (objAt s n) [] op (some f.agent)
    ((o = opSignal ∨ o = opSet ∨ o = opTake ∨ o = opGive ∨ o = opCas ∨ o = opInvoke)) ∧ (grantable { port := p, opcode := o, f } s = true) ∧ (reaches s op n = true) ∧ (kindUnknown s (objAt s n).kind = false) ∧ (listAt s n = []) ∧ (holdersOf s n = []) ∧ (plain r = true) := by decide +kernel

theorem test_ObjectOperationRefused_1_hypotheses :
    let o : Byte := opTake
    let p : Port := 0
    let f : Flit := { a := 9, b := 1 }
    let s : State := wSem
    let n : Nat := 5
    let op : Op := opOf o f none
    let r : KRes := kindStep (liveKinds s) (objAt s n) [] op (some f.agent)
    ((o = opSignal ∨ o = opSet ∨ o = opTake ∨ o = opGive ∨ o = opCas ∨ o = opInvoke)) ∧ (grantable { port := p, opcode := o, f } s = true) ∧ (reaches s op n = true) ∧ (isBuiltin (objAt s n).kind = true) ∧ (listAt s n = []) ∧ ((objAt s n).wmark = false) ∧ (r.status ≠ stOk) ∧ (r.status ≠ stDiverged) := by decide +kernel

theorem test_OperationWaits_1_hypotheses :
    let o : Byte := opTake
    let p : Port := 0
    let f : Flit := { a := 9 }
    let s : State := wSem
    let n : Nat := 5
    let op : Op := opOf o f none
    let r : KRes := kindStep (liveKinds s) (objAt s n) [] op (some f.agent)
    ((o = opSignal ∨ o = opTake ∨ o = opGive ∨ o = opInvoke)) ∧ (grantable { port := p, opcode := o, f } s = true) ∧ (reaches s op n = true) ∧ (kindUnknown s (objAt s n).kind = false) ∧ (listAt s n = []) ∧ (entryFree s = true) ∧ (plain { r with queue := false } = true) ∧ (r.queue = true) := by decide +kernel

theorem test_WatchUnwatchComplete_1_hypotheses :
    let p : Port := 0
    let f : Flit := { a := 9 }
    let s : State := wSem
    let n : Nat := 5
    let h : Bool := false
    let e : W32 := 0
    let op : Op := opOf opWatch f none
    let w : Watch := watchOf op n
    (grantable { port := p, opcode := opWatch, f } s = true) ∧ (reaches s op n = true) ∧ (kindUnknown s (objAt s n).kind = false) ∧ ((objAt s n).diverged = false) ∧ (standbyMatch s n w = none) ∧ (holdersOf s n = []) ∧ (entryFree s = true) ∧ (condTest w.cond w.comparand w.held w.ref (objAt s n) = (false, h, e)) := by decide +kernel

theorem test_WatchUnwatchComplete_2_hypotheses :
    let p : Port := 0
    let f : Flit := { a := 3 }
    let s : State := wWatched
    let n : Nat := 5
    let ix : Nat := 3
    let w : Watch := wt3
    let op : Op := opOf opUnwatch f none
    (grantable { port := p, opcode := opUnwatch, f } s = true) ∧ (reaches s op n = true) ∧ (kindUnknown s (objAt s n).kind = false) ∧ ((objAt s n).diverged = false) ∧ ((objAt s n).armed = false) ∧ (holdersOf s n = []) ∧ (unwatchTarget s n (f.a.toNat % 65536) = some (ix, w)) ∧ (w.slot = n) ∧ (w.ctx = f.ctx) ∧ (dieOf w.target = myDie s) := by decide +kernel

theorem test_ArriveCompletes_1_hypotheses :
    let p : Port := 0
    let f : Flit := { a := 2, b := 7 }
    let s : State := wBar
    let n : Nat := 5
    let op : Op := opOf opArrive f none
    let w : Nat := f.a.toNat % 2 ^ 32
    (grantable { port := p, opcode := opArrive, f } s = true) ∧ (reaches s op n = true) ∧ (isTreeKind (objAt s n).kind = true) ∧ ((objAt s n).wmark = false) ∧ ((objAt s n).diverged = false) ∧ (listAt s n = []) ∧ (barPend s < 4096) ∧ (objCheck s n (objAt s n) (arrivalOf op) = stOk) ∧ (countOf (objAt s n) + w < (objAt s n).thresh.toNat) ∧ ((objAt s n).kind = kBarrier) := by decide +kernel

theorem test_ArriveCompletes_2_hypotheses :
    let p : Port := 0
    let f : Flit := { a := 2, b := 7 + 2 ^ 32 * 1, payload := 5 }
    let s : State := wBar
    let n : Nat := 5
    let op : Op := stamped (opOf opArriveR f none) (tick s)
    let w : Nat := f.a.toNat % 2 ^ 32
    let x : Arrival := arrivalOf op
    (grantable { port := p, opcode := opArriveR, f } s = true) ∧ (reaches s op n = true) ∧ (isTreeKind (objAt s n).kind = true) ∧ ((objAt s n).wmark = false) ∧ ((objAt s n).diverged = false) ∧ (listAt s n = []) ∧ (barPend s < 4096) ∧ (objCheck s n (objAt s n) x = stOk) ∧ ((objAt s n).kind = kBarrier ∨ f.ctx = 0) ∧ (countOf (objAt s n) + w < (objAt s n).thresh.toNat) := by decide +kernel

theorem test_ArrivalCompletesEpoch_1_hypotheses :
    let p : Port := 0
    let f : Flit := { a := 5, b := 7 }
    let s : State := wBar
    let n : Nat := 5
    let op : Op := opOf opArrive f none
    let a : ObjArr := tgetD s.couch.objs n {}
    (grantable { port := p, opcode := opArrive, f } s = true) ∧ (reaches s op n = true) ∧ (isTreeKind (objAt s n).kind = true) ∧ ((objAt s n).wmark = false) ∧ ((objAt s n).diverged = false) ∧ (listAt s n = []) ∧ (barPend s < 4096) ∧ ((objAt s n).kind = kBarrier) ∧ (objCheck s n (objAt s n) (arrivalOf op) = stOk) ∧ (countOf (objAt s n) + f.a.toNat % 2 ^ 32 = (objAt s n).thresh.toNat) ∧ (s.couch.pend = []) ∧ (named (f.ctx, f.handle) a.idents = [(f.ctx, f.handle)]) ∧ (a.kids = []) ∧ (a.lanes = none) := by decide +kernel

theorem test_ArrivalCompletesEpoch_2_hypotheses :
    let p : Port := 0
    let f : Flit := { a := 5, b := 7 + 2 ^ 32 * 1, payload := 5 }
    let s : State := wBar
    let n : Nat := 5
    let op : Op := stamped (opOf opArriveR f none) (tick s)
    let x : Arrival := arrivalOf op
    let a : ObjArr := tgetD s.couch.objs n {}
    (grantable { port := p, opcode := opArriveR, f } s = true) ∧ (reaches s op n = true) ∧ ((objAt s n).kind = kBarrier) ∧ ((objAt s n).wmark = false) ∧ ((objAt s n).diverged = false) ∧ (listAt s n = []) ∧ (barPend s < 4096) ∧ (objCheck s n (objAt s n) x = stOk) ∧ (countOf (objAt s n) + f.a.toNat % 2 ^ 32 = (objAt s n).thresh.toNat) ∧ (s.couch.pend = []) ∧ (named (f.ctx, f.handle) a.idents = [(f.ctx, f.handle)]) ∧ (a.kids = []) := by decide +kernel

theorem test_ArmAndBurstComplete_1_hypotheses :
    let p : Port := 0
    let f : Flit := { more := true }
    let s : State := w0
    (rest s = true) ∧ (running s = true) ∧ (poolRoom s = true) ∧ (s.hb.bursts = []) ∧ (f.cont = false) ∧ (f.more = true) := by decide +kernel

theorem test_ArmAndBurstComplete_2_hypotheses :
    let b : MeshFlit := { port := 0, opcode := opArm, f := { more := true, a := 9 } }
    let p : Port := 0
    let f : Flit := {}
    let s : State := wArm
    let n : Nat := 5
    let k : Nat := 0
    let h : Bool := false
    let e : W32 := 0
    let op : Op := opOf opArm b.f (some { f with cont := true })
    let ix : Nat := lowestFreeFrom s.wt.entries 0
    let d : Desc := descOfArm op n ix
    (burstGrantable b p opArm f s = true) ∧ (b.opcode = opArm) ∧ (reaches s op n = true) ∧ (kindUnknown s (objAt s n).kind = false) ∧ ((objAt s n).diverged = false) ∧ (d.noq = true ∨ ((lqAt s d.queue).en = true ∧ (op.ctx = 0 ∨ op.ctx = (lqAt s d.queue).ctx))) ∧ ((objAt s n).priv = false ∨ op.ctx = 0) ∧ (storeFree s = some k) ∧ (entryFree s = true) ∧ (condTest d.cond d.comparand d.held d.ref (objAt s n) = (false, h, e)) := by decide +kernel

theorem test_ArmAndBurstComplete_3_hypotheses :
    let b : MeshFlit := { port := 0, opcode := opArm, f := { more := true, a := 9 } }
    let a : AgentId := 0
    let s : State := { w0 with hb := { w0.hb with bursts := [b] } }
    (rest s = true) ∧ (gclkOn s = true) ∧ (s.hb.bursts = [b]) ∧ (localIx b.f.agent = localIx a) ∧ (b.opcode = opArm ∨ b.opcode = opArriveR) ∧ (firstInLine (opOf b.opcode b.f none) s = true) ∧ (formCheck s b = none) ∧ (b.f.inc = incOf s b.f.agent) ∧ (b.cont = none) := by decide +kernel

theorem test_QuireBeginsAndRecords_1_hypotheses :
    let p : Port := 0
    let f : Flit := { a := 1 }
    let s : State := w0
    let i : Nat := localIx f.agent
    (grantable { port := p, opcode := opQbegin, f } s = true) ∧ (s.qu.recs.length < 512) ∧ (memberCount s < 6144) ∧ (tget s.ag.hold i = none) := by decide +kernel

theorem test_QuireBeginsAndRecords_2_hypotheses :
    let p : Port := 0
    let f : Flit := { a := 2 ^ 16 * 2, payload := 4 }
    let s : State := wQuire
    let q : Nat := 0
    let r : QRec := qr0
    let x : Xl := x5
    let op : Op := opOf opQop f none
    (grantable { port := p, opcode := opQop, f } s = true) ∧ (qHeld s op = some (q, r)) ∧ (qopPosition op r = none) ∧ (tcFind s f.ctx f.handle = some x) ∧ (useDenied op x = false) ∧ (memberCount s < 6144) := by decide +kernel

theorem test_QuireBeginsAndRecords_3_hypotheses :
    let p : Port := 0
    let f : Flit := {}
    let s : State := wQuire
    let q : Nat := 0
    let r : QRec := qr0
    (grantable { port := p, opcode := opQabort, f } s = true) ∧ (qHeld s (opOf opQabort f none) = some (q, r)) ∧ (r.members = []) ∧ (s.pwr.bphase = .none) ∧ (tget s.ag.hold (localIx r.agent) ≠ some r.ticket) := by decide +kernel

theorem test_QuireCommits_1_hypotheses :
    let p : Port := 0
    let f : Flit := {}
    let s : State := wQuire1
    let q : Nat := 0
    let n : Nat := 5
    let rc : QRec := { qr0 with members := [qm0] }
    let m : Member := qm0
    let r : KRes := kindStep (liveKinds s) (objAt s n) [] { m.op with opcode := opSignal, a := m.a, b := m.b, data := 0, noresp := false } (some m.op.agent)
    (grantable { port := p, opcode := opQcommit, f } s = true) ∧ (qHeld s (opOf opQcommit f none) = some (q, rc)) ∧ (rc.count = 1) ∧ (rc.members = [m]) ∧ (m.inner = opSignal) ∧ (m.home = myDie s) ∧ (m.slot = n) ∧ (m.op.src = .mesh) ∧ (m.mirror = none) ∧ (firstInLine m.op s = true) ∧ ((windowNow (tick s)).length + 3 ≤ s.pwr.maxops.toNat) ∧ (s.ag.moves = []) ∧ (s.ag.resets = []) ∧ (s.qu.locks = []) ∧ (s.qu.homes = []) ∧ (s.qu.parked = []) ∧ (s.wt.entries = []) ∧ (s.vat.fetch = []) ∧ (s.pwr.bphase = .none) ∧ (tget s.ag.hold (localIx rc.agent) ≠ some rc.ticket) ∧ (streamTo s (myDie s) = none) ∧ (ctxState s m.op.ctx = .live) ∧ (thirdDead s n = false) ∧ (clean (slotAt s n) = true) ∧ ((objAt s n).kind ≠ 0) ∧ (ownerOk (objAt s n) m.op.ctx = true) ∧ (kindUnknown s (objAt s n).kind = false) ∧ (listAt s n = []) ∧ (holdersOf s n = []) ∧ (plain r = true) := by decide +kernel

theorem test_DisarmAndMarkComplete_1_hypotheses :
    let p : Port := 0
    let f : Flit := { a := 7 }
    let s : State := wDesc
    let d : Desc := d7
    let k : Nat := f.a.toNat % 8192
    (grantable { port := p, opcode := opDisarm, f } s = true) ∧ (tget s.la.descs k = some d) ∧ (descArmed s k = true) ∧ (f.ctx = 0 ∨ d.ctx = f.ctx) ∧ (launching s k = false) := by decide +kernel

theorem test_DisarmAndMarkComplete_2_hypotheses :
    let p : Port := 0
    let f : Flit := { a := 7 }
    let s : State := w0
    (grantable { port := p, opcode := opTraceMark, f } s = true) ∧ (s.reel.en = false) := by decide +kernel

theorem test_DisarmAndMarkComplete_3_hypotheses :
    let p : Port := 0
    let f : Flit := { a := 7 }
    let s : State := { w0 with reel := { w0.reel with en := true, allctx := true, logsize := 4 } }
    (grantable { port := p, opcode := opTraceMark, f } s = true) ∧ (s.reel.en = true) ∧ (s.reel.allctx = true ∨ f.ctx = s.reel.ctx) ∧ (s.reel.fault = false) ∧ (s.reel.lost = 0) ∧ (s.reel.buffer = []) ∧ (reelRoom s.reel 2 = true) := by decide +kernel

theorem test_ChainAndPostComplete_1_hypotheses :
    let s : State := wChain
    let c : Chain := ch5
    let op : Op := { opcode := opInvoke, agent := c.agent.getD 0, ctx := c.ctx, a := c.ecode.setWidth 64, b := c.x, src := if c.agent = none then .chainedPost else .chained }
    let r : KRes := kindStep (liveKinds s) (objAt s c.target) [] op c.agent
    (s.hb.chains = [c]) ∧ (rest { s with hb := { s.hb with chains := [] } } = true) ∧ (canGrant (tick s) = true) ∧ (blocked s (.slot c.target) = false) ∧ (thirdDead s c.target = false) ∧ (clean (slotAt s c.target) = true) ∧ ((objAt s c.target).kind ≠ 0) ∧ (kindUnknown s (objAt s c.target).kind = false) ∧ (listAt s c.target = []) ∧ (holdersOf s c.target = []) ∧ (isBuiltin (objAt s c.target).kind = false) ∧ ((objAt s c.target).owner = c.ctx) ∧ ((if c.granted then c.gate else stateGate s opInvoke c.ctx) = none) ∧ (plain r = true) := by decide +kernel

theorem test_ChainAndPostComplete_2_hypotheses :
    let s : State := wPost
    let k : Nat := 7
    let d : Desc := { d7 with postEn := true, postSlot := 5, postAmount := 2 }
    let op : Op := postOf d k
    let r : KRes := kindStep (liveKinds s) (objAt s d.postSlot) [] op none
    (rest s = true) ∧ (s.la.posts = [k]) ∧ (tget s.la.descs k = some d) ∧ (d.dead = false) ∧ (canGrant (tick s) = true) ∧ (s.pwr.st = .active) ∧ (blocked s (.slot d.postSlot) = false) ∧ (thirdDead s d.postSlot = false) ∧ (clean (slotAt s d.postSlot) = true) ∧ ((objAt s d.postSlot).kind ≠ 0) ∧ (kindUnknown s (objAt s d.postSlot).kind = false) ∧ (listAt s d.postSlot = []) ∧ (holdersOf s d.postSlot = []) ∧ ((objAt s d.postSlot).owner = d.ctx) ∧ (stateGate s op.opcode d.ctx = none) ∧ (plain r = true) := by decide +kernel

theorem test_HeldJobsGoOn_1_hypotheses :
    let op : Op := { opcode := opRead, agent := 0, ctx := 0 }
    let n : Nat := 5
    let s : State := { wSem with hb := { wSem.hb with order := [placeOf op] }, qu := { wSem.qu with held := [{ target := .slot n, job := .op op n }] } }
    (rest s = true) ∧ (gclkOn s = true) ∧ (s.qu.held = [{ target := .slot n, job := .op op n }]) ∧ (s.hb.order = [placeOf op]) ∧ (lockOn s (.slot n) = none) ∧ (fetching s n = false) ∧ (op.src = .mesh) ∧ (op.opcode = opRead) ∧ (thirdDead s n = false) ∧ (clean (slotAt s n) = true) ∧ ((objAt s n).kind ≠ 0) ∧ (ownerOk (objAt s n) op.ctx = true) ∧ ((objAt s n).diverged = false) := by decide +kernel

theorem test_HeldJobsGoOn_2_hypotheses :
    let cop : Op := { opcode := opQcommit, agent := 0, ctx := 0 }
    let m : Member := qm0
    let q : Nat := 0
    let n : Nat := 5
    let rc : QRec := { qr0 with members := [qm0], state := .preparing, commit := some cop }
    let h : HomeQ := { key := keyOf wSem 0, ticket := qr0.ticket, inc := 0, ctx := 0, coord := 0, members := [hmemberOf m] }
    let s : State := { wSem with qu := { wSem.qu with recs := [(0, rc)], homes := [h], parked := [{ key := keyOf wSem 0, pos := 0 }] } }
    let r : KRes := kindStep (liveKinds s) (objAt s n) [] { m.op with opcode := opSignal, a := m.a, b := m.b, data := 0, noresp := false } (some m.op.agent)
    (rest s = true) ∧ (running s = true) ∧ (canGrant (tick s) = true) ∧ (firstInLine m.op s = true) ∧ (firstInLine cop s = true) ∧ (s.ag.moves = []) ∧ (s.ag.resets = []) ∧ (s.qu.parked = [{ key := keyOf s q, pos := m.pos }]) ∧ (q < 512) ∧ (s.qu.homes = [h]) ∧ (h.key = keyOf s q) ∧ (h.members = [hmemberOf m]) ∧ (h.decision = none) ∧ (h.inc = rc.inc) ∧ (tget s.qu.recs q = some rc) ∧ (rc.state = .preparing) ∧ (rc.level = 0) ∧ (rc.members = [m]) ∧ (rc.commit = some cop) ∧ (cop.src = .mesh) ∧ (rc.got = []) ∧ (rc.no = none) ∧ (m.inner = opSignal) ∧ (m.home = myDie s) ∧ (m.slot = n) ∧ (m.op.src = .mesh) ∧ (m.mirror = none) ∧ (s.qu.locks = []) ∧ (s.qu.held = []) ∧ (s.wt.entries = []) ∧ (s.vat.fetch = []) ∧ (s.pwr.bphase = .none) ∧ (tget s.ag.hold (localIx rc.agent) ≠ some rc.ticket) ∧ (streamTo s (myDie s) = none) ∧ (ctxState s m.op.ctx = .live) ∧ (thirdDead s n = false) ∧ (clean (slotAt s n) = true) ∧ ((objAt s n).kind ≠ 0) ∧ (ownerOk (objAt s n) m.op.ctx = true) ∧ (kindUnknown s (objAt s n).kind = false) ∧ (listAt s n = []) ∧ (holdersOf s n = []) ∧ (plain r = true) := by decide +kernel

theorem test_WalksGoOn_1_hypotheses :
    let c : CtxId := 0
    let h : W32 := 5
    let l : List (CtxId × W32) := []
    let s : State := { w0 with ctx := { w0.ctx with tab := [(0, { state := .live, l1base := 7, l1len := 1 })] }, xl := { w0.xl with missq := [(0, 5)] } }
    let a : W64 := ((tgetD s.ctx.tab c.toNat {}).l1base ++ (0 : BitVec 12)) + BitVec.ofNat 64 (8 * (h.toNat % 2 ^ 28 / 256))
    (rest s = true) ∧ (gclkOn s = true) ∧ (s.xl.missq = (c, h) :: l) ∧ (s.xl.walks.length < 32) ∧ (s.xl.walks.all (fun w => !(w.ctx == c && w.handle == h)) = true) ∧ (h.toNat % 2 ^ 28 / 256 < (tgetD s.ctx.tab c.toNat {}).l1len.toNat) ∧ (windowOf s a = none) := by decide +kernel

theorem test_WalksGoOn_2_hypotheses :
    let tag : Byte := 3
    let data : BitVec 512 := 0x5001
    let c : CtxId := 0
    let h : W32 := 5
    let r : MReq := { use := .walk c h, wr := false, size := 1, addr := 0 }
    let w : Walk := { ctx := 0, handle := 5 }
    let s : State := { w0 with xl := { w0.xl with walks := [w] }, memp := { w0.memp with outst := [(3, r)] } }
    let e : W64 := wordAt data w.addr
    let a : W64 := BitVec.ofNat 64 (e.toNat / 4096 * 4096 + 16 * (h.toNat % 256))
    (rest s = true) ∧ (gclkOn s = true) ∧ (tget s.memp.outst tag.toNat = some r) ∧ (r.use = .walk c h) ∧ (s.xl.walks = [w]) ∧ (w.ctx = c) ∧ (w.handle = h) ∧ (w.marked = false) ∧ (w.l2 = none) ∧ (e.getLsbD 0 = true) ∧ (e.toNat / 2 % 2 ^ 11 = 0) ∧ (windowOf s a = none) := by decide +kernel

theorem test_WalksGoOn_3_hypotheses :
    let tag : Byte := 3
    let data : BitVec 512 := 0x5FD
    let c : CtxId := 0
    let h : W32 := 5
    let e : W64 := 1
    let r : MReq := { use := .walk c h, wr := false, size := 2, addr := 0 }
    let w : Walk := { ctx := 0, handle := 5, l2 := some 1 }
    let s : State := { w0 with xl := { w0.xl with walks := [w] }, memp := { w0.memp with outst := [(3, r)] } }
    let x0 : Xl := { w0 := wordAt data w.addr, w1 := wordAt data (w.addr + 8) }
    let x : Xl := if xlComb x0 then x0 else { x0 with w1 := 0 }
    (rest s = true) ∧ (gclkOn s = true) ∧ (tget s.memp.outst tag.toNat = some r) ∧ (r.use = .walk c h) ∧ (s.xl.walks = [w]) ∧ (w.ctx = c) ∧ (w.handle = h) ∧ (w.marked = false) ∧ (w.l2 = some e) ∧ (s.xl.parked.all (fun p => !(p.ctx == c && p.handle == h)) = true) ∧ (x.w0.getLsbD 0 = true) ∧ (l2Malformed x = false) ∧ (x.w0.toNat / 2 ^ 51 % 8 = scopeOf h) := by decide +kernel

theorem test_MempCompletes_1_hypotheses :
    let r : MReq := { use := .cons 0, wr := false, size := 0, addr := 4 }
    let i : Nat := 1
    let s : State := { w0 with memp := { w0.memp with waiting := [r], rr := 4 } }
    (rest s = true) ∧ (gclkOn s = true) ∧ (s.memp.waiting = [r]) ∧ (s.memp.outst = []) ∧ (s.memp.retired = []) ∧ (nextUnit s = some i) ∧ (mempWindow s = none) := by decide +kernel

theorem test_MempCompletes_2_hypotheses :
    let tag : Byte := 2
    let r : MReq := { use := .summary, wr := true, size := 2, addr := 64 }
    let s : State := { w0 with memp := { w0.memp with outst := [(2, r)] } }
    (rest s = true) ∧ (gclkOn s = true) ∧ (tget s.memp.outst tag.toNat = some r) ∧ (r.use = .summary) := by decide +kernel

theorem test_MempCompletes_3_hypotheses :
    let tag : Byte := 2
    let s : State := { w0 with memp := { w0.memp with retired := [2] } }
    (rest s = true) ∧ (gclkOn s = true) ∧ (s.memp.retired.contains tag.toNat = true) := by decide +kernel

theorem test_MempCompletes_4_hypotheses :
    let tag : Byte := 2
    let err : BitVec 2 := 1
    let r : MReq := { use := .summary, wr := true, size := 2, addr := 64 }
    let s : State := { w0 with memp := { w0.memp with outst := [(2, r)] } }
    (rest s = true) ∧ (gclkOn s = true) ∧ (tget s.memp.outst tag.toNat = some r) ∧ (r.use = .summary) ∧ (err ≠ 0) := by decide +kernel

theorem test_LauncherGoesOn_1_hypotheses :
    let q : Fin 16 := 0
    let k : Nat := 7
    let d : Desc := { d7 with pend := 2 }
    let s : State := { wDesc with la := { wDesc.la with descs := [(7, d)], queues := wDesc.la.queues.set 0 { en := true, logsize := 4, pending := [7] } } }
    let l : LQueue := lqAt s q.val
    (rest s = true) ∧ (gclkOn s = true) ∧ (launcherStopped s = false) ∧ (s.la.runs = []) ∧ (l.pending = [k]) ∧ (l.gaps = []) ∧ (s.la.queues.length = 16) ∧ (tget s.la.descs k = some d) ∧ (d.queue = q.val) ∧ (d.noq = false) ∧ (canIssue s d = true) := by decide +kernel

theorem test_LauncherGoesOn_2_hypotheses :
    let q : Fin 16 := 0
    let k : Nat := 7
    let d : Desc := d7
    let s : State := { wDesc with la := { wDesc.la with queues := wDesc.la.queues.set 0 { en := true, logsize := 2, prod := 4, pending := [7] } } }
    let l : LQueue := lqAt s q.val
    (rest s = true) ∧ (s.pwr.off = false) ∧ (s.boot.phase ≠ .reset) ∧ (s.pwr.st = .active) ∧ (launcherStopped s = false) ∧ (l.en = true) ∧ (l.fault = false) ∧ (l.consOut = false) ∧ (l.consAt.all (fun c => decide (c + 256 ≤ s.clk.cycle + 1)) = true) ∧ (l.pending = [k]) ∧ (tget s.la.descs k = some d) ∧ (d.noq = false) ∧ (lqSpace l = false) := by decide +kernel

theorem test_LauncherGoesOn_3_hypotheses :
    let tag : Byte := 2
    let data : BitVec 512 := 9
    let q : Nat := 3
    let r : MReq := { use := .cons 3, wr := false, size := 0, addr := 64 }
    let s : State := { w0 with memp := { w0.memp with outst := [(2, r)] } }
    (rest s = true) ∧ (gclkOn s = true) ∧ (tget s.memp.outst tag.toNat = some r) ∧ (r.use = .cons q) := by decide +kernel

theorem test_LauncherGoesOn_4_hypotheses :
    let tag : Byte := 2
    let data : BitVec 512 := 9
    let r : MReq := { use := .reelCons, wr := false, size := 0, addr := 64 }
    let s : State := { w0 with memp := { w0.memp with outst := [(2, r)] } }
    (rest s = true) ∧ (gclkOn s = true) ∧ (tget s.memp.outst tag.toNat = some r) ∧ (r.use = .reelCons) := by decide +kernel

theorem test_LauncherGoesOn_5_hypotheses :
    let tag : Byte := 2
    let k : Nat := 7
    let idx : W32 := 0
    let d : Desc := d7
    let e : Launch := { desc := 7, queue := 0, stage := .entry, idx := 0 }
    let r : MReq := { use := .entry 7 0, wr := true, size := 2, addr := 64 }
    let s : State := { wDesc with la := { wDesc.la with runs := [e] }, memp := { w0.memp with outst := [(2, r)] } }
    (rest s = true) ∧ (gclkOn s = true) ∧ (tget s.memp.outst tag.toNat = some r) ∧ (r.use = .entry k idx) ∧ (s.la.runs = [e]) ∧ (e.desc = k) ∧ (e.idx = idx) ∧ (e.stage = .entry) ∧ (tget s.la.descs k = some d) ∧ (d.dbEn = false) ∧ (d.postEn = false) ∧ (d.dead = false) := by decide +kernel

theorem test_ReelAndTimersComplete_1_hypotheses :
    let b : ReelRec := { bytes := 5 }
    let s : State := { w0 with reel := { w0.reel with buffer := [b], logsize := 4 } }
    (rest s = true) ∧ (gclkOn s = true) ∧ (s.reel.buffer = [b]) := by decide +kernel

theorem test_ReelAndTimersComplete_2_hypotheses :
    let tag : Byte := 2
    let err : BitVec 2 := 1
    let k : Nat := 1
    let r : MReq := { use := .reel 1, wr := true, size := 1, addr := 64 }
    let s : State := { w0 with memp := { w0.memp with outst := [(2, r)] } }
    (rest s = true) ∧ (gclkOn s = true) ∧ (tget s.memp.outst tag.toNat = some r) ∧ (r.use = .reel k) := by decide +kernel

theorem test_ReelAndTimersComplete_3_hypotheses :
    let a : AgentId := 2
    let i : Byte := 0
    let s : State := { w0 with ag := { w0.ag with stubs := [{ x := 2, xi := 0, y := 3, yi := 0, started := true }] } }
    (rest s = true) ∧ (gclkOn s = true) := by decide +kernel

theorem test_ReelAndTimersComplete_4_hypotheses :
    let k : BitVec 13 := 4
    let r : WmRec := { slot := 5, src := false, hen := true, len := false, h := 4, l := 0, ctx := 0, target := 0, tinc := 0, cookie := 0, hold := 3, handle := 0, holdoff := true }
    let s : State := { w0 with wm := { w0.wm with recs := [(4, r)] } }
    (rest s = true) ∧ (gclkOn s = true) ∧ (tget s.wm.recs k.toNat = some r) ∧ (r.holdoff = true) ∧ (r.latch = false) := by decide +kernel

theorem test_RegisterAccessesComplete_1_hypotheses :
    let acc : Acc := {}
    let i : Fin 4 := 2
    let v : W32 := 7
    let s : State := w0
    (served acc s = true) := by decide +kernel

theorem test_RegisterAccessesComplete_2_hypotheses :
    let acc : Acc := {}
    let a : Nat := 0x1C0C
    let m : W32 := 0xC0FFFFFF
    let v : W32 := 0xFFFFFFFF
    let s : State := w0
    (served acc s = true) ∧ ((a, m) ∈ plainRegs) := by decide +kernel

theorem test_RegisterAccessesComplete_3_hypotheses :
    let acc : Acc := {}
    let a : Nat := 0x1204
    let v : W32 := 0xFFFFFFFF
    let s : State := w0
    (served acc s = true) ∧ (a ∈ readOnlyRegs) := by decide +kernel

theorem test_RegisterAccessesComplete_4_hypotheses :
    let acc : Acc := {}
    let s : State := { w0 with vat := { w0.vat with reject := 3 } }
    (served acc s = true) := by decide +kernel

theorem test_RegisterAccessesComplete_5_hypotheses :
    let acc : Acc := {}
    let wr : Bool := true
    let addr : BitVec 23 := 9
    let data : W32 := 1
    let s : State := w0
    (served acc s = true) ∧ (regVal (tick s) acc.rq (4 * addr.toNat) = none) := by decide +kernel

theorem test_RegisterAccessesComplete_6_hypotheses :
    let acc : Acc := { ctx := 3 }
    let wr : Bool := true
    let addr : BitVec 23 := 0x400
    let data : W32 := 1
    let s : State := w0
    (rest s = true) ∧ (gclkOn s = true) ∧ (regpHeld s = false) ∧ (acc.rq = .regp) ∧ (acc.ctx ≠ 0) ∧ (admitted acc (4 * addr.toNat) = false) := by decide +kernel

theorem test_RegisterAccessesComplete_7_hypotheses :
    let acc : Acc := {}
    let addr : BitVec 23 := 12
    let data : W32 := 1
    let s : State := { w0 with boot := { w0.boot with phase := .selftest } }
    (rest s = true) ∧ (s.pwr.off = false) ∧ (regpHeld s = true) := by decide +kernel

theorem test_MoveAndResetComplete_1_hypotheses :
    let p : Port := 1
    let f : Flit := { agent := 1, a := 2, b := 1 }
    let s : State := w0
    let x : AgentId := f.a.setWidth 30
    let y : AgentId := f.b.setWidth 30
    (grantable { port := p, opcode := opMove, f } s = true) ∧ (f.agent = y ∨ f.ctx = 0) ∧ (s.ag.moves = []) ∧ ((s.ag.stubs.filter (·.live)).length < 64) ∧ (chainOf s x = []) ∧ (s.ag.resets = []) ∧ (resetPending (tick s) (localIx x) = false) ∧ (resetPending (tick s) (localIx y) = false) := by decide +kernel

theorem test_MoveAndResetComplete_2_hypotheses :
    let acc : Acc := {}
    let ix : BitVec 10 := 5
    let s : State := w0
    (served acc s = true) ∧ (s.qu.recs = []) ∧ (chainOf s (myDie s ++ ix) = []) ∧ (unanswered s (myDie s ++ ix) (incOf s (myDie s ++ ix)) = false) ∧ (s.ag.moves = []) ∧ (s.ag.resets = []) := by decide +kernel

theorem test_ObjectCommandsComplete_1_hypotheses :
    let acc : Acc := {}
    let s : State := { w0 with vat := { w0.vat with objSlot := 9, w := packObj { kind := kSemaphore, value := 3 } 0 } }
    let n : Nat := s.vat.objSlot.toNat
    let c : ObjCmd := { cmd := 1, slot := n, image := s.vat.w, acc }
    let o : Obj := createObj s c
    (slotServed acc s = true) ∧ (s.vat.cmdBusy = false) ∧ (blocked s (.slot n) = false) ∧ (clean (slotAt s n) = true) ∧ ((objAt s n).kind = 0) ∧ (createErr s c = 0) ∧ (o.shadow = false) := by decide +kernel

theorem test_ObjectCommandsComplete_2_hypotheses :
    let acc : Acc := {}
    let s : State := { w0 with vat := { w0.vat with objSlot := 9, w := 0x40 } }
    let n : Nat := s.vat.objSlot.toNat
    let c : ObjCmd := { cmd := 1, slot := n, image := s.vat.w, acc }
    (slotServed acc s = true) ∧ (s.vat.cmdBusy = false) ∧ (blocked s (.slot n) = false) ∧ (clean (slotAt s n) = true) ∧ ((objAt s n).kind = 0) ∧ (createErr s c ≠ 0) := by decide +kernel

theorem test_ObjectCommandsComplete_3_hypotheses :
    let acc : Acc := {}
    let s : State := { wSem with vat := { wSem.vat with objSlot := 5 } }
    let n : Nat := s.vat.objSlot.toNat
    (slotServed acc s = true) ∧ (s.vat.cmdBusy = false) ∧ (blocked s (.slot n) = false) ∧ (clean (slotAt s n) = true) ∧ ((objAt s n).kind ≠ 0) ∧ ((tget s.vat.third n).any (fun t => !t.live) = false) ∧ (destroyBusy s n = false) ∧ (holdersOf s n = []) ∧ (s.couch.pend = []) := by decide +kernel

theorem test_ObjectCommandsComplete_4_hypotheses :
    let acc : Acc := {}
    let s : State := { wSem with vat := { wSem.vat with objSlot := 5 } }
    let n : Nat := s.vat.objSlot.toNat
    (slotServed acc s = true) ∧ (s.vat.cmdBusy = false) ∧ (blocked s (.slot n) = false) ∧ (clean (slotAt s n) = true) ∧ ((objAt s n).kind ≠ 0) ∧ ((tget s.vat.third n).any (fun t => !t.live) = false) ∧ (listAt s n = []) ∧ (identsOf s n = []) ∧ (holdersOf s n = []) ∧ (s.couch.pend = []) := by decide +kernel

theorem test_ObjectCommandsComplete_5_hypotheses :
    let acc : Acc := {}
    let s : State := { wSem with vat := { wSem.vat with objSlot := 5 } }
    let n : Nat := s.vat.objSlot.toNat
    (slotServed acc s = true) ∧ (s.vat.cmdBusy = false) ∧ (blocked s (.slot n) = false) := by decide +kernel

theorem test_WatermarkCommandsComplete_1_hypotheses :
    let acc : Acc := {}
    let s : State := { wSem with wm := { wSem.wm with w := BitVec.ofNat 256 (9 + 2 ^ 128 * 5 + 2 ^ 145) } }
    let i : Nat := 0
    let n : Nat := (wmOfImage s.wm.w 0).slot
    let r : WmRec := wmOfImage s.wm.w (wmLevel s n (wmOfImage s.wm.w 0).src)
    (slotServed acc s = true) ∧ (s.wm.cmdBusy = false) ∧ (blocked s (.slot n) = false) ∧ (clean (slotAt s n) = true) ∧ (wmAttachErr s s.wm.w (wmOfImage s.wm.w 0) = 0) ∧ (storeFree s = some i) ∧ (r.side = .between) := by decide +kernel

theorem test_WatermarkCommandsComplete_2_hypotheses :
    let acc : Acc := {}
    let i : BitVec 13 := 4
    let r : WmRec := { slot := 5, src := false, hen := true, len := false, h := 4, l := 0, ctx := 0, target := 0, tinc := 0, cookie := 0, hold := 3, handle := 0 }
    let s : State := { wSem with wm := { wSem.wm with recs := [(4, r)] } }
    (slotServed acc s = true) ∧ (s.wm.cmdBusy = false) ∧ (tget s.wm.recs i.toNat = some r) ∧ (blocked s (.slot r.slot) = false) ∧ (clean (slotAt s r.slot) = true) := by decide +kernel

theorem test_WatermarkCommandsComplete_3_hypotheses :
    let acc : Acc := {}
    let i : BitVec 13 := 4
    let r : WmRec := { slot := 5, src := false, hen := true, len := false, h := 4, l := 0, ctx := 0, target := 0, tinc := 0, cookie := 0, hold := 3, handle := 0 }
    let s : State := { wSem with wm := { wSem.wm with recs := [(4, r)] } }
    (slotServed acc s = true) ∧ (s.wm.cmdBusy = false) ∧ (tget s.wm.recs i.toNat = some r) ∧ (blocked s (.slot r.slot) = false) := by decide +kernel

theorem test_WatermarkCommandsComplete_4_hypotheses :
    let acc : Acc := {}
    let i : BitVec 13 := 4
    let r : WmRec := { slot := 5, src := false, hen := true, len := false, h := 4, l := 0, ctx := 0, target := 0, tinc := 0, cookie := 0, hold := 3, handle := 0 }
    let s : State := { wSem with wm := { wSem.wm with w := BitVec.ofNat 256 (2 ^ 200 * 7), recs := [(4, r)] } }
    (slotServed acc s = true) ∧ (s.wm.cmdBusy = false) ∧ (tget s.wm.recs i.toNat = some r) ∧ (blocked s (.slot r.slot) = false) ∧ (wmTargetOk s s.wm.w = true) := by decide +kernel

theorem test_ContextCommandsComplete_1_hypotheses :
    let acc : Acc := {}
    let s : State := { w0 with ctx := { w0.ctx with sel := 3, tab := [(3, { l1len := 1 })] } }
    let c : CtxId := s.ctx.sel
    let e : CtxEntry := tgetD s.ctx.tab c.toNat {}
    (served acc s = true) ∧ (s.ctx.busy = false) ∧ (c ≠ 0) ∧ (e.state = .free) ∧ (e.l1len ≠ 0) := by decide +kernel

theorem test_ContextCommandsComplete_2_hypotheses :
    let acc : Acc := {}
    let n : Nat := 9
    let o : Obj := { kind := kSemaphore, owner := 3 }
    let s : State := { w0 with ctx := { w0.ctx with sel := 3, tab := [(3, { state := .live, l1len := 1, chain := [9] })] }, vat := { w0.vat with slots := [(9, { a := { obj := o }, b := { obj := o } })] } }
    let c : CtxId := s.ctx.sel
    let e : CtxEntry := tgetD s.ctx.tab c.toNat {}
    (served acc s = true) ∧ (s.ctx.busy = false) ∧ (c ≠ 0) ∧ (e.state = .live) ∧ (e.chain = [n]) ∧ (s.qu.recs = []) ∧ (s.qu.locks = []) ∧ (s.couch.recs = []) ∧ (s.couch.roles = []) ∧ (s.couch.pend = []) ∧ (s.la.descs = []) ∧ (listAt s n = []) ∧ (identsOf s n = []) ∧ (holdersOf s n = []) ∧ (blocked s (.slot n) = false) ∧ (s.qu.held = []) ∧ (s.xl.parked.all (fun p => p.ctx != c) = true) := by decide +kernel

theorem test_ContextCommandsComplete_3_hypotheses :
    let acc : Acc := {}
    let c : CtxId := 3
    let s : State := wSem
    (served acc s = true) ∧ (s.xl.tcBusy = false) := by decide +kernel

theorem test_ContextCommandsComplete_4_hypotheses :
    let acc : Acc := {}
    let c : CtxId := 3
    let s : State := wSem
    (served acc s = true) ∧ (s.xl.tcBusy = false) := by decide +kernel

theorem test_ContextCommandsComplete_5_hypotheses :
    let acc : Acc := {}
    let s : State := wSem
    (served acc s = true) ∧ (s.xl.tcBusy = false) := by decide +kernel

theorem test_RingCommandsComplete_1_hypotheses :
    let acc : Acc := {}
    let s : State := { w0 with la := { w0.la with queues := w0.la.queues.set 0 { fault := true } } }
    (served acc s = true) := by decide +kernel

theorem test_RingCommandsComplete_2_hypotheses :
    let acc : Acc := {}
    let v : W32 := 0x80030004
    let s : State := w0
    (served acc s = true) ∧ ((lqAt s s.la.sel.toNat).en = false) ∧ (v.getLsbD 31 = true) ∧ (2 ≤ v.toNat % 16) := by decide +kernel

theorem test_RingCommandsComplete_3_hypotheses :
    let acc : Acc := {}
    let v : W32 := 4
    let s : State := { w0 with la := { w0.la with queues := w0.la.queues.set 0 { en := true } } }
    (served acc s = true) ∧ ((lqAt s s.la.sel.toNat).en = true) ∧ (2 ≤ v.toNat % 16) := by decide +kernel

theorem test_RingCommandsComplete_4_hypotheses :
    let acc : Acc := {}
    let v : W32 := 0xC0000004
    let s : State := w0
    (served acc s = true) ∧ (s.reel.en = false) ∧ (v.getLsbD 31 = true) ∧ (4 ≤ v.toNat % 32) ∧ (v.toNat % 32 ≤ 24) := by decide +kernel

theorem test_RingCommandsComplete_5_hypotheses :
    let acc : Acc := {}
    let v : W32 := 4
    let s : State := { w0 with reel := { w0.reel with en := true } }
    (served acc s = true) ∧ (s.reel.en = true) ∧ (4 ≤ v.toNat % 32) ∧ (v.toNat % 32 ≤ 24) := by decide +kernel

theorem test_RingCommandsComplete_6_hypotheses :
    let acc : Acc := {}
    let c : CtxId := 0
    let s : State := { w0 with dump := { w0.dump with lim := 4 } }
    (served acc s = true) ∧ (s.dump.busy = false) ∧ (s.vat.slots = []) ∧ (s.wt.entries = []) ∧ (s.qu.recs = []) ∧ (s.qu.locks = []) ∧ (s.couch.pend = []) ∧ (s.couch.recs = []) ∧ (s.couch.roles = []) ∧ (2 ≤ s.dump.lim.toNat) ∧ (dumpOut { s with dump := { s.dump with gen := s.dump.gen + 1 } } = 0) := by decide +kernel

theorem test_RingCommandsComplete_7_hypotheses :
    let tag : Byte := 2
    let r : MReq := { use := .dump 1, wr := true, size := 2, addr := 0 }
    let s : State := { w0 with dump := { w0.dump with gen := 1, busy := true, ended := true }, memp := { w0.memp with outst := [(2, r)] } }
    (rest s = true) ∧ (gclkOn s = true) ∧ (tget s.memp.outst tag.toNat = some r) ∧ (r.use = .dump s.dump.gen) ∧ (s.dump.busy = true) ∧ (s.dump.ended = true) ∧ (dumpOut { s with memp := { s.memp with outst := terase s.memp.outst tag.toNat } } = 0) := by decide +kernel

theorem test_RingCommandsComplete_8_hypotheses :
    let tag : Byte := 2
    let err : BitVec 2 := 1
    let r : MReq := { use := .dump 1, wr := true, size := 2, addr := 0 }
    let s : State := { w0 with dump := { w0.dump with gen := 1, busy := true, ended := true }, memp := { w0.memp with outst := [(2, r)] } }
    (rest s = true) ∧ (gclkOn s = true) ∧ (tget s.memp.outst tag.toNat = some r) ∧ (r.use = .dump s.dump.gen) ∧ (s.dump.busy = true) ∧ (err ≠ 0) := by decide +kernel

theorem test_LinkAndSlotCommandsComplete_1_hypotheses :
    let acc : Acc := {}
    let t : Machine.Stream := { eth := false, idx := 1, peer := 1, pinned := true, st := .down, mySession := 3, peerSession := 4, credit := 8, granted := 8 }
    let s : State := { w0 with cal := { w0.cal with time := 200000 }, felt := { w0.felt with peerSel := 1, streams := [t] } }
    (served acc s = true) ∧ (s.felt.cmdBusy = false) ∧ (selStream s = some t) ∧ (t.st = .down) ∧ (t.pinned = true) ∧ (160000 ≤ since (tick s) t.downAt) := by decide +kernel

theorem test_LinkAndSlotCommandsComplete_2_hypotheses :
    let acc : Acc := {}
    let t : Machine.Stream := { eth := false, idx := 1, peer := 1, pinned := true, st := .up, mySession := 3, peerSession := 4, credit := 8, granted := 8 }
    let s : State := { w0 with felt := { w0.felt with peerSel := 1, streams := [t] } }
    (served acc s = true) ∧ (s.felt.cmdBusy = false) ∧ (selStream s = some t) ∧ (t.st ≠ .down) := by decide +kernel

theorem test_LinkAndSlotCommandsComplete_3_hypotheses :
    let acc : Acc := {}
    let t : Machine.Stream := { eth := false, idx := 1, peer := 1, st := .up, mySession := 3, peerSession := 4, credit := 8, granted := 8 }
    let s : State := { w0 with felt := { w0.felt with peerSel := 1, streams := [t] } }
    (served acc s = true) ∧ (s.felt.cmdBusy = false) ∧ (selStream s = some t) ∧ (streamTo s t.peer = some t) ∧ (t.st = .up) ∧ (t.pinned = false) ∧ (t.peerPower ≠ 2) ∧ (txAllowed s = true) := by decide +kernel

theorem test_LinkAndSlotCommandsComplete_4_hypotheses :
    let acc : Acc := {}
    let n : BitVec 17 := 5
    let s : State := withObj { kind := kSemaphore, diverged := true } w0
    (served acc s = true) ∧ (clean (slotAt s n.toNat) = true) ∧ ((objAt s n.toNat).diverged = true) := by decide +kernel

theorem test_LinkAndSlotCommandsComplete_5_hypotheses :
    let acc : Acc := {}
    let n : BitVec 17 := 5
    let s : State := wSem
    (served acc s = true) ∧ (clean (slotAt s n.toNat) = true) ∧ ((objAt s n.toNat).diverged = false) := by decide +kernel

theorem test_LinkAndSlotCommandsComplete_6_hypotheses :
    let acc : Acc := {}
    let s : State := { w0 with cal := { w0.cal with st := .locked } }
    (served acc s = true) ∧ (s.cal.cmdBusy = false) ∧ (s.cal.st = .locked) := by decide +kernel

theorem test_LinkAndSlotCommandsComplete_7_hypotheses :
    let acc : Acc := {}
    let s : State := w0
    (served acc s = true) ∧ (s.cal.cmdBusy = false) ∧ (s.cal.st ≠ .locked) := by decide +kernel

theorem test_InterruptCommandsComplete_1_hypotheses :
    let acc : Acc := {}
    let p : Fin 16 := 0
    let same : Bool := true
    let n : Nat := 0x80
    let r : IrqSrc := { pending := true, count := 3, en := true, target := 1, vEn := true, vTarget := 1 }
    let s : State := { w0 with irq := { w0.irq with src := [(0x80, r)] } }
    (served acc s = true) ∧ (irqSelect (tick s) p.val = some (n, r)) ∧ (irqReserved n = false) := by decide +kernel

theorem test_InterruptCommandsComplete_2_hypotheses :
    let acc : Acc := {}
    let p : Fin 16 := 0
    let same : Bool := true
    let s : State := w0
    (served acc s = true) ∧ (irqSelect (tick s) p.val = none) := by decide +kernel

theorem test_InterruptCommandsComplete_3_hypotheses :
    let acc : Acc := {}
    let n : Byte := 0x80
    let same : Bool := true
    let s : State := w0
    (served acc s = true) ∧ (irqReserved n.toNat = false) := by decide +kernel

theorem test_InterruptCommandsComplete_4_hypotheses :
    let acc : Acc := {}
    let n : Byte := 0x0F
    let same : Bool := true
    let s : State := w0
    (served acc s = true) ∧ (irqReserved n.toNat = true) := by decide +kernel

theorem test_InterruptCommandsComplete_5_hypotheses :
    let acc : Acc := {}
    let k : Fin 8 := 4
    let mask : W32 := 3
    let same : W32 := 2
    let s : State := { w0 with irq := { w0.irq with src := [(0x80, { pending := true, count := 3 })] } }
    (served acc s = true) := by decide +kernel

theorem test_PowerCommandsComplete_1_hypotheses :
    let acc : Acc := {}
    let s : State := w0
    (served acc s = true) ∧ (s.pwr.cmdBusy = false) ∧ (s.pwr.halted = false) ∧ (s.felt.streams = []) ∧ (s.qu.recs = []) := by decide +kernel

theorem test_PowerCommandsComplete_2_hypotheses :
    let acc : Acc := {}
    let s : State := { w0 with sec := { w0.sec with st := .sealed_ } }
    (served acc s = true) ∧ (s.pwr.cmdBusy = false) ∧ (sleepBusy s = false) ∧ (s.boot.phase = .run) ∧ (s.sec.st = .sealed_) ∧ (s.felt.streams = []) := by decide +kernel

theorem test_PowerCommandsComplete_3_hypotheses :
    let acc : Acc := {}
    let s : State := wQuire
    (served acc s = true) ∧ (s.pwr.cmdBusy = false) ∧ (sleepBusy s = true) := by decide +kernel

theorem test_PowerCommandsComplete_4_hypotheses :
    let acc : Acc := {}
    let s : State := { w0 with sec := { w0.sec with st := .openAuth, grant := 3 } }
    (served acc s = true) ∧ (s.sec.st = .openAuth) := by decide +kernel

theorem test_PowerCommandsComplete_5_hypotheses :
    let acc : Acc := {}
    let v : W32 := 0x00050000
    let s : State := { w0 with step := { w0.step with en := true } }
    (served acc s = true) ∧ (s.boot.phase = .run) ∧ (s.step.en = true) := by decide +kernel

theorem test_PowerCommandsComplete_6_hypotheses :
    let acc : Acc := {}
    let v : W32 := 0x80000000
    let s : State := { wSem with sec := { wSem.sec with st := .sealed_ } }
    let n : Nat := 5
    (slotServed acc s = true) ∧ (running s = true) ∧ (s.sec.st ≠ .virgin) ∧ (s.step.en = false) ∧ (v.getLsbD 31 = true) ∧ (reaches s { opcode := opRead, agent := stepAgent s, ctx := 0, handle := s.step.handle } n = true) ∧ ((objAt s n).diverged = false) := by decide +kernel

theorem test_SequencersRestartAndSend_1_hypotheses :
    let acc : Acc := {}
    let k : Fin 2 := 1
    let s : State := { w0 with sq := { w0.sq with sq1 := { held := false } } }
    (served acc s = true) ∧ (sqRuns (sqAt s k.val) = true ∨ (sqAt s k.val).st = .stopped) ∧ (s.boot.flashq = []) := by decide +kernel

theorem test_SequencersRestartAndSend_2_hypotheses :
    let k : Fin 2 := 1
    let s : State := { w0 with sq := { w0.sq with sq1 := { held := false } } }
    (rest s = true) ∧ (gclkOn s = true) ∧ (sqRuns (sqAt s k.val) = true) ∧ ((sqAt s k.val).limit ≠ 0) ∧ (s.boot.flashq = []) := by decide +kernel

theorem test_SequencersRestartAndSend_3_hypotheses :
    let k : Fin 2 := 1
    let s : State := { w0 with sq := { w0.sq with sq1 := { held := false } } }
    (rest s = true) ∧ (gclkOn s = true) ∧ (sqRuns (sqAt s k.val) = true) ∧ (s.boot.flashq = []) := by decide +kernel

theorem test_SequencersRestartAndSend_4_hypotheses :
    let k : Fin 2 := 1
    let image : List Byte := [1]
    let p : Part := { off := 0, len := 4, digest := 0 }
    let s : State := { w0 with sq := { w0.sq with sq1 := { st := .reload } }, boot := { w0.boot with flashq := [1], header := some { sckDiv := 4, rolemap := false, length := 640, imgver := 0, linkwait := 1, caloff := 0, parts := [p, p, p, p, p, p] } } }
    (rest s = true) ∧ (gclkOn s = true) ∧ ((sqAt s k.val).st = .reload) ∧ (s.boot.flashq = [k.val]) ∧ (fwPart s k.val = some p) := by decide +kernel

theorem test_SequencersRestartAndSend_5_hypotheses :
    let acc : Acc := {}
    let k : Fin 2 := 1
    let limit : BitVec 16 := 9
    let s : State := w0
    (served acc s = true) := by decide +kernel

theorem test_SequencersRestartAndSend_6_hypotheses :
    let acc : Acc := {}
    let k : Fin 2 := 0
    let words : BitVec 6 := 1
    let dst : DieId := 1
    let outbox : List Byte := [0, 1, 2, 3, 4, 5, 6, 7, 8]
    let s : State := { w0 with felt := { w0.felt with streams := [{ eth := false, idx := 1, peer := 1, pinned := true, st := .up, mySession := 3, peerSession := 4, credit := 8, granted := 8 }] } }
    let mem : Tbl Byte := memWrite 0x1BE00 outbox (sqAt s k.val).mem
    let b : Body := outboxBody words.toNat (outboxOf { sqAt s k.val with mem })
    (served acc s = true) ∧ (words.toNat ≤ 59) ∧ (leaves dst b s = true) := by decide +kernel

theorem test_SequencersRestartAndSend_7_hypotheses :
    let acc : Acc := {}
    let k : Fin 2 := 0
    let s : State := { w0 with sq := { w0.sq with sq0 := { msgs := 1 } } }
    (served acc s = true) ∧ ((sqAt s k.val).msgs ≠ 0) := by decide +kernel

theorem test_CalibrationCompletes_1_hypotheses :
    let acc : Acc := {}
    let s : State := w0
    (served acc s = true) ∧ (s.boot.calw = .idle) := by decide +kernel

theorem test_CalibrationCompletes_2_hypotheses :
    let acc : Acc := {}
    let s : State := { w0 with boot := { w0.boot with policy := { calwEn := true } } }
    (served acc s = true) ∧ (s.boot.calw = .idle) ∧ (s.boot.policy.calwEn = true) ∧ (s.pwr.st ≠ .brace) ∧ (s.pwr.sleep = .none) ∧ (s.pwr.warnDeb = false) := by decide +kernel

theorem test_CalibrationCompletes_3_hypotheses :
    let acc : Acc := {}
    let s : State := w0
    (served acc s = true) ∧ (s.boot.calw = .idle) ∧ (s.boot.policy.calwEn = false) := by decide +kernel

theorem test_CalibrationCompletes_4_hypotheses :
    let tag : Byte := 2
    let data : BitVec 512 := 0
    let p : Nat := 3
    let r : MReq := { use := .calStore 3, wr := true, size := 2, addr := 0 }
    let s : State := { w0 with boot := { w0.boot with calw := .capture [3] }, memp := { w0.memp with outst := [(2, r)] } }
    (rest s = true) ∧ (gclkOn s = true) ∧ (tget s.memp.outst tag.toNat = some r) ∧ (r.use = .calStore p) ∧ (s.boot.calw = .capture [p]) := by decide +kernel

theorem test_CalibrationCompletes_5_hypotheses :
    let tag : Byte := 2
    let set : BitVec 2048 := calSet w0
    let data : BitVec 512 := set.extractLsb' 1536 512
    let p : Nat := 3
    let r : MReq := { use := .calRead 3, wr := false, size := 2, addr := 0 }
    let s : State := { w0 with boot := { w0.boot with calw := .fetch [3], calwBuf := set }, memp := { w0.memp with outst := [(2, r)] } }
    (rest s = true) ∧ (gclkOn s = true) ∧ (tget s.memp.outst tag.toNat = some r) ∧ (r.use = .calRead p) ∧ (p < 4) ∧ (s.boot.calw = .fetch [p]) ∧ (s.boot.flashq = []) := by decide +kernel

theorem test_CalibrationCompletes_6_hypotheses :
    let tag : Byte := 2
    let err : BitVec 2 := 2
    let data : BitVec 512 := 0
    let p : Nat := 3
    let l : List Nat := [2, 3]
    let r : MReq := { use := .calRead 3, wr := false, size := 2, addr := 0 }
    let s : State := { w0 with boot := { w0.boot with calw := .fetch [2, 3] }, memp := { w0.memp with outst := [(2, r)] } }
    (rest s = true) ∧ (gclkOn s = true) ∧ (tget s.memp.outst tag.toNat = some r) ∧ (r.use = .calRead p) ∧ (s.boot.calw = .fetch l) ∧ (err ≠ 0) := by decide +kernel

theorem test_CalibrationCompletes_7_hypotheses :
    let readback : BitVec 2048 := 7
    let s : State := { w0 with boot := { w0.boot with calw := .flash, flashq := [2], flashSet := 7 } }
    (rest s = true) ∧ (gclkOn s = true) ∧ (s.boot.calw = .flash) ∧ (s.boot.flashq = [2]) := by decide +kernel

theorem test_CalibrationCompletes_8_hypotheses :
    let s : State := { w0 with boot := { w0.boot with calw := .flash, flashq := [2], flashSet := 7 } }
    (rest s = true) ∧ (gclkOn s = true) ∧ (s.boot.calw = .flash) ∧ (s.boot.flashq = [2]) := by decide +kernel

theorem test_CalibrationCompletes_9_hypotheses :
    let acc : Acc := {}
    let t : Machine.Stream := { eth := false, idx := 1, peer := 1, pinned := true, st := .down, mySession := 3, peerSession := 4, credit := 8, granted := 8 }
    let s : State := { w0 with felt := { w0.felt with peerSel := 1, streams := [t] } }
    (served acc s = true) ∧ (s.boot.calw = .idle) ∧ (selStream s = some t) ∧ (t.eth = false) ∧ (t.st = .down) := by decide +kernel

theorem test_CalibrationCompletes_10_hypotheses :
    let code : W32 := 5
    let p : BitVec 4 := 1
    let s : State := { w0 with boot := { w0.boot with calw := .train 1 } }
    (rest s = true) ∧ (gclkOn s = true) ∧ (s.boot.calw = .train p) := by decide +kernel

theorem test_CalibrationCompletes_11_hypotheses :
    let p : BitVec 4 := 1
    let s : State := { w0 with boot := { w0.boot with calw := .train 1 } }
    (rest s = true) ∧ (gclkOn s = true) ∧ (s.boot.calw = .train p) := by decide +kernel

theorem test_TapCompletes_1_hypotheses :
    let s : State := w0
    (rest s = true) ∧ (alive s = true) := by decide +kernel

theorem test_TapCompletes_2_hypotheses :
    let s : State := w0
    (rest s = true) ∧ (alive s = true) := by decide +kernel

theorem test_TapCompletes_3_hypotheses :
    let x : TapShift := { tdi := true }
    let s : State := w0
    (rest s = true) ∧ (alive s = true) ∧ (tapInstr (s.sec.st == .virgin) x.ir = .bypass) := by decide +kernel

theorem test_TapCompletes_4_hypotheses :
    let x : TapShift := { ir := 0x12, tdi := true }
    let s : State := { w0 with sec := { w0.sec with st := .virgin } }
    (rest s = true) ∧ (alive s = true) ∧ (tapInstr (s.sec.st == .virgin) x.ir = .vendor) := by decide +kernel

theorem test_TapCompletes_5_hypotheses :
    let s : State := w0
    (rest s = true) ∧ (alive s = true) ∧ (s.pwr.st ≠ .sleep) ∧ (s.sec.token = none) := by decide +kernel

theorem test_TapCompletes_6_hypotheses :
    let s : State := { w0 with sec := { w0.sec with token := some 1 } }
    (rest s = true) ∧ (alive s = true) ∧ (s.pwr.st = .sleep ∨ s.sec.token ≠ none) := by decide +kernel

theorem test_TapCompletes_7_hypotheses :
    let t : BitVec 1216 := BitVec.ofNat 1216 (0x47445531 + 2 ^ 72 * 0x301 + 2 ^ 96 + 2 ^ 192 * 7)
    let s : State := { w0 with sec := { w0.sec with st := .sealed_, nonce := some 7 }, boot := { w0.boot with policy := { dbgKey := some 1, dbgAllow := 1 } } }
    (rest s = true) ∧ (alive s = true) ∧ (tokenErr (tick s) t = 0) := by decide +kernel

theorem test_TapCompletes_8_hypotheses :
    let t : BitVec 1216 := 0
    let s : State := w0
    (rest s = true) ∧ (alive s = true) ∧ (1 ≤ tokenErr (tick s) t) ∧ (tokenErr (tick s) t ≤ 4) := by decide +kernel

theorem test_TapCompletes_9_hypotheses :
    let t : BitVec 1216 := 0
    let s : State := { w0 with sec := { w0.sec with st := .sealed_ } }
    (rest s = true) ∧ (alive s = true) ∧ (5 ≤ tokenErr (tick s) t) := by decide +kernel

theorem test_TapCompletes_10_hypotheses :
    let t : BitVec 1216 := 1
    let s : State := { w0 with sec := { w0.sec with st := .sealed_, token := some 1 } }
    (rest s = true) ∧ (alive s = true) ∧ (s.sec.token = some t) ∧ (s.sec.spoiled = false) := by decide +kernel

theorem test_TapCompletes_11_hypotheses :
    let s : State := { w0 with sec := { w0.sec with st := .openAuth, grant := 3 } }
    (rest s = true) ∧ (alive s = true) ∧ (s.sec.st = .openAuth) := by decide +kernel

theorem test_TapCompletes_12_hypotheses :
    let s : State := { w0 with sec := { w0.sec with st := .openAuth, grant := 3, expiry := 5 }, cal := { w0.cal with time := 6 } }
    (rest s = true) ∧ (alive s = true) ∧ (s.sec.st = .openAuth) ∧ (s.sec.expiry ≠ 0) ∧ (s.sec.expiry.toNat ≤ (now (tick s)).toNat) := by decide +kernel

theorem test_TapCompletes_13_hypotheses :
    let r : BitVec 72 := 0
    let s : State := { w0 with sec := { w0.sec with st := .sealed_ } }
    (rest s = true) ∧ (alive s = true) ∧ (regaccAllowed s (r.getLsbD 71) = false) := by decide +kernel

theorem test_TapCompletes_14_hypotheses :
    let r : BitVec 72 := BitVec.ofNat 72 (2 ^ 34)
    let s : State := w0
    (rest s = true) ∧ (alive s = true) ∧ (regpHeld s = false) ∧ (s.pwr.st ≠ .doze) ∧ (r.getLsbD 71 = false) ∧ (r.extractLsb' 34 23 = 1) ∧ (regaccAllowed s false = true) ∧ (s.regp.stalled = []) := by decide +kernel

theorem test_HaltPinsComplete_1_hypotheses :
    let s : State := w0
    (rest s = true) ∧ (running s = true) ∧ (s.felt.streams = []) ∧ (s.qu.recs = []) := by decide +kernel

theorem test_HaltPinsComplete_2_hypotheses :
    let s : State := w0
    (rest s = true) ∧ (running s = true) ∧ (s.felt.streams = []) ∧ (s.qu.recs = []) := by decide +kernel

theorem test_HaltPinsComplete_3_hypotheses :
    let s : State := { w0 with pwr := { w0.pwr with st := .sleep, sleep := .asleep } }
    (rest s = true) ∧ (alive s = true) ∧ (s.pwr.st = .sleep) := by decide +kernel

theorem test_HaltPinsComplete_4_hypotheses :
    let s : State := { w0 with pwr := { w0.pwr with st := .sleep, sleep := .asleep } }
    (rest s = true) ∧ (alive s = true) ∧ (s.pwr.st = .sleep) := by decide +kernel

theorem test_BraceCompletes_1_hypotheses :
    let s : State := { w0 with sec := { w0.sec with st := .sealed_ } }
    (rest s = true) ∧ (running s = true) ∧ (s.felt.streams = []) ∧ (s.qu.recs = []) ∧ (s.sec.st ≠ .virgin) ∧ (s.pwr.warnDeb = false) ∧ (s.pwr.bphase = .none) := by decide +kernel

theorem test_BraceCompletes_2_hypotheses :
    let s : State := { w0 with pwr := { w0.pwr with st := .brace, bphase := .bracing, warnDeb := true } }
    (rest s = true) ∧ (gclkOn s = true) ∧ (s.pwr.bphase = .bracing) ∧ (braceDrained s = true) ∧ (s.pwr.warnDeb = true) := by decide +kernel

theorem test_BraceCompletes_3_hypotheses :
    let s : State := { w0 with pwr := { w0.pwr with st := .brace, bphase := .braced, warnDeb := true } }
    (rest s = true) ∧ (gclkOn s = true) ∧ (s.felt.streams = []) ∧ (s.pwr.st = .brace) ∧ (s.pwr.bphase = .braced) := by decide +kernel

theorem test_SleepAndDozeComplete_1_hypotheses :
    let s : State := { w0 with sec := { w0.sec with st := .sealed_ }, pwr := { w0.pwr with autoDoze := true } }
    (rest s = true) ∧ (running s = true) ∧ (s.felt.streams = []) ∧ (s.pwr.autoDoze = true) ∧ (s.pwr.bphase = .none) ∧ (idle s = true) ∧ (s.sec.st = .sealed_) := by decide +kernel

theorem test_SleepAndDozeComplete_2_hypotheses :
    let s : State := { wSem with pwr := { wSem.pwr with sleep := .draining, cmdBusy := true } }
    (rest s = true) ∧ (alive s = true) ∧ (s.pwr.sleep = .draining) ∧ (s.pwr.st = .active) ∧ (idle s = true) ∧ (feltReady s = true) ∧ (poolUsed s = 0) := by decide +kernel

theorem test_SleepAndDozeComplete_3_hypotheses :
    let s : State := { w0 with pwr := { w0.pwr with sleep := .draining, cmdBusy := true } }
    (rest s = true) ∧ (alive s = true) ∧ (s.pwr.sleep = .draining) ∧ (s.felt.streams = []) := by decide +kernel

theorem test_SleepAndDozeComplete_4_hypotheses :
    let s : State := { w0 with pwr := { w0.pwr with st := .sleep, sleep := .asleep, wake := true } }
    (rest s = true) ∧ (alive s = true) ∧ (s.pwr.sleep = .asleep) ∧ (s.pwr.wake = true) := by decide +kernel

theorem test_SleepAndDozeComplete_5_hypotheses :
    let s : State := { w0 with pwr := { w0.pwr with st := .sleep, sleep := .exiting }, pins := { w0.pins with gclkReq := true, d2dLowrate := true } }
    (rest s = true) ∧ (alive s = true) ∧ (s.pwr.sleep = .exiting) ∧ (s.pins.gclkReq = true) ∧ (s.felt.streams = []) ∧ (s.boot.phase = .run) ∧ (s.regp.stalled = []) ∧ (s.boot.flashq = []) ∧ (s.pins.droop = s.pwr.droopSeen) ∧ (s.pwr.haltOwed = none) ∧ (s.pwr.braceOwed = false) ∧ ([0x20, 0x21, 0x22, 0x23].all (fun n => (irqGet s n).latch == 0) = true) := by decide +kernel

theorem test_SensorsComplete_1_hypotheses :
    let t : Byte := 0x50
    let s : State := w0
    (rest s = true) ∧ (alive s = true) ∧ (t.toInt < s.pwr.thalt.toInt) ∧ (t.toInt < s.pwr.ttrip.toInt ∨ s.step.en = false) := by decide +kernel

theorem test_SensorsComplete_2_hypotheses :
    let t : Byte := 0x69
    let s : State := w0
    (rest s = true) ∧ (running s = true) ∧ (s.felt.streams = []) ∧ (s.qu.recs = []) ∧ (s.pwr.thalt.toInt ≤ t.toInt) ∧ (s.step.en = false) := by decide +kernel

theorem test_SensorsComplete_3_hypotheses :
    let v : BitVec 3 := 2
    let s : State := { w0 with pwr := { w0.pwr with bubEn := true, cmask := 1, umask := 3 } }
    (rest s = true) ∧ (gclkOn s = true) ∧ (s.pwr.bubEn = true) ∧ (v ≠ s.pwr.droopSeen) := by decide +kernel

theorem test_SensorsComplete_4_hypotheses :
    let s : State := { w0 with cal := { w0.cal with rate := 5 } }
    (rest s = true) ∧ (alive s = true) ∧ (slewNow s = 0) := by decide +kernel

theorem test_SensorsComplete_5_hypotheses :
    let s : State := w0
    (rest s = true) ∧ (gclkOn s = true) := by decide +kernel

theorem test_CalenderCompletes_1_hypotheses :
    let d : DieId := 0
    let t : Machine.Stream := { ({ eth := false, idx := 1, peer := 1, pinned := true, st := .up, mySession := 3, peerSession := 4, credit := 8, granted := 8 } : Machine.Stream) with peer := 0, idx := 0 }
    let s : State := { w0 with boot := { w0.boot with topo := { die := 1, dies := 2, pkgShadow := 1 } }, felt := { w0.felt with streams := [t] } }
    (rest s = true) ∧ (gclkOn s = true) ∧ (parentDie s = some d) ∧ (streamTo s d = some t) ∧ (t.st = .up) ∧ (txAllowed s = true) := by decide +kernel

theorem test_CalenderCompletes_2_hypotheses :
    let s : State := w0
    (rest s = true) ∧ (alive s = true) ∧ (parentDie s = none) := by decide +kernel

theorem test_CalenderCompletes_3_hypotheses :
    let th : Int := 3
    let de : Int := 2
    let t : W64 := 7
    let s : State := { w0 with boot := { w0.boot with topo := { die := 1, dies := 2, pkgShadow := 1 } }, cal := { w0.cal with st := .fit, window := some (3, 2, 7) } }
    (rest s = true) ∧ (alive s = true) ∧ (s.cal.st = .fit) ∧ (isRoot s = false) ∧ (s.cal.window = some (th, de, t)) := by decide +kernel

theorem test_CalenderCompletes_4_hypotheses :
    let r : W32 := 0
    let x : Bool := false
    let s : State := { w0 with boot := { w0.boot with topo := { die := 1, dies := 2, pkgShadow := 1 } }, cal := { w0.cal with st := .fit, points := [(3, 0), (3, 8)] } }
    (rest s = true) ∧ (alive s = true) ∧ (s.cal.st = .fit) ∧ (isRoot s = false) ∧ (fitRate s.cal.points = some (r, x)) := by decide +kernel

theorem test_CalenderCompletes_5_hypotheses :
    let s : State := w0
    (rest s = true) ∧ (gclkOn s = true) ∧ (ppsEarly (tick s) = false) ∧ (s.cal.ppsAlign = false) := by decide +kernel

theorem test_CalenderCompletes_6_hypotheses :
    let s : State := { w0 with cal := { w0.cal with ppsoEn := true } }
    (rest s = true) ∧ (alive s = true) ∧ (s.cal.ppsoEn = true) := by decide +kernel

theorem test_CalenderCompletes_7_hypotheses :
    let s : State := w0
    (rest s = true) ∧ (alive s = true) := by decide +kernel

theorem test_StepUnitCompletes_1_hypotheses :
    let q : BitVec 6 := 5
    let s : State := w0
    (rest s = true) ∧ (alive s = true) ∧ (s.step.en = false) := by decide +kernel

theorem test_StepUnitCompletes_2_hypotheses :
    let q : BitVec 6 := 5
    let e : W32 := 2
    let s : State := { w0 with step := { w0.step with en := true, epoch := some 2 }, pwr := { w0.pwr with maxops := 0 } }
    let r : Nat := max q.toNat s.step.fwReq.toNat
    (rest s = true) ∧ (running s = true) ∧ (stepFree s = true) ∧ (s.step.epoch = some e) ∧ (s.step.presented = false) ∧ (tripped s = false) ∧ (canGrant (tick s) = false) ∧ (s.pwr.floor.toNat ≤ r) ∧ (s.pwr.maxup.toNat = 63) := by decide +kernel

theorem test_StepUnitCompletes_3_hypotheses :
    let s : State := { w0 with step := { w0.step with presented := true } }
    (rest s = true) ∧ (alive s = true) ∧ (s.step.presented = true) ∧ (s.step.at_.toNat ≤ (now (tick s)).toNat) := by decide +kernel

theorem test_StepUnitCompletes_4_hypotheses :
    let s : State := w0
    (rest s = true) ∧ (alive s = true) := by decide +kernel

theorem test_ScrubAndEgressComplete_1_hypotheses :
    let n : BitVec 17 := 5
    let s : State := wSem
    (rest s = true) ∧ (gclkOn s = true) ∧ (clean (slotAt s n.toNat) = true) := by decide +kernel

theorem test_ScrubAndEgressComplete_2_hypotheses :
    let n : BitVec 17 := 5
    let s : State := wSem
    (rest s = true) ∧ (gclkOn s = true) ∧ (clean (slotAt s n.toNat) = true) ∧ (s.res.scrubEn = true) ∧ (fetching s n.toNat = false) := by decide +kernel

theorem test_ScrubAndEgressComplete_3_hypotheses :
    let a : ArrayId := .pool
    let w : BitVec 24 := 9
    let s : State := w0
    (rest s = true) ∧ (gclkOn s = true) ∧ (a = .pool ∨ a = .ctx) := by decide +kernel

theorem test_ScrubAndEgressComplete_4_hypotheses :
    let p : Port := 0
    let f : EgFlit := { f := { cls := 1, opcode := 0, agent := 0, inc := 0 }, prio := 2, built := 0 }
    let s : State := { w0 with eg := { w0.eg with queue := [f] } }
    (rest s = true) ∧ (gclkOn s = true) ∧ (egPick (tick s) p = some f) ∧ (f.f.two = false ∨ f.half = true) := by decide +kernel

theorem test_ResetsComplete_1_hypotheses :
    let x : Bool := true
    let s : State := wSem
    (s.hb.ports = []) := by decide +kernel

theorem test_ResetsComplete_2_hypotheses :
    let s : State := wSem
    (s.hb.ports = []) ∧ (alive s = true) ∧ (s.sec.st ≠ .openAuth) := by decide +kernel

theorem test_ResetsComplete_3_hypotheses :
    let s : State := wSem
    (s.hb.ports = []) := by decide +kernel

theorem test_StartUpCompletes_1_hypotheses :
    let x : Bool := true
    let s : State := { w0 with boot := { w0.boot with phase := .selftest }, sec := { w0.sec with st := .sealed_ } }
    (rest s = true) ∧ (alive s = true) ∧ (s.boot.phase = .selftest) ∧ (s.regp.stalled = []) := by decide +kernel

theorem test_StartUpCompletes_2_hypotheses :
    let f : Sfdp := { signature := 0x50444653, bfpt := true, fast114 := true, quadReq := true, addr4only := false, erase := [{ log := 12, instr := 0x20 }] }
    let s : State := { w0 with boot := { w0.boot with phase := .discover } }
    (rest s = true) ∧ (alive s = true) ∧ (s.boot.phase = .discover) := by decide +kernel

theorem test_StartUpCompletes_3_hypotheses :
    let h : BitVec 5120 := 0
    let s : State := { w0 with boot := { w0.boot with phase := .verify } }
    (rest s = true) ∧ (alive s = true) ∧ (s.boot.phase = .verify) := by decide +kernel

theorem test_StartUpCompletes_4_hypotheses :
    let s : State := { w0 with boot := { w0.boot with phase := .links } }
    (rest { s with boot := { s.boot with phase := .run } } = true) ∧ (s.pwr.off = false) ∧ (s.boot.phase = .links) ∧ (s.boot.stepEnOwed = false) := by decide +kernel

theorem test_LoadCompletes_1_hypotheses :
    let cal : BitVec 2048 := 0
    let parts : List (List Byte) := []
    let h : Header := { sckDiv := 4, rolemap := false, length := 640, imgver := 7, linkwait := 1, caloff := 0, parts := [] }
    let i : Nat := 0
    let s : State := { w0 with boot := { w0.boot with phase := .load, header := some h } }
    (rest s = true) ∧ (alive s = true) ∧ (s.boot.phase = .load) ∧ (s.boot.header = some h) ∧ (digestBad h parts = some i) := by decide +kernel

theorem test_LoadCompletes_2_hypotheses :
    let cal : BitVec 2048 := 0
    let parts : List (List Byte) := [[], [], [], [], [], []]
    let h : Header := hdrOf parts
    let s : State := wLoad parts
    (rest s = true) ∧ (alive s = true) ∧ (s.boot.phase = .load) ∧ (s.boot.header = some h) ∧ (digestBad h parts = none) ∧ (loadTopo (parts.getD 0 []) = none ∨ loadPolicy (parts.getD 2 []) = none ∨ regsOk (parts.getD 5 []) = false) := by
  and_intros <;> first | decide +kernel | exact digests .. | rfl

theorem test_LoadCompletes_3_hypotheses :
    let cal : BitVec 2048 := 0
    let parts : List (List Byte) := goodParts
    let h : Header := hdrOf parts
    let t : Topo := (loadTopo (parts.getD 0 [])).getD {}
    let p : Policy := (loadPolicy (parts.getD 2 [])).getD {}
    let v : W32 := 1
    let s : State := wLoad parts
    (rest s = true) ∧ (alive s = true) ∧ (s.boot.phase = .load) ∧ (s.boot.header = some h) ∧ (digestBad h parts = none) ∧ (loadTopo (parts.getD 0 []) = some t) ∧ (loadPolicy (parts.getD 2 []) = some p) ∧ (regsOk (parts.getD 5 []) = true) ∧ (regsEntries (parts.getD 5 []) = [(0x190C, v)]) ∧ (v ≠ 0) ∧ (v.toNat ≤ 1048576) ∧ (s.ctx.sel = 0) ∧ (s.ctx.tab = []) ∧ (pinnedStreams t = []) ∧ (s.boot.stepEnOwed = false) := by
  and_intros <;> first | decide +kernel | exact digests .. | rfl

theorem test_OperationFrameCompletes_1_hypotheses :
    let h : FHdr := hq
    let o : Byte := opSignal
    let f : Flit := { agent := 1024, a := 2 }
    let slot : BitVec 17 := 5
    let cont : Option (BitVec 256) := none
    let s : State := withUp wSem
    let b : Body := .op o f slot cont
    let v : State := heard h (tick s)
    let n : Nat := slot.toNat
    let op : Op := opOfFrame h.src o f cont
    let r : KRes := kindStep (liveKinds s) (objAt s n) [] op (some f.agent)
    let o' : Obj := setLastsig (objAt s n) r.obj (some f.agent)
    let ans : Body := .flit (respFlit op stOk (if o = opCas then (objAt s n).value else o'.value) (objB o') 0)
    (hears h b s = true) ∧ ((o = opSignal ∨ o = opSet ∨ o = opTake ∨ o = opGive ∨ o = opCas ∨ o = opInvoke)) ∧ (canGrant v = true) ∧ (stateGate s o f.ctx = none) ∧ (blocked s (.slot n) = false) ∧ (thirdDead s n = false) ∧ (clean (slotAt s n) = true) ∧ ((objAt s n).kind ≠ 0) ∧ (kindUnknown s (objAt s n).kind = false) ∧ (listAt s n = []) ∧ (holdersOf s n = []) ∧ (ownerOk (objAt s n) f.ctx = true) ∧ (f.noresp = false) ∧ (plain r = true) ∧ (firstInLine op s = true) ∧ (leaves h.src ans v = true) := by decide +kernel

theorem test_OperationFrameCompletes_2_hypotheses :
    let h : FHdr := hq
    let o : Byte := opSignal
    let f : Flit := { agent := 1024, a := 2 }
    let slot : BitVec 17 := 5
    let cont : Option (BitVec 256) := none
    let s : State := { wUp with pwr := { wUp.pwr with maxops := 0 } }
    let b : Body := .op o f slot cont
    let v : State := heard h (tick s)
    (hears h b s = true) ∧ (canGrant v = false) := by decide +kernel

theorem test_DeliveryFramesComplete_1_hypotheses :
    let h : FHdr := hq
    let f : OutFlit := { cls := 1, opcode := 2, agent := 0, inc := 0, status := 6 }
    let op : Op := { opcode := 2, agent := 0, ctx := 0 }
    let s : State := { wUp with hb := { wUp.hb with remote := [op], order := [placeOf op] } }
    let b : Body := .flit f
    (hears h b s = true) ∧ (f.cls = 1) ∧ (s.hb.remote = [op]) ∧ (s.hb.order = [placeOf op]) ∧ (answersOp f op = true) ∧ (op.src = .mesh) ∧ (op.opcode ≠ opWatch) ∧ (op.noresp = false) ∧ (s.ag.moves = []) ∧ (s.ag.resets = []) := by decide +kernel

theorem test_DeliveryFramesComplete_2_hypotheses :
    let h : FHdr := hq
    let f : OutFlit := { cls := 3, opcode := 7, agent := 0, inc := 0 }
    let s : State := wUp
    let b : Body := .flit f
    (hears h b s = true) ∧ (f.cls ≠ 1) ∧ (stepOwn s f = false) := by decide +kernel

theorem test_DeliveryFramesComplete_3_hypotheses :
    let h : FHdr := hq
    let f : OutFlit := { cls := 2, opcode := 9, agent := 5, inc := 0 }
    let s : State := wUp
    let b : Body := .notify f
    (hears h b s = true) ∧ (onceMirror s h.src f = none) ∧ (f.inc = incOf s f.agent) ∧ (f.fwd = false) := by decide +kernel

theorem test_DeliveryFramesComplete_4_hypotheses :
    let h : FHdr := hq
    let f : OutFlit := { cls := 2, opcode := 9, agent := 5, inc := 3 }
    let s : State := wUp
    let b : Body := .notify f
    (hears h b s = true) ∧ (onceMirror s h.src f = none) ∧ (f.inc ≠ incOf s f.agent) ∧ (s.ag.stubs = []) := by decide +kernel

theorem test_DeliveryFramesComplete_5_hypotheses :
    let h : FHdr := hq
    let idx : BitVec 16 := 9
    let target : AgentId := 0
    let ix : Nat := 4
    let s : State := { wUp with wt := { wUp.wt with entries := [(4, .mirror wt3 1 (some 9) { opcode := opWatch, agent := 0, ctx := 0 })] } }
    let b : Body := .freed idx target
    (hears h b s = true) ∧ (mirrorAt s h.src idx = some ix) := by decide +kernel

theorem test_TreeFramesComplete_1_hypotheses :
    let h : FHdr := hq
    let handle : W32 := 0x30000000
    let ctx : CtxId := 0
    let epoch : W32 := 7
    let weight : W32 := 2
    let desc : Option LaneDesc := none
    let parts : List Partial := []
    let x : Xl := x5
    let s : State := { withUp wBar with xl := { wBar.xl with cache := [{ ctx := 0, handle := 0x30000000, x := x5 }] } }
    let b : Body := .report handle ctx epoch weight desc parts
    let rep : Rep := { handle, ctx, epoch, weight, desc, parts }
    let n : Nat := xlSlot x
    (hears h b s = true) ∧ (desc = none) ∧ (scopeOf handle = 3) ∧ (servesPkg s = true) ∧ (tcFind s ctx handle = some x) ∧ (xlHome x = myDie s) ∧ (s.pwr.halted = false) ∧ (s.res.fatal = false) ∧ (ctxState s ctx = .live) ∧ (h.src ≠ myDie s) ∧ (blocked s (.slot n) = false) ∧ (clean (slotAt s n) = true) ∧ ((objAt s n).kind = kBarrier) ∧ (ownerOk (objAt s n) ctx = true) ∧ (kidDup s n rep h.src = false) ∧ (objCheck s n (objAt s n) (arrivalOfRep rep) = stOk) ∧ (countOf (objAt s n) + weight.toNat < (objAt s n).thresh.toNat) ∧ (listAt s n = []) ∧ ((objAt s n).wmark = false) := by decide +kernel

theorem test_TreeFramesComplete_2_hypotheses :
    let h : FHdr := hq
    let handle : W32 := 0x30000000
    let ctx : CtxId := 0
    let status : Status := 0
    let epoch : W32 := 7
    let lanes : Bool := false
    let word : W64 := 0
    let data : BitVec 512 := 0
    let r : DieRec := rec1
    let a : PendArr := pend1
    let s : State := { wUp with couch := { wUp.couch with recs := [rec1], pend := [pend1] } }
    let b : Body := .release handle ctx status epoch lanes word data
    (hears h b s = true) ∧ (status = stOk) ∧ (s.couch.recs = [r]) ∧ (r.ctx = ctx) ∧ (r.handle = handle) ∧ (r.epoch = epoch) ∧ (s.couch.roles = []) ∧ (s.couch.pend = [a]) ∧ (a.slot = none) ∧ (a.op.ctx = ctx) ∧ (a.op.handle = handle) ∧ (a.op.src = .mesh) ∧ (a.leaving = false) := by decide +kernel

theorem test_TreeFramesComplete_3_hypotheses :
    let h : FHdr := hq
    let handle : W32 := 0x30000000
    let ctx : CtxId := 0
    let status : Status := stDeckleGone
    let epoch : W32 := 9
    let r : DieRec := rec1
    let a : PendArr := pend1
    let s : State := { wUp with couch := { wUp.couch with recs := [rec1], pend := [pend1] } }
    let b : Body := .refusal handle ctx status epoch
    (hears h b s = true) ∧ (s.couch.done = []) ∧ (s.couch.recs = [r]) ∧ (r.ctx = ctx) ∧ (r.handle = handle) ∧ (s.couch.roles = []) ∧ (s.couch.pend = [a]) ∧ (a.slot = none) ∧ (a.op.ctx = ctx) ∧ (a.op.handle = handle) ∧ (a.op.src = .mesh) ∧ (a.leaving = false) := by decide +kernel

theorem test_WatchFramesComplete_1_hypotheses :
    let h : FHdr := hq
    let idx : BitVec 16 := 3
    let oldInc : Byte := 0
    let newInc : Byte := 2
    let oldT : AgentId := 1024
    let newT : AgentId := 1030
    let w : Watch := { wt3 with target := 1024 }
    let s : State := { wUp with wt := { wUp.wt with entries := [(3, .watch { wt3 with target := 1024 })] } }
    let b : Body := .retarget idx oldInc newInc oldT newT
    let v : State := heard h (tick s)
    let ans : Body := .wack idx true false
    (hears h b s = true) ∧ (tget s.wt.entries idx.toNat = some (.watch w)) ∧ (w.target = oldT) ∧ (w.tinc = oldInc) ∧ (leaves h.src ans v = true) := by decide +kernel

theorem test_WatchFramesComplete_2_hypotheses :
    let h : FHdr := hq
    let idx : BitVec 16 := 3
    let oldInc : Byte := 1
    let newInc : Byte := 2
    let oldT : AgentId := 1024
    let newT : AgentId := 1030
    let s : State := { wUp with wt := { wUp.wt with entries := [(3, .watch { wt3 with target := 1024 })] } }
    let b : Body := .retarget idx oldInc newInc oldT newT
    let v : State := heard h (tick s)
    let ans : Body := .wack idx false false
    (hears h b s = true) ∧ (homeWatch s idx (fun w => w.target == oldT && w.tinc == oldInc) = none) ∧ (leaves h.src ans v = true) := by decide +kernel

theorem test_WatchFramesComplete_3_hypotheses :
    let h : FHdr := hq
    let idx : BitVec 16 := 3
    let oldInc : Byte := 0
    let target : AgentId := 1024
    let w : Watch := { wt3 with target := 1024 }
    let s : State := { withUp wWatched with wt := { wWatched.wt with entries := [(3, .watch { wt3 with target := 1024 })] } }
    let b : Body := .unwatchRst idx oldInc target
    let v : State := heard h (tick s)
    let gone : Body := .freed idx target
    let ans : Body := .wack idx true true
    let w2 : State := sent h.src gone (bumpIf w.slot (bytesAt s w.slot) (unlink w.slot idx.toNat v))
    (hears h b s = true) ∧ (tget s.wt.entries idx.toNat = some (.watch w)) ∧ (w.target = target) ∧ (w.tinc = oldInc) ∧ (dieOf target = h.src) ∧ (holdersOf s w.slot = []) ∧ (leaves h.src gone v = true) ∧ (leaves h.src ans w2 = true) := by decide +kernel

theorem test_WatchFramesComplete_4_hypotheses :
    let h : FHdr := hq
    let idx : BitVec 16 := 3
    let done : Bool := true
    let rst : Bool := false
    let m : Mv := { op := { opcode := opMove, agent := 1, ctx := 0 }, x := 2, xi := 0, y := 1, yi := 0, wait := [(1, 3)] }
    let s : State := { wUp with ag := { wUp.ag with moves := [m], stubs := [{ x := 2, xi := 0, y := 1, yi := 0 }] } }
    let b : Body := .wack idx done rst
    (hears h b s = true) ∧ (rst = false) ∧ (s.ag.moves = [m]) ∧ (m.wait = [(h.src, idx)]) ∧ (unanswered s m.x m.xi = false) ∧ (m.op.src = .mesh) ∧ (firstInLine m.op s = true) ∧ (s.ag.resets = []) := by decide +kernel

theorem test_WatchFramesComplete_5_hypotheses :
    let h : FHdr := hq
    let idx : BitVec 16 := 3
    let done : Bool := true
    let rst : Bool := true
    let a : AgentId := 0
    let inc : Byte := 1
    let s : State := { wUp with ag := { wUp.ag with resets := [{ agent := 0, inc := 1, wait := [(1, 3)] }] } }
    let b : Body := .wack idx done rst
    (hears h b s = true) ∧ (rst = true) ∧ (s.ag.moves = []) ∧ (s.ag.resets = [{ agent := a, inc, wait := [(h.src, idx)] }]) ∧ (unanswered s a inc = false) := by decide +kernel

theorem test_ShadowFramesComplete_1_hypotheses :
    let h : FHdr := hq
    let slot : BitVec 17 := 5
    let seq : BitVec 16 := 1
    let counting : Bool := false
    let image : Image := 1
    let s : State := wUp
    let b : Body := .shadow slot seq (.create counting image)
    let n : Nat := slot.toNat
    (hears h b s = true) ∧ ((objAt s n).kind = 0) ∧ ((slotAt s n).lost = false) := by decide +kernel

theorem test_ShadowFramesComplete_2_hypotheses :
    let h : FHdr := hq
    let slot : BitVec 17 := 5
    let seq : BitVec 16 := 1
    let counting : Bool := false
    let image : Image := 1
    let s : State := withUp wSem
    let b : Body := .shadow slot seq (.create counting image)
    let v : State := heard h (tick s)
    let n : Nat := slot.toNat
    let w : State := logEvent 0x10 none (BitVec.ofNat 32 n) ((myDie s).setWidth 64) 0 { v with clk := { v.clk with free := s.clk.free + 4 } }
    let f : Nat → W64 := fun i => Config.unstated (s.clk.free + i)
    let ans : Body := .shadow slot seq (.copy false true (((f 0 ++ f 1) ++ f 2) ++ f 3))
    (hears h b s = true) ∧ ((objAt s n).kind ≠ 0 ∨ (slotAt s n).lost = true) ∧ (leaves h.src ans w = true) := by decide +kernel

theorem test_ShadowFramesComplete_3_hypotheses :
    let h : FHdr := hq
    let slot : BitVec 17 := 5
    let seq : BitVec 16 := 1
    let t : Third := { home := 1 }
    let s : State := { withUp wSem with vat := { wSem.vat with third := [(5, { home := 1 })] } }
    let b : Body := .shadow slot seq .destroy
    let n : Nat := slot.toNat
    (hears h b s = true) ∧ (thirdOf s n h.src = some t) ∧ (listAt s n = []) := by decide +kernel

theorem test_ShadowFramesComplete_4_hypotheses :
    let h : FHdr := hq
    let slot : BitVec 17 := 5
    let seq : BitVec 16 := 1
    let t : Third := { home := 1 }
    let value : W64 := 9
    let s : State := { withUp wSem with vat := { wSem.vat with third := [(5, { home := 1 })] } }
    let b : Body := .shadow slot seq (.set value)
    let n : Nat := slot.toNat
    let r : KRes := kindStep (liveKinds s) (objAt s n) [] { opcode := opSet, agent := 0, ctx := 0, a := value } none
    (hears h b s = true) ∧ (thirdOf s n h.src = some t) ∧ (clean (slotAt s n) = true) ∧ (r.status = stOk) := by decide +kernel

theorem test_ShadowFramesComplete_5_hypotheses :
    let h : FHdr := hq
    let slot : BitVec 17 := 5
    let seq : BitVec 16 := 1
    let t : Third := { home := 1 }
    let idx : BitVec 16 := 8
    let comparand : W64 := 9
    let cond : Byte := 0
    let tinc : Byte := 0
    let cookie : BitVec 16 := 0
    let target : AgentId := 0
    let ctx : CtxId := 0
    let handle : W32 := 0
    let s : State := { withUp wSem with vat := { wSem.vat with third := [(5, { home := 1 })] } }
    let b : Body := .shadow slot seq (.watchAdd idx comparand cond tinc cookie target ctx handle)
    let n : Nat := slot.toNat
    (hears h b s = true) ∧ (thirdOf s n h.src = some t) ∧ (entryFree s = true) := by decide +kernel

theorem test_ShadowFramesComplete_6_hypotheses :
    let h : FHdr := hq
    let slot : BitVec 17 := 5
    let seq : BitVec 16 := 1
    let t : Third := { home := 1 }
    let idx : BitVec 16 := 8
    let ix : Nat := 3
    let w : Watch := wt3
    let d : DieId := 1
    let s : State := { withUp wWatched with wt := { wWatched.wt with entries := [(3, .standby wt3 1 8)] }, vat := { wWatched.vat with third := [(5, { home := 1 })] } }
    let b : Body := .shadow slot seq (.watchFree idx)
    let n : Nat := slot.toNat
    (hears h b s = true) ∧ (thirdOf s n h.src = some t) ∧ (listAt s n = [ix]) ∧ (tget s.wt.entries ix = some (.standby w d idx)) := by decide +kernel

theorem test_ShadowFramesComplete_7_hypotheses :
    let h : FHdr := hq
    let slot : BitVec 17 := 5
    let seq : BitVec 16 := 1
    let t : Third := { home := 1 }
    let s : State := { withUp wSem with vat := { wSem.vat with slots := [(5, { a := { obj := { kind := kSemaphore }, seq := 1 }, b := { obj := { kind := kSemaphore }, seq := 1 } })], third := [(5, { home := 1 })] } }
    let b : Body := .shadow slot seq .fetch
    let v : State := heard h (tick s)
    let n : Nat := slot.toNat
    let ans : Body := .shadow slot (seqAt s n) (.copy t.counting false (packObj (objAt s n) (wheadAt s n)))
    (hears h b s = true) ∧ (thirdOf s n h.src = some t) ∧ (clean (slotAt s n) = true) ∧ (reached (seqAt s n) seq = true) ∧ (leaves h.src ans v = true) := by decide +kernel

theorem test_ShadowFramesComplete_8_hypotheses :
    let h : FHdr := hq
    let slot : BitVec 17 := 5
    let seq : BitVec 16 := 1
    let t : Third := { home := 1 }
    let s : State := { withUp wSem with vat := { wSem.vat with third := [(5, { home := 1 })] } }
    let b : Body := .shadow slot seq .fetch
    let n : Nat := slot.toNat
    (hears h b s = true) ∧ (thirdOf s n h.src = some t) ∧ (reached (seqAt s n) seq = false) := by decide +kernel

theorem test_ShadowFramesComplete_9_hypotheses :
    let h : FHdr := hq
    let slot : BitVec 17 := 5
    let seq : BitVec 16 := 1
    let counting : Bool := false
    let conflict : Bool := false
    let image : Image := 1
    let s : State := { withUp wSem with vat := { wSem.vat with fetch := [{ slot := 5, from_ := [1], got := [], both := false }], holders := [(5, [1])] } }
    let b : Body := .shadow slot seq (.copy counting conflict image)
    let n : Nat := slot.toNat
    (hears h b s = true) ∧ (conflict = false) ∧ (s.vat.fetch = [{ slot := n, from_ := [h.src], got := [], both := false }]) ∧ (s.qu.held = []) := by decide +kernel

theorem test_ShadowFramesComplete_10_hypotheses :
    let h : FHdr := hq
    let slot : BitVec 17 := 5
    let seq : BitVec 16 := 1
    let counting : Bool := false
    let conflict : Bool := true
    let image : Image := 1
    let s : State := { withUp wSem with vat := { wSem.vat with holders := [(5, [1])] } }
    let b : Body := .shadow slot seq (.copy counting conflict image)
    (hears h b s = true) ∧ (conflict = true) ∧ (s.vat.fetch = []) := by decide +kernel

theorem test_QuireFramesComplete_1_hypotheses :
    let h : FHdr := hq
    let key : QKey := key1
    let agent : AgentId := 1024
    let time : W64 := 5
    let homes : List DieId := [1]
    let s : State := wUp
    let b : Body := .qstart key agent time homes
    (hears h b s = true) ∧ (s.qu.coords = []) := by decide +kernel

theorem test_QuireFramesComplete_2_hypotheses :
    let h : FHdr := hq
    let key : QKey := key1
    let no : Bool := false
    let cause : Byte := 0
    let pos : BitVec 4 := 0
    let status : Status := 0
    let c : Coord := { key := key1, shadow := false }
    let s : State := { wUp with qu := { wUp.qu with coords := [c] } }
    let b : Body := .qvote key no cause pos status
    (hears h b s = true) ∧ (no = false) ∧ (s.qu.coords = [c]) ∧ (c = { key, shadow := false }) := by decide +kernel

theorem test_QuireFramesComplete_3_hypotheses :
    let h : FHdr := hq
    let key : QKey := key1
    let no : Bool := false
    let cause : Byte := 0
    let pos : BitVec 4 := 0
    let status : Status := 0
    let c : Coord := { key := key1, shadow := false, homes := some [1] }
    let s : State := { wUp with qu := { wUp.qu with coords := [c] } }
    let b : Body := .qvote key no cause pos status
    let v : State := heard h (tick s)
    let ans : Body := .qdecide key false 0 [h.src]
    (hears h b s = true) ∧ (no = false) ∧ (h.src = key.die) ∧ (s.qu.coords = [c]) ∧ (c = { key, shadow := false, homes := some [h.src] }) ∧ (coordShadows s key [h.src] = []) ∧ (leaves h.src ans v = true) := by decide +kernel

theorem test_QuireFramesComplete_4_hypotheses :
    let h : FHdr := hq
    let key : QKey := key1
    let c : Coord := { key := key1, shadow := false }
    let s : State := { wUp with qu := { wUp.qu with coords := [c] } }
    let b : Body := .qwound key
    let v : State := heard h (tick s)
    let ans : Body := .qdecide key true 7 []
    (hears h b s = true) ∧ (h.src = key.die) ∧ (s.qu.coords = [c]) ∧ (c = { key, shadow := false }) ∧ (coordShadows s key [] = []) ∧ (leaves h.src ans v = true) := by decide +kernel

theorem test_QuireFramesComplete_5_hypotheses :
    let h : FHdr := hq
    let key : QKey := key1
    let inc : Byte := 0
    let agent : AgentId := 1024
    let coord : DieId := 1
    let time : W64 := 5
    let ctx : CtxId := 0
    let m : QMember := { pos := 0, inner := opSignal, slot := 5, a := 2, b := 0 }
    let members : List QMember := [m]
    let s : State := { withUp wSem with boot := { wSem.boot with topo := { wSem.boot.topo with pkgDie := 1, pkgShadow := 16 } } }
    let b : Body := .qprep key inc agent coord time ctx members
    let v : State := heard h (tick s)
    let n : Nat := m.slot.toNat
    let op : Op := { opcode := m.inner, agent, inc, ctx, handle := (Config.unstated s.clk.free).setWidth 32, seq := (Config.unstated (s.clk.free + 1)).setWidth 16, a := m.a, b := m.b, src := .felt key.die }
    let r : KRes := kindStep (liveKinds s) (objAt s n) [] op (some agent)
    let ans : Body := .qvote key false 0 0 0
    let lv : Nat := (prepLevel key coord { v with clk := { v.clk with free := s.clk.free + 2 } }).1
    (hears h b s = true) ∧ (members = [m]) ∧ (m.inner = opSignal) ∧ (key.die ≠ myDie s) ∧ (s.qu.homes = []) ∧ (s.qu.locks = []) ∧ (homeVeto s ctx = none) ∧ (blocked s (.slot n) = false) ∧ (thirdDead s n = false) ∧ (clean (slotAt s n) = true) ∧ ((objAt s n).kind ≠ 0) ∧ (ownerOk (objAt s n) ctx = true) ∧ (kindUnknown s (objAt s n).kind = false) ∧ (listAt s n = []) ∧ (plain r = true) ∧ (canGrant v = true) ∧ (voteHosts s lv coord = [coord]) ∧ (leaves coord ans v = true) := by decide +kernel

theorem test_QuireFramesComplete_6_hypotheses :
    let h : FHdr := hq
    let key : QKey := key1
    let abort : Bool := true
    let cause : Byte := 7
    let voted : List DieId := []
    let m : HMember := { pos := 0, target := .slot 5, slot := 5, x := x5, op := qm0.op }
    let q : HomeQ := { key := key1, ticket := qr0.ticket, inc := 0, ctx := 0, coord := 1, members := [m] }
    let s : State := { wUp with qu := { wUp.qu with homes := [q], locks := [{ target := .slot 5, key := key1, ticket := qr0.ticket }] } }
    let b : Body := .qdecide key abort cause voted
    let v : State := heard h (tick s)
    let ans : Body := .qdone key [{ pos := BitVec.ofNat 4 m.pos, status := stQuireAborted, a := 0, b := 0 }]
    (hears h b s = true) ∧ (abort = true) ∧ (h.src = key.die) ∧ (shadowsRole s = false) ∧ ((pkgHosts s (myPkg s)).drop 1 ≠ [myDie s] ∨ servesPkg s = true) ∧ (s.qu.coords = []) ∧ (s.qu.homes = [q]) ∧ (q.key = key) ∧ (q.decision = none) ∧ (q.no = none) ∧ (q.members = [m]) ∧ (s.wt.entries = []) ∧ (leaves h.src ans v = true) := by decide +kernel

theorem test_QuireFramesComplete_7_hypotheses :
    let h : FHdr := hq
    let key : QKey := { die := 0, qid := 0 }
    let a : QAnswer := { pos := 0, status := 0, a := 7, b := 1 }
    let answers : List QAnswer := [a]
    let m : Member := { qm0 with home := 1 }
    let cop : Op := { opcode := opQcommit, agent := 0, ctx := 0 }
    let r : QRec := { qr0 with members := [m], state := .committed, commit := some cop, wait := [1] }
    let s : State := { wUp with qu := { wUp.qu with recs := [(0, r)] } }
    let b : Body := .qdone key answers
    (hears h b s = true) ∧ (key.die = myDie s) ∧ (answers = [a]) ∧ (a.status = stOk) ∧ (a.pos.toNat = m.pos) ∧ (tget s.qu.recs key.qid.toNat = some r) ∧ (r.state = .committed) ∧ (r.wait = [h.src]) ∧ (r.got = []) ∧ (r.members = [m]) ∧ (r.commit = some cop) ∧ (m.home = h.src) ∧ (m.mirror = none) ∧ (m.op.src = .mesh) ∧ (cop.src = .mesh) ∧ (firstInLine m.op s = true) ∧ (firstInLine cop s = true) ∧ (s.ag.moves = []) ∧ (s.ag.resets = []) ∧ (s.pwr.bphase = .none) ∧ (tget s.ag.hold (localIx r.agent) ≠ some r.ticket) := by decide +kernel

theorem test_LinkFramesComplete_1_hypotheses :
    let h : FHdr := hu
    let power : BitVec 3 := 3
    let halted : Bool := true
    let taken : Bool := false
    let time : W64 := 5
    let t : Machine.Stream := up1
    let s : State := wUp
    let b : Body := .heartbeat power halted taken time
    (hears h b s = true) ∧ (streamTo s h.src = some t) ∧ (taken = false) ∧ (t.peerPower ≠ 2) ∧ (power ≠ 2 ∨ t.haltCopies = []) := by decide +kernel

theorem test_LinkFramesComplete_2_hypotheses :
    let h : FHdr := hu
    let s : State := wUp
    let b : Body := .ack
    (hears h b s = true) := by decide +kernel

theorem test_LinkFramesComplete_3_hypotheses :
    let h : FHdr := { hu with ack := 1 }
    let m : Unacked := { fid := 0, seq := 0, body := .qwound key1, last := 0, count := 1 }
    let t : Machine.Stream := { up1 with unacked := [m] }
    let s : State := { w0 with felt := { w0.felt with streams := [t] } }
    (rest s = true) ∧ (gclkOn s = true) ∧ (s.boot.phase = .run) ∧ (frameOk s h .ack = true) ∧ (streamTo s h.src = some t) ∧ (t.st = .up) ∧ (h.session = t.peerSession) ∧ (t.unacked = [m]) ∧ (isAcked h.ack h.sack m.seq = true) ∧ (bodyType m.body ≠ 0x90) ∧ (s.vat.heldResp = []) ∧ (s.qu.coords = []) ∧ (s.qu.homes = []) ∧ (s.felt.streams.all (fun t => t.peer != h.src || !t.closeOwed) = true) := by decide +kernel

theorem test_LinkFramesComplete_4_hypotheses :
    let h : FHdr := hu
    let xn : Byte := 3
    let t1 : W64 := 5
    let s : State := wUp
    let b : Body := .tsyncReq xn t1
    (hears h b s = true) ∧ (s.res.fatal = false) := by decide +kernel

theorem test_LinkFramesComplete_5_hypotheses :
    let h : FHdr := hu
    let xn : Byte := 3
    let state : BitVec 2 := 3
    let t1 : W64 := 5
    let t2 : W64 := 9
    let t3 : W64 := 10
    let s : State := { wUp with cal := { wUp.cal with xn := 3, sentT1 := some 5, st := .locked }, boot := { wUp.boot with topo := { wUp.boot.topo with pkgDie := 1, pkgShadow := 16 } } }
    let b : Body := .tsyncResp xn state t1 t2 t3
    (hears h b s = true) ∧ (parentDie s = some h.src) ∧ (xn = s.cal.xn) ∧ (s.cal.sentT1 = some t1) ∧ (s.cal.st = .locked) ∧ (s.cal.group.length < 9) := by decide +kernel

theorem test_LinkFramesComplete_6_hypotheses :
    let h : FHdr := hq
    let dst : Byte := 0
    let role : Byte := 1
    let tag : BitVec 16 := 7
    let bounce : Bool := false
    let msg : List W64 := [4]
    let n : Nat := 0
    let s : State := { wUp with sq := { wUp.sq with sq0 := { held := false }, sq1 := { held := false, role := true } } }
    let b : Body := .fwmsg dst role tag bounce msg
    (hears h b s = true) ∧ (sqOfRole s dst = some n) ∧ (sqRuns (sqAt s n) = true) ∧ ((sqAt s n).msgs < 32) := by decide +kernel

theorem test_LinkFramesComplete_7_hypotheses :
    let h : FHdr := hq
    let dst : Byte := 9
    let role : Byte := 1
    let tag : BitVec 16 := 7
    let bounce : Bool := false
    let msg : List W64 := [4]
    let s : State := wUp
    let b : Body := .fwmsg dst role tag bounce msg
    let v : State := heard h (tick s)
    let ans : Body := .fwmsg role dst tag true []
    (hears h b s = true) ∧ (sqOfRole s dst = none) ∧ (bounce = false) ∧ (leaves h.src ans v = true) := by decide +kernel

theorem test_LinkFramesComplete_8_hypotheses :
    let h : FHdr := hq
    let role : Byte := 0
    let primary : DieId := 2
    let time : W64 := 5
    let s : State := { wUp with boot := { wUp.boot with topo := { wUp.boot.topo with dies := 3, pkgDie := 2, pkgShadow := 1 } } }
    let b : Body := .takeover role primary time
    (hears h b s = true) ∧ (primary ≠ myDie s) ∧ (takerAllowed s role primary h.src = true) ∧ (s.couch.takers.any (fun t => t.role == role && t.primary == primary) = false) ∧ ((streamTo s primary).any (fun t => t.st == .up) = false) ∧ (s.felt.peerHeld = []) := by decide +kernel

theorem test_StreamsOpen_1_hypotheses :
    let h : FHdr := { src := 1, dst := 0, session := 9, credit := 8 }
    let t : Machine.Stream := { up1 with st := .closed }
    let s : State := { w0 with felt := { w0.felt with session := 6, streams := [t] } }
    (rest s = true) ∧ (gclkOn s = true) ∧ (s.boot.phase = .run) ∧ (frameOk s h .sync = true) ∧ (h.close = false) ∧ (streamTo s h.src = some t) ∧ (t.st = .closed ∨ (t.st = .sync ∧ h.src.toNat ≤ (myDie s).toNat)) ∧ (t.unacked = []) ∧ (s.res.fatal = false) := by decide +kernel

theorem test_StreamsOpen_2_hypotheses :
    let h : FHdr := { src := 1, dst := 0, session := 9, credit := 8 }
    let t : Machine.Stream := { up1 with st := .sync }
    let s : State := { w0 with felt := { w0.felt with session := 6, streams := [t] } }
    (rest s = true) ∧ (gclkOn s = true) ∧ (s.boot.phase = .run) ∧ (frameOk s h .syncAck = true) ∧ (h.close = false) ∧ (streamTo s h.src = some t) ∧ (t.st = .sync) ∧ (t.closeOwed = false) := by decide +kernel

theorem test_StreamsOpen_3_hypotheses :
    let h : FHdr := hu
    let s : State := { wUp with pwr := { wUp.pwr with st := .sleep, sleep := .asleep } }
    (rest s = true) ∧ (s.boot.phase = .run) ∧ (s.pwr.off = false) ∧ (s.pwr.st = .sleep) ∧ (frameOk s h .wake = true) ∧ (wakeLate s h = false) := by decide +kernel

theorem test_StreamsOpen_4_hypotheses :
    let h : FHdr := hu
    let s : State := wUp
    (rest s = true) ∧ (gclkOn s = true) ∧ (s.boot.phase = .run) ∧ (frameOk s h .wake = true) ∧ (wakeLate s h = false) := by decide +kernel

theorem test_StreamsOpen_5_hypotheses :
    let h : FHdr := hu
    let origin : DieId := 1
    let cause : Byte := 3
    let time : W64 := 5
    let t : Machine.Stream := up1
    let s : State := wUp
    let b : Body := .halt origin cause time
    (hears h b s = true) ∧ (s.felt.halts.contains (origin, time) = false) ∧ (s.pwr.halted = false) ∧ (s.res.fatal = false) ∧ (s.qu.recs = []) ∧ (s.felt.streams = [t]) := by decide +kernel

theorem test_StreamsOpen_6_hypotheses :
    let h : FHdr := hu
    let origin : DieId := 1
    let cause : Byte := 3
    let time : W64 := 5
    let s : State := { wUp with felt := { wUp.felt with halts := [(1, 5)] } }
    let b : Body := .halt origin cause time
    (hears h b s = true) ∧ (s.felt.halts.contains (origin, time) = true) := by decide +kernel

theorem test_CarriersComplete_1_hypotheses :
    let bytes : List Byte := []
    let err : Bool := true
    let full : Bool := true
    let s : State := w0
    (rest s = true) ∧ (gclkOn s = true) ∧ (s.boot.phase = .run) ∧ (full = true) := by decide +kernel

theorem test_CarriersComplete_2_hypotheses :
    let bytes : List Byte := []
    let s : State := w0
    (rest s = true) ∧ (gclkOn s = true) ∧ (s.boot.phase = .run) := by decide +kernel

theorem test_CarriersComplete_3_hypotheses :
    let bytes : List Byte := []
    let s : State := w0
    (rest s = true) ∧ (gclkOn s = true) ∧ (s.boot.phase = .run) ∧ (readDatagram s bytes = none) := by decide +kernel

theorem test_CarriersComplete_4_hypotheses :
    let h : FHdr := hu
    let fb : List Byte := ackBytes
    let bytes : List Byte := ackDatagram
    let s : State := wUp
    (readDatagram s bytes = some [fb]) ∧ (crcGood fb = true) ∧ (readFrame fb = some (h, .ack)) ∧ (hears h .ack s = true) := by decide +kernel

theorem test_CarriersComplete_5_hypotheses :
    let p : BitVec 4 := 1
    let sof : Bool := true
    let err : Bool := false
    let cell : BitVec 512 := 0
    let s : State := w0
    (rest s = true) ∧ (gclkOn s = true) ∧ (s.boot.phase = .run) ∧ (p.toNat ≠ (myDie s).toNat % 16) := by decide +kernel

theorem test_CarriersComplete_6_hypotheses :
    let p : BitVec 4 := 1
    let err : Bool := false
    let cell : BitVec 512 := 0
    let s : State := w0
    (rest s = true) ∧ (gclkOn s = true) ∧ (s.boot.phase = .run) ∧ (p.toNat ≠ (myDie s).toNat % 16) ∧ (tget s.felt.rx p.toNat = none) := by decide +kernel

theorem test_CarriersComplete_7_hypotheses :
    let p : BitVec 4 := 1
    let cell : BitVec 512 := BitVec.ofNat 512 (leNat ackBytes)
    let s : State := wUp
    (p.toNat ≠ (myDie s).toNat % 16) ∧ (tget s.felt.rx p.toNat = none) ∧ (cellLen cell % 8 = 0) ∧ (32 ≤ cellLen cell) ∧ (cellLen cell ≤ 64) ∧ (rest s = true) ∧ (gclkOn s = true) ∧ (s.boot.phase = .run) := by decide +kernel

theorem test_CarriersComplete_8_hypotheses :
    let p : Nat := 1
    let cell : BitVec 512 := BitVec.ofNat 512 (leNat ackBytes)
    let k : Nat := 3
    let fb : List Byte := ackBytes
    let h : FHdr := hu
    let s : State := { wUp with clk := { wUp.clk with cycle := 8 }, felt := { wUp.felt with rx := [(1, { bad := false, cells := [cell], full := some 3 })] } }
    let t : State := { s with felt := { s.felt with rx := [] } }
    (s.pending = []) ∧ (s.felt.rx = [(p, { bad := false, cells := [cell], full := some k })]) ∧ (k + 4 ≤ s.clk.cycle) ∧ (fb = (toBytes 64 cell.toNat).take (cellLen cell)) ∧ (crcGood fb = true) ∧ (readFrame fb = some (h, .ack)) ∧ (hears h .ack t = true) := by decide +kernel

theorem test_CarriersComplete_9_hypotheses :
    let f : TxFrame := { fid := 4, dst := 1, body := .qwound key1 }
    let t : Machine.Stream := up1
    let s : State := { wUp with felt := { wUp.felt with txq := [f] } }
    (s.felt.txq = [f]) ∧ (rest { s with felt := { s.felt with txq := [] } } = true) ∧ (streamTo s f.dst = some t) ∧ (canSend s t f.body = true) := by decide +kernel

theorem test_LinkTimersComplete_1_hypotheses :
    let f : TxFrame := { fid := 4, dst := 1, body := .qwound key1 }
    let t : Machine.Stream := up1
    let s : State := { wUp with felt := { wUp.felt with txq := [f] } }
    (s.felt.txq = [f]) ∧ (rest { s with felt := { s.felt with txq := [] } } = true) ∧ (streamTo s f.dst = some t) ∧ (canSend s t f.body = true) := by decide +kernel

theorem test_LinkTimersComplete_2_hypotheses :
    let peer : DieId := 1
    let t : Machine.Stream := { up1 with ackOwed := true }
    let s : State := { w0 with felt := { w0.felt with streams := [t] } }
    (rest s = true) ∧ (s.pwr.st ≠ .doze) ∧ (txAllowed s = true) ∧ (streamTo s peer = some t) ∧ (t.ackOwed = true) := by decide +kernel

theorem test_LinkTimersComplete_3_hypotheses :
    let peer : DieId := 1
    let seq : W32 := 5
    let m : Unacked := { fid := 0, seq := 5, body := .qwound key1, last := 0, count := 1 }
    let t : Machine.Stream := { up1 with unacked := [m] }
    let s : State := { w0 with cal := { w0.cal with time := 70000 }, felt := { w0.felt with streams := [t] } }
    (rest s = true) ∧ (gclkOn s = true) ∧ (streamTo s peer = some t) ∧ (canResend s t = true) ∧ (t.unacked = [m]) ∧ (m.seq = seq) ∧ (m.count < 4) ∧ (64000 ≤ since (tick s) m.last) := by decide +kernel

theorem test_LinkTimersComplete_4_hypotheses :
    let peer : DieId := 1
    let t : Machine.Stream := up1
    let s : State := { wUp with cal := { w0.cal with time := 70000 } }
    (rest s = true) ∧ (gclkOn s = true) ∧ (txAllowed s = true) ∧ (streamTo s peer = some t) ∧ (beatStream t = true) ∧ (8000 ≤ since (tick s) t.lastSent) := by decide +kernel

theorem test_LinkTimersComplete_5_hypotheses :
    let peer : DieId := 1
    let t : Machine.Stream := { up1 with st := .sync, syncs := 1 }
    let s : State := { w0 with cal := { w0.cal with time := 70000 }, felt := { w0.felt with streams := [t] } }
    (rest s = true) ∧ (gclkOn s = true) ∧ (txAllowed s = true) ∧ (streamTo s peer = some t) ∧ (t.st = .sync) ∧ (t.peerPower ≠ 2) ∧ (t.syncs < 4) ∧ (64000 ≤ since (tick s) t.lastSent) := by decide +kernel

theorem test_LinkTimersComplete_6_hypotheses :
    let peer : DieId := 1
    let t : Machine.Stream := { up1 with peerPower := 2, haltCopies := [(4, .halt 0 1 5)] }
    let s : State := { w0 with cal := { w0.cal with time := 70000 }, felt := { w0.felt with streams := [t] } }
    (rest s = true) ∧ (gclkOn s = true) ∧ (txAllowed s = true) ∧ (streamTo s peer = some t) ∧ (t.peerPower = 2) ∧ (t.st ≠ .down) ∧ (t.unacked ≠ [] ∨ t.haltCopies ≠ []) ∧ (8000 ≤ since (tick s) t.lastSent) := by decide +kernel

theorem test_LinkTimersComplete_7_hypotheses :
    let peer : DieId := 1
    let k : Nat := 3
    let b : Body := .halt 0 1 5
    let t : Machine.Stream := { up1 with haltCopies := [(3, .halt 0 1 5)] }
    let s : State := { w0 with felt := { w0.felt with streams := [t] } }
    (rest s = true) ∧ (s.pwr.st ≠ .doze) ∧ (txAllowed s = true) ∧ (streamTo s peer = some t) ∧ (t.peerPower ≠ 2) ∧ (t.haltCopies = [(k, b)]) := by decide +kernel

theorem test_LinkTimersComplete_8_hypotheses :
    let peer : DieId := 40
    let i : Nat := 0
    let f : TxFrame := { fid := 4, dst := 40, body := .qwound key1 }
    let s : State := { w0 with felt := { w0.felt with txq := [f] } }
    (s.felt.txq = [f]) ∧ (f.dst = peer) ∧ (rest { s with felt := { s.felt with txq := [] } } = true) ∧ (gclkOn s = true) ∧ (txAllowed s = true) ∧ (streamTo s peer = none) ∧ (seeks (tick s) peer f.body = true) ∧ (pkgOf peer ≠ pkgOf (myDie s)) ∧ (freeEthIdx s = some i) := by decide +kernel

theorem test_LinkTimersComplete_9_hypotheses :
    let peer : DieId := 1
    let cause : DownCause := .silence
    let t : Machine.Stream := up1
    let s : State := { wUp with cal := { w0.cal with time := 70000 }, boot := { wUp.boot with topo := { wUp.boot.topo with pkgShadow := 16 } } }
    (rest s = true) ∧ (gclkOn s = true) ∧ (streamTo s peer = some t) ∧ (downDue (tick s) t cause = true) ∧ (t.unacked = []) ∧ (s.felt.streams.filter (fun u => u.peer == peer) = [t]) ∧ (shadowsPkgOf s peer = false) ∧ (shadowedRoles s peer = []) ∧ (parentDie s ≠ some peer) ∧ (s.vat.holders.any (fun e => e.2.contains peer) = false) ∧ (s.qu.recs = []) := by decide +kernel

theorem test_FailoverTimersComplete_1_hypotheses :
    let peer : DieId := 1
    let o : Byte := 2
    let fl : Flit := {}
    let slot : BitVec 17 := 0
    let cont : Option (BitVec 256) := none
    let op : Op := { opcode := 2, agent := 0, ctx := 0 }
    let f : TxFrame := { fid := 4, dst := 1, body := .op o fl slot cont }
    let s : State := { w0 with hb := { w0.hb with remote := [op], order := [placeOf op] }, felt := { w0.felt with peerHeld := [(1, f)] } }
    (rest s = true) ∧ (s.pwr.st ≠ .doze) ∧ ((streamTo s peer).all (fun t => t.st != .down || decide (16000 ≤ since (tick s) t.downAt)) = true) ∧ (s.felt.peerHeld = [(peer, f)]) ∧ (f.body = .op o fl slot cont) ∧ (remoteOf s o fl = some op) ∧ (s.hb.remote = [op]) ∧ (s.hb.order = [placeOf op]) ∧ (op.src = .mesh) ∧ (mirrorOf s op = none) ∧ (s.ag.moves = []) ∧ (s.ag.resets = []) := by decide +kernel

theorem test_FailoverTimersComplete_2_hypotheses :
    let slot : BitVec 17 := 5
    let o : CopyOwed := { slot := 5, home := 1, seq := 3 }
    let s : State := { withUp wSem with vat := { wSem.vat with owed := [o] } }
    let n : Nat := slot.toNat
    let ans : Body := .shadow slot (seqAt s n) (.copy ((thirdAt s n).any (·.counting)) false (packObj (objAt s n) (wheadAt s n)))
    (s.vat.owed = [o]) ∧ (o.slot = slot.toNat) ∧ (rest { s with vat := { s.vat with owed := [] } } = true) ∧ (gclkOn s = true) ∧ (clean (slotAt s slot.toNat) = true) ∧ (leaves o.home ans s = true) := by decide +kernel

theorem test_FailoverTimersComplete_3_hypotheses :
    let slot : BitVec 17 := 5
    let f : FetchWait := { slot := 5, from_ := [1], got := [], both := true }
    let s : State := { wSem with vat := { wSem.vat with fetch := [f] } }
    (rest s = true) ∧ (gclkOn s = true) ∧ (s.vat.fetch = [f]) ∧ (f.slot = slot.toNat) ∧ (f.got = []) ∧ (s.qu.held = []) := by decide +kernel

theorem test_FailoverTimersComplete_4_hypotheses :
    let key : QKey := key1
    let c : Coord := { key := key1, shadow := false }
    let s : State := { wUp with qu := { wUp.qu with coords := [c] } }
    let ans : Body := .qdecide key true 0xA []
    (rest s = true) ∧ (gclkOn s = true) ∧ (s.qu.coords = [c]) ∧ (c = { key, shadow := false }) ∧ (coordShadows s key [] = []) ∧ (leaves key.die ans s = true) := by decide +kernel

theorem test_FailoverTimersComplete_5_hypotheses :
    let key : QKey := key1
    let c : Coord := { key := key1, shadow := true }
    let s : State := { wUp with qu := { wUp.qu with coords := [c] } }
    (rest s = true) ∧ (gclkOn s = true) ∧ (s.qu.coords = [c]) ∧ (c.key = key) ∧ (c.shadow = true) := by decide +kernel

theorem test_KindTables_1_hypotheses :
    let ks : List UKind := []
    let o : Obj := { kind := kSemaphore, thresh := 5, value := 3 }
    let op : Op := { opcode := opTake, agent := 0, ctx := 0, a := 1 }
    let who : Option AgentId := some 0
    (o.kind = kSemaphore) ∧ (op.opcode = opTake) ∧ (op.a ≠ 0) ∧ (o.state = 0 ∨ o.state = 1) := by decide +kernel

theorem test_KindTables_2_hypotheses :
    let ks : List UKind := []
    let o : Obj := { kind := kSemaphore, thresh := 5, value := 3 }
    let op : Op := { opcode := opGive, agent := 0, ctx := 0, a := 1 }
    let who : Option AgentId := some 0
    (o.kind = kSemaphore) ∧ (op.opcode = opGive) ∧ (op.a ≠ 0) := by decide +kernel

theorem test_KindTables_3_hypotheses :
    let ks : List UKind := []
    let o : Obj := { kind := kSemaphore, thresh := 5, value := 3 }
    let op : Op := { opcode := opSignal, agent := 0, ctx := 0, a := 1 }
    let who : Option AgentId := some 0
    let h : QEnt := { ix := 2, op := { opcode := opTake, agent := 1, ctx := 0, a := 4 } }
    (o.kind = kSemaphore) ∧ (op.opcode = opSignal) ∧ (op.a ≠ 0) := by decide +kernel

theorem test_KindTables_4_hypotheses :
    let ks : List UKind := []
    let o : Obj := { kind := kEvent, thresh := 5, value := 3 }
    let op : Op := { opcode := opSignal, agent := 0, ctx := 0, a := 1 }
    let who : Option AgentId := some 0
    (o.kind = kEvent) ∧ (op.opcode = opSignal) ∧ (op.a ≠ 0) ∧ (o.state = 0 ∨ o.state = 1) := by decide +kernel

theorem test_KindTables_5_hypotheses :
    let ks : List UKind := []
    let o : Obj := { kind := kEvent, thresh := 5, value := 3 }
    let op : Op := { opcode := opSignal, agent := 0, ctx := 0, a := 1 }
    let who : Option AgentId := some 0
    let h : QEnt := { ix := 2, op := { opcode := opTake, agent := 1, ctx := 0, a := 1 } }
    let l : List QEnt := []
    (o.kind = kEvent) ∧ (op.opcode = opSignal) ∧ (op.a ≠ 0) ∧ (o.state = 0) := by decide +kernel

theorem test_KindTables_6_hypotheses :
    let ks : List UKind := []
    let o : Obj := { kind := kEvent, thresh := 5, value := 3 }
    let op : Op := { opcode := opTake, agent := 0, ctx := 0, a := 1 }
    let who : Option AgentId := some 0
    (o.kind = kEvent) ∧ (op.opcode = opTake) ∧ (op.a ≠ 0) := by decide +kernel

theorem test_KindTables_7_hypotheses :
    let ks : List UKind := []
    let o : Obj := { kind := kFenceCtr, thresh := 5, value := 3 }
    let op : Op := { opcode := opSignal, agent := 0, ctx := 0, a := 1 }
    let who : Option AgentId := some 0
    (o.kind = kFenceCtr) ∧ (op.opcode = opSignal) ∧ (op.a ≠ 0) := by decide +kernel

theorem test_KindTables_8_hypotheses :
    let ks : List UKind := []
    let o : Obj := { kind := kMonoPair, thresh := 5, value := 3 }
    let op : Op := { opcode := opSignal, agent := 0, ctx := 0, a := 1 }
    let who : Option AgentId := some 0
    (o.kind = kMonoPair) ∧ (op.opcode = opSignal) ∧ (op.a ≠ 0) := by decide +kernel

theorem test_KindTables_9_hypotheses :
    let ks : List UKind := []
    let o : Obj := { kind := kMonoPair, thresh := 5, value := 3 }
    let op : Op := { opcode := opGive, agent := 0, ctx := 0, a := 1 }
    let who : Option AgentId := some 0
    (o.kind = kMonoPair) ∧ (op.opcode = opGive) ∧ (op.a ≠ 0) := by decide +kernel

theorem test_KindTables_10_hypotheses :
    let ks : List UKind := []
    let o : Obj := { kind := kTicketLock, thresh := 5, value := 3 }
    let op : Op := { opcode := opTake, agent := 0, ctx := 0, a := 1 }
    let who : Option AgentId := some 0
    let x' : W64 := 4
    (o.kind = kTicketLock) ∧ (op.opcode = opTake) ∧ (op.a ≠ 0) ∧ (x' = o.value.extractLsb' 32 32 ++ (o.value.extractLsb' 0 32 + 1)) := by decide +kernel

theorem test_KindTables_11_hypotheses :
    let ks : List UKind := []
    let o : Obj := { kind := kTicketLock, thresh := 5, value := 3 }
    let op : Op := { opcode := opGive, agent := 0, ctx := 0, a := 1 }
    let who : Option AgentId := some 0
    (o.kind = kTicketLock) ∧ (op.opcode = opGive) ∧ (op.a ≠ 0) := by decide +kernel

theorem test_KindRulesKept_1_hypotheses :
    let ks : List UKind := [uk]
    let q : List QEnt := []
    let who : Option AgentId := some 0
    let o : Obj := { kind := 0x40 }
    let op : Op := { opcode := opInvoke, agent := 0, ctx := 0, a := 1, b := 4 }
    let r : KRes := kindStep ks o q op who
    (r.status = stOk) := by decide +kernel

theorem test_KindRulesKept_2_hypotheses :
    let ks : List UKind := []
    let q : List QEnt := []
    let who : Option AgentId := some 0
    let o : Obj := { kind := kTokenPool, thresh := 5, value := 4 }
    let op : Op := { opcode := opSignal, agent := 0, ctx := 0, a := 1 }
    let r : KRes := kindStep ks o q op who
    (o.kind = kSemaphore ∨ o.kind = kTokenPool) ∧ (o.thresh ≠ 0) ∧ (o.value.toNat ≤ o.thresh.toNat) ∧ (r.status = stOk) := by decide +kernel

theorem test_KindRulesKept_3_hypotheses :
    let ks : List UKind := []
    let q : List QEnt := []
    let who : Option AgentId := some 0
    let o : Obj := { kind := kFenceCtr }
    let op : Op := { opcode := opSignal, agent := 0, ctx := 0, a := 1 }
    let r : KRes := kindStep ks o q op who
    (o.kind = kFenceCtr) ∧ (r.status = stOk) := by decide +kernel

theorem test_KindRulesKept_4_hypotheses :
    let ks : List UKind := []
    let q : List QEnt := []
    let who : Option AgentId := some 0
    let o : Obj := { kind := kEvent }
    let op : Op := { opcode := opSignal, agent := 0, ctx := 0, a := 1 }
    let r : KRes := kindStep ks o q op who
    (o.kind = kEvent) ∧ (o.state = 0 ∨ (o.state = 1 ∧ q = [])) ∧ (r.status = stOk) := by decide +kernel

theorem test_KindRulesKept_5_hypotheses :
    let ks : List UKind := []
    let q : List QEnt := []
    let who : Option AgentId := some 0
    let o : Obj := { kind := kRing, thresh := 4, kflags := 1 }
    let op : Op := { opcode := opSignal, agent := 0, ctx := 0, a := 1 }
    let r : KRes := kindStep ks o q op who
    (o.kind = kRing) ∧ (ringFit o = true) ∧ (r.status = stOk) := by decide +kernel

theorem test_KindRulesKept_6_hypotheses :
    let ks : List UKind := []
    let q : List QEnt := []
    let who : Option AgentId := some 0
    let o : Obj := { kind := kMonoPair, kflags := 3 }
    let op : Op := { opcode := opSignal, agent := 0, ctx := 0, a := 1 }
    let r : KRes := kindStep ks o q op who
    (o.kind = kMonoPair) ∧ (o.thresh.toNat ≤ o.value.toNat) ∧ (o.value.toNat ≤ o.thresh.toNat + (o.kflags.toNat + 1)) ∧ (r.status = stOk) := by decide +kernel

theorem test_KindRulesKept_7_hypotheses :
    let ks : List UKind := []
    let q : List QEnt := []
    let who : Option AgentId := some 0
    let o : Obj := { kind := kTicketLock }
    let op : Op := { opcode := opTake, agent := 0, ctx := 0, a := 1 }
    let r : KRes := kindStep ks o q op who
    (o.kind = kTicketLock) ∧ (lockFit o q.length = true) ∧ (r.status = stOk) := by decide +kernel

theorem test_ZeroAmountRefused_1_hypotheses :
    let o : Byte := opTake
    let p : Port := 0
    let f : Flit := {}
    let s : State := wSem
    let n : Nat := 5
    let op : Op := opOf o f none
    (o = opSignal ∨ o = opTake ∨ o = opGive) ∧ (grantable { port := p, opcode := o, f } s = true) ∧ (reaches s op n = true) ∧ (isBuiltin (objAt s n).kind = true) ∧ (¬ (o = opSignal ∧ (objAt s n).kind = kEvent)) ∧ ((objAt s n).wmark = false) ∧ (f.a = 0) ∧ (listAt s n = []) := by decide +kernel

theorem test_ZeroAmountRefused_2_hypotheses :
    let p : Port := 0
    let f : Flit := {}
    let s : State := withObj { kind := kEvent } w0
    let n : Nat := 5
    let op : Op := opOf opSignal f none
    (grantable { port := p, opcode := opSignal, f } s = true) ∧ (reaches s op n = true) ∧ ((objAt s n).kind = kEvent) ∧ ((objAt s n).state = 0) ∧ ((objAt s n).wmark = false) ∧ ((objAt s n).diverged = false) ∧ (f.a = 0) ∧ (listAt s n = []) ∧ (holdersOf s n = []) := by decide +kernel

theorem test_VersionReads_1_hypotheses :
    let acc : Acc := {}
    let s : State := w0
    (served acc s = true) := by decide +kernel

theorem test_VersionReads_2_hypotheses :
    let acc : Acc := {}
    let v : W32 := 7
    let s : State := w0
    (served acc s = true) := by decide +kernel

theorem test_KindTableStaysChecked_hypotheses :
    let s : State := { wChain with pending := [.chainedInvoke] }
    kindsOk s.kt.kinds = true ∧ (match step s with | .next _ => true | _ => false) = true := by decide +kernel

/-! ## Ill-formed operands -/

/-- A request flit with CONT set (02 R28). -/
theorem test_illformed_request : (Instr.signal 0 { cont := true }).wellFormed = false := by decide +kernel

/-- 0x14 is TRACE_MARK (02 R32). -/
theorem test_illformed_opcode : (Instr.undefinedOpcode 0 0x14 {}).wellFormed = false := by decide +kernel

/-- A continuation without CONT (02 R36). -/
theorem test_illformed_continuation : (Instr.burstContinuation 0 opArm {}).wellFormed = false := by decide +kernel

/-- ACK is unsequenced, and its SEQ is 0 (12 R279). -/
theorem test_illformed_sequenced : (Instr.ack hq).wellFormed = false ∧ (Instr.ack { hu with seq := 4 }).wellFormed = false := by
  decide +kernel

/-- CLOSE is valid in SYNC and SYNC_ACK only (12 R279). -/
theorem test_illformed_close :
    (Instr.ack { hu with close := true }).wellFormed = false ∧ (Instr.sync { hu with close := true }).wellFormed = true := by decide +kernel

/-- A FWMSG of more than 59 words (12 R281). -/
theorem test_illformed_fwmsg : (Instr.fwmsg hq 0 0 0 false (List.replicate 60 0)).wellFormed = false := by decide +kernel

/-- A QSTART of no home, a QPREP of no member (12 R281). -/
theorem test_illformed_quire :
    (Instr.qstart hq key1 0 0 []).wellFormed = false ∧ (Instr.qprep hq key1 0 0 0 0 0 []).wellFormed = false := by decide +kernel

/-- A QDECIDE and a QDONE of more than 16 (12 R281). -/
theorem test_illformed_answers :
    (Instr.qdecide hq key1 false 0 (List.replicate 17 0)).wellFormed = false ∧
      (Instr.qdone hq key1 (List.replicate 17 { pos := 0, status := 0, a := 0, b := 0 })).wellFormed = false := by decide +kernel

/-- A REPORT whose lane records are not its lane count (12 R281). -/
theorem test_illformed_report :
    (Instr.report hq 0 0 0 0 (some { op := 0, fmt := 0, cnt := 1 }) [{}]).wellFormed = false := by decide +kernel

/-- Reserved values of POWER, ROLE and COND (12 R281, 13 R317). -/
theorem test_illformed_fields :
    (Instr.heartbeat hu 5 false false 0).wellFormed = false ∧ (Instr.takeover hq 4 0 0).wellFormed = false ∧
      (Instr.shadowUpdWatchAdd hq 0 0 0 0 16 0 0 0 0 0).wellFormed = false := by decide +kernel

/-- A notification of two flits, a release of a word alone with data, a flit of one flit with burst data (12 R281). -/
theorem test_illformed_flits :
    let f : OutFlit := { cls := 2, opcode := 0, agent := 0, inc := 0 }
    (Instr.notify hq { f with two := true }).wellFormed = false ∧
      (Instr.release hq 0 0 0 0 false 0 1).wellFormed = false ∧
      (Instr.flit hq { f with data := BitVec.ofNat 512 (2 ^ 256) }).wellFormed = false := by decide +kernel

/-- An OP frame whose MORE does not say whether a continuation follows (12 R281). -/
theorem test_illformed_op : (Instr.op hq opArm { more := true } 0 none).wellFormed = false := by decide +kernel

/-- IR 0x01 to 0x06 select instructions of their own (17 R402). -/
theorem test_illformed_bypass :
    (Instr.bypass { ir := 5, tdi := true }).wellFormed = false ∧ (Instr.bypass { ir := 0x1F, tdi := true }).wellFormed = true := by
  decide +kernel

/-- SQ0 carries no context (21 R465). -/
theorem test_illformed_requester : (Instr.sleep { rq := .sq0, ctx := 5 }).wellFormed = false := by decide +kernel

/-- An image of five partitions (18 R411). -/
theorem test_illformed_load : (Instr.load 0 [[], [], [], [], []]).wellFormed = false := by decide +kernel

/-- GS_VERSION is no reserved address, and context 0 is refused none (21 R460; 11 R273). -/
theorem test_illformed_access :
    (Instr.regpRsvdAccess {} false 0 0).wellFormed = false ∧ (Instr.regpDenied {} false 0 0).wellFormed = false := by
  decide +kernel

/-! ## Worked examples of the spec -/

/-- 02, "a SIGNAL flit": the header of agent 0x9537's SIGNAL. -/
theorem test_signal_flit_header :
    reqHeader opSignal { agent := 0x9537, inc := 3, ctx := 5, handle := 0x20000040, seq := 0x11, a := 1 } =
      0x0000448000010001 * 2 ^ 64 + 0x40C0009537000002 := by decide +kernel

/-- 03 R81, step 5: GIVE 3 on a SEMAPHORE of 1 serves X's TAKE 2 and Y's TAKE 1 and leaves 1. -/
theorem test_semaphore_give_serves :
    let o : Obj := { kind := kSemaphore, thresh := 4, value := 1, state := 1 }
    let x : QEnt := { ix := 8, op := { opcode := opTake, agent := 1, ctx := 0, a := 2 } }
    let y : QEnt := { ix := 9, op := { opcode := opTake, agent := 2, ctx := 0, a := 1 } }
    kindStep [] o [x, y] { opcode := opGive, agent := 0, ctx := 0, a := 3 } (some 0) =
      { obj := { o with state := 0 }, grants := [8, 9] } := by decide +kernel

/-- 03 R81, step 4: a TAKE with TRY behind a queue is refused. -/
theorem test_semaphore_try_behind_queue :
    let o : Obj := { kind := kSemaphore, thresh := 4, value := 1, state := 1 }
    let x : QEnt := { ix := 8, op := { opcode := opTake, agent := 1, ctx := 0, a := 2 } }
    (kindStep [] o [x] { opcode := opTake, agent := 3, ctx := 0, a := 1, b := 1 } (some 3)).status = stKindReject := by decide +kernel

/-- Kind GATE of 04's first worked example. -/
def gate : UKind :=
  { code := 0x20, nstates := 2, init := 0, cgop := 0, cgl := 0, cgr := 0, kfmask := 0, irqEn := false, linkEn := false, irqsrc := 0
    linkoff := 0, name := 0, cs := [0, 0, 0, 0]
    rows := [0x0000000010000021, 0x0000010000000020, 0x00000B0D10000000, 0x0000000000000161, 0x0000000010000001] }

/-- GATE passes the load-time checks. -/
theorem test_gate_loads : kindsOk [gate] = true := by decide +kernel

/-- A SIGNAL opens the gate, raises VALUE and E, and grants every queued TAKE in order. -/
theorem test_gate_opens :
    let o : Obj := { kind := 0x20, epoch := 6 }
    let x : QEnt := { ix := 8, op := { opcode := opTake, agent := 1, ctx := 0, a := 1 } }
    let y : QEnt := { ix := 9, op := { opcode := opTake, agent := 2, ctx := 0, a := 1 } }
    kindStep [gate] o [x, y] { opcode := opSignal, agent := 0, ctx := 0, a := 1 } (some 0) =
      { obj := { o with state := 1, value := 1, epoch := 7 }, grants := [8, 9] } := by decide +kernel

/-- INVOKE 0x01 on a closed gate has no row. -/
theorem test_gate_refuses :
    (kindStep [gate] { kind := 0x20 } [] { opcode := opInvoke, agent := 0, ctx := 0, a := 1 } (some 0)).status = stKindReject := by
  decide +kernel

/-- 04's second worked example: row 1 of QUORUM passes the row checks of a kind with IRQ_EN. -/
theorem test_quorum_row : rowErr 2 true false 0x00400B0210310000 = 0 := by decide +kernel

/-- 07's worked example: the four partials in either order end in 2.0. -/
theorem test_two_arrival_orders :
    let d : LaneDesc := { op := 0x10, fmt := 1, cnt := 0 }
    let p := fun x => partialOf d x 0 0
    let m := fun a b => mergeP d a b
    finishLane d (m (m (m (p 0x4B800000) (p 0x3F800000)) (p 0x3F800000)) (p 0xCB800000)) = (0x40000000, false) ∧
      finishLane d (m (m (m (p 0x3F800000) (p 0x3F800000)) (p 0xCB800000)) (p 0x4B800000)) = (0x40000000, false) := by
  decide +kernel

/-- 14's worked example: θ is 800 units in COARSE entry, and δ 160. -/
theorem test_tsync_offset :
    let s : State := { w0 with
      boot := { w0.boot with topo := { die := 0x13, packages := 2, dies := 4 } }
      cal := { w0.cal with st := .coarse, time := 1000560, sentT1 := some 1000000 } }
    let p : DieId := (parentDie s).getD 0
    (tsyncResp p s.cal.xn 1 1000000 1000960 1001200 s).cal.group = [(800, 160)] := by decide +kernel

/-- 21's worked example, steps 2, 3 and 5. -/
theorem test_tenant_accesses :
    let c : Acc := { ctx := 5 }
    (regServe { acc := c, wr := false, addr := BitVec.ofNat 23 (0x1005008 / 4), data := 0 } w0).2.regp.rsvdAddr =
        BitVec.ofNat 23 (0x1005008 / 4) ∧
      (regServe { acc := c, wr := false, addr := BitVec.ofNat 23 (0x1006000 / 4), data := 0 } w0).2.regp.deny = 1 ∧
      (regServe { acc := c, wr := true, addr := BitVec.ofNat 23 (0x2400 / 4), data := 0 } w0).2.regp.rsvd = 0 := by decide +kernel

/-! ## Single steps -/

/-- A SIGNAL of 2 on the SEMAPHORE of 3 in slot 5 leaves 5. -/
theorem test_step_signal :
    (match step { wSem with pending := [.signal 0 { a := 2 }] } with
     | .next t => (objAt t 5).value == 5 && t.pending.isEmpty
     | _ => false) = true := by decide +kernel

/-- Reset and an IDCODE: the step takes the command (17 R400). -/
theorem test_step_takes :
    (match step { State.reset with pending := [.idcode, .dbgstat] } with
     | .next t => t.pending == [.dbgstat]
     | _ => false) = true := by decide +kernel

end Sys2Proof.Tests
end

section
/-! The scope of the block (00 R10): what GS_VERSION answers, and the state that reset leaves. First what a register access that
leaves nothing waiting shows of its cycle: the read beside `still_write` of Laws/Access.lean. -/

namespace Sys2Proof.Proofs.Scope

open Sys2Proof Sys2Proof.Machine Sys2Proof.Laws

/-! ## A cycle that only serves an access -/

/-- What a cycle's beginning counts and ends keeps nothing waiting. -/
@[simp] theorem rest_tick (s : State) : rest (tick s) = rest s := rfl

/-- The data returned to a requester wait for nothing. -/
theorem rest_rdata (s : State) (v : W32) : rest { s with regp := { s.regp with rdata := v } } = rest s := rfl

@[simp] theorem rest_wrote (s : State) : rest (wrote s) = rest s := rest_rdata s 0

theorem exec_rcRegisterRead (acc : Acc) (addr : BitVec 23) (s : State) :
    exec (.rcRegisterRead acc addr) s = .next (inCycle (whenPower (regOffer { acc, wr := false, addr, data := 0 })) s) := rfl

theorem exec_registerWrite (acc : Acc) (addr : BitVec 23) (v : W32) (s : State) :
    exec (.registerWrite acc addr v) s = .next (inCycle (whenPower (regOffer { acc, wr := true, addr, data := v })) s) := rfl

/-- An access that does not come through REGACC returns its data on its own port. -/
theorem regDone_port {x : RegAcc} (h : x.acc.rq ≠ .regacc) (v : W32) (s : State) :
    regDone x v s = { s with regp := { s.regp with rdata := v } } := by
  simp [regDone, h]

/-- A read that leaves nothing waiting, in its cycle. -/
theorem still_read {x : RegAcc} {s : State} {v : W32} {t : State} (h : served x.acc s = true) (hw : x.wr = false)
    (hf : x.far = false) (hv : regVal (tick s) x.acc.rq (4 * x.addr.toNat) = some v)
    (ht : regDone x v (readEffect x.acc.rq (4 * x.addr.toNat) (tick s)) = t) (hr : rest t = true) (hp : t.pending = s.pending)
    (hk : t.kt.kinds = s.kt.kinds) : still (inCycle (whenPower (regOffer x)) s) = still t := by
  have e : whenPower (regOffer x) (tick s) = t := by rw [access_runs h, read_runs h hw hf hv, ht]
  rw [still_inCycle_same _ s (by rw [e]; exact hr) (by rw [e]; exact hp) (by rw [e]; exact hk), e]

/-! ## GS_VERSION (00 R10) -/

/-- Every requester reads the version in every state. -/
theorem regVal_version (s : State) (q : Requester) : regVal s q 0 = some versionReg := rfl

/-- GS_VERSION is no LO word of a pair and has no RC field. -/
theorem readEffect_version (q : Requester) (s : State) : readEffect q 0 s = s := by
  cases q <;> rfl

/-- GS_VERSION is none of the scratch words, which are all that a write to page 0 can change. -/
theorem regPut_version (c : Acc) (v : W32) (s : State) : regPut c 0 v s = s := rfl

theorem still_versionRead {acc : Acc} {s : State} (h : served acc s = true) :
    still (inCycle (whenPower (regOffer { acc, wr := false, addr := 0, data := 0 })) s) =
      still { tick s with regp := { s.regp with rdata := versionReg } } := by
  have p := served_parts h
  refine still_read (x := { acc, wr := false, addr := 0, data := 0 }) h rfl rfl (regVal_version _ _) ?_ ?_ rfl rfl
  · exact (congrArg (regDone _ _) (readEffect_version acc.rq (tick s))).trans (regDone_port p.bus _ _)
  · exact (rest_rdata (tick s) versionReg).trans ((rest_tick s).trans p.rest)

theorem still_versionWrite {acc : Acc} {s : State} (v : W32) (h : served acc s = true) :
    still (inCycle (whenPower (regOffer { acc, wr := true, addr := 0, data := v })) s) = still (wrote (tick s)) := by
  refine still_write (x := { acc, wr := true, addr := 0, data := v }) h rfl rfl (regVal_version _ _) ?_ ?_ rfl rfl
  · exact congrArg wrote (regPut_version acc v (tick s))
  · simpa using (served_parts h).rest

/-- Settles O58: the access runs in its cycle, reads the version and changes nothing beside the data returned. -/
theorem versionReads : Obligations.VersionReads := by
  unfold Obligations.VersionReads
  constructor
  · intro acc s h
    exact ⟨_, exec_rcRegisterRead acc 0 s, still_versionRead h⟩
  · intro acc v s h
    exact ⟨_, exec_registerWrite acc 0 v s, still_versionWrite v h⟩

/-! ## Reset (18 R411, 21 R466) -/

/-- Each register listed, read over REGP, shows its Reset column. -/
theorem reset_reads_resetWords : ∀ e ∈ resetWords, regVal State.reset .regp e.1 = some e.2 := by decide

/-- A Kind Table that defines no kind passes the checks of 04 R115 and R117. -/
theorem kindsOk_nil : kindsOk [] = true := rfl

/-- Settles O60: the registers by evaluating their reads; `rfl` shows the incarnations, the slots, the event log, the counters and
the queue as reset leaves them. -/
theorem resetState : Obligations.ResetState := by
  unfold Obligations.ResetState
  exact ⟨reset_reads_resetWords, rfl, rfl, rfl, rfl, rfl, kindsOk_nil⟩

end Sys2Proof.Proofs.Scope
end

section
/-! The organisation of the block (01 R17, R21, R23): DOZE and SLEEP, the scrubber and a port's transfer, and a parked prepare pass
that its clause does not describe. First what a command leaves of a cycle that finds nothing waiting. -/

namespace Sys2Proof.Proofs.Organisation

open Sys2Proof Sys2Proof.Machine Sys2Proof.Laws

/-! ## A command in its cycle -/

/-- Nothing waits in `t` where nothing waits in `s`, and the commands in line and the kinds are the same. -/
structure Undisturbed (s t : State) : Prop where
  rest : rest t = rest s
  pending : t.pending = s.pending
  kinds : t.kt.kinds = s.kt.kinds

theorem Undisturbed.trans {s t u : State} (h : Undisturbed s t) (k : Undisturbed t u) : Undisturbed s u :=
  ⟨k.rest.trans h.rest, k.pending.trans h.pending, k.kinds.trans h.kinds⟩

/-- A command whose effect leaves nothing waiting: `still` shows the effect alone. -/
theorem cycle_settles {f : State → State} {s t : State} (ht : f (tick s) = t) (hr : rest s = true) (hu : Undisturbed (tick s) t) :
    ∃ u, (.next (inCycle f s) : Host.Outcome State Fault Refusal) = .next u ∧ still u = still t := by
  subst ht
  exact ⟨_, rfl, still_inCycle_same f s (hu.rest.trans hr) hu.pending hu.kinds⟩

theorem whenOn_alive {s : State} (f : State → State) (h : alive s = true) : whenOn f (tick s) = f (tick s) := if_pos h

theorem whenClk_on {s : State} (f : State → State) (h : gclkOn s = true) : whenClk f (tick s) = f (tick s) := if_pos h

theorem alive_of_running {s : State} (h : running s = true) : alive s = true := by
  have k := running_parts h
  simp [alive, k.on, k.run]

/-! ## What cannot end a rest -/

/-- A power state hands the flash to no waiting sequencer unless it ends SLEEP with one in line. -/
theorem flashIdle_power {s : State} (p : Power) (h : flashIdle s = true)
    (hp : s.pwr.st = .sleep → p.st = .sleep ∨ s.boot.flashq = []) : flashIdle { s with pwr := p } = true := by
  unfold flashIdle at h ⊢
  cases hq : s.boot.flashq with
  | nil => rfl
  | cons k l =>
    have hp' : s.pwr.st = .sleep → p.st = .sleep := by simpa [hq] using hp
    simp only [hq, sqAt, Bool.not_eq_true', Bool.and_eq_false_iff, bne_eq_false_iff_eq] at h ⊢
    exact h.imp_right hp'

/-- Neither pins nor the Calender nor the translation cache are waited for, and of the power unit only its BRACE phase and the end
of SLEEP. -/
theorem undisturbed_power {s : State} (p : Power) (x : Pins) (c : Calender) (e : Translation) (h : rest s = true)
    (hb : p.bphase = s.pwr.bphase) (hp : s.pwr.st = .sleep → p.st = .sleep ∨ s.boot.flashq = []) :
    Undisturbed s { s with pwr := p, pins := x, cal := c, xl := e } := by
  refine ⟨Eq.trans ?_ h.symm, rfl, rfl⟩
  unfold rest at h ⊢
  simp only [Bool.and_eq_true] at h ⊢
  obtain ⟨⟨⟨⟨⟨⟨⟨⟨head, felt⟩, step⟩, passes⟩, brace⟩, dump⟩, clearing⟩, flash⟩, links⟩ := h
  have brace' : braceIdle { s with pwr := p } = true := by simpa only [braceIdle, hb] using brace
  exact ⟨⟨⟨⟨⟨⟨⟨⟨head, felt⟩, step⟩, passes⟩, brace'⟩, dump⟩, clearing⟩, flashIdle_power p flash hp⟩, links⟩

theorem undisturbed_logWrite (c : Nat) (i : Bool) (x : W32) (d e : W64) (s : State) : Undisturbed s (logWrite c i x d e s) := by
  unfold logWrite
  simp only
  split_ifs <;> exact ⟨rfl, rfl, rfl⟩

theorem undisturbed_assertSource (n : Nat) (s : State) : Undisturbed s (assertSource n s) := by
  unfold assertSource
  split_ifs <;> exact ⟨rfl, rfl, rfl⟩

theorem Undisturbed.logEvent {s t : State} {c : Nat} {n : Option Nat} {x : W32} {d e : W64} (h : Undisturbed s t) :
    Undisturbed s (logEvent c n x d e t) := by
  cases n with
  | none => exact h.trans (undisturbed_logWrite c _ x d e t)
  | some n => exact (h.trans (undisturbed_logWrite c _ x d e t)).trans (undisturbed_assertSource n _)

/-! ## SLEEP and DOZE (16 R373-R378) -/

theorem beatAll_none {s : State} (h : s.felt.streams = []) : beatAll s = s := by
  simp [beatAll, h]

theorem setPower_alone {s : State} (p : PwrState) (h : s.felt.streams = []) :
    setPower p s = { s with pwr := { s.pwr with st := p } } := by
  unfold setPower
  split
  · next e => rw [← e]
  · exact beatAll_none h

/-- An idle die with AUTODOZE, no stream and the life-cycle state SEALED dozes. -/
theorem dozeEntry_idle {s : State} (k : Running s) (hs : s.felt.streams = []) (ha : s.pwr.autoDoze = true)
    (hb : s.pwr.bphase = .none) (hi : idle s = true) (hx : s.sec.st = .sealed_) :
    dozeEntry s = { s with pwr := { s.pwr with st := .doze } } := by
  unfold dozeEntry
  rw [if_pos ⟨ha, k.active, hb, k.awake, k.run, hi, by simp [hx]⟩, setPower_alone _ hs]

theorem sleepComplete_drained {s : State} (hd : s.pwr.sleep = .draining) (ha : s.pwr.st = .active) (hi : idle s = true)
    (hf : feltReady s = true) (hp : poolUsed s = 0) :
    sleepComplete s = { s with
      pwr := { s.pwr with st := .sleep, sleep := .asleep, wake := false, cmdBusy := false, cmdErr := 0 }
      pins := { s.pins with gclkReq := false, gclkAck := false, d2dLowrate := true, pswCoreEn := false }
      xl := { s.xl with cache := [] }
      cal := { s.cal with slewHeld := true, group := [], sentT1 := none } } :=
  if_pos ⟨hd, ha, hi, hf, hp⟩

theorem sleepTimeout_draining {s : State} (hd : s.pwr.sleep = .draining) (hs : s.felt.streams = []) :
    sleepTimeout s = { s with pwr := { s.pwr with sleep := .none, cmdBusy := false, cmdErr := 2 } } :=
  (if_pos hd).trans (beatAll_none hs)

theorem sleepExit_woken {s : State} (hd : s.pwr.sleep = .asleep) (hw : s.pwr.wake = true) :
    sleepExit s = { s with
      pwr := { s.pwr with sleep := .exiting, wake := false }
      pins := { s.pins with gclkReq := true, pswCoreEn := true } } :=
  if_pos ⟨hd, by simp [wakeHolds, hw]⟩

theorem latchHand_empty {s : State} {n : Nat} (h : (irqGet s n).latch = 0) : latchHand n s = s := if_pos h

theorem latchAll_empty {s : State} (h : [0x20, 0x21, 0x22, 0x23].all (fun n => (irqGet s n).latch == 0) = true) :
    latchAll s = s := by
  simp only [List.all_cons, List.all_nil, Bool.and_true, Bool.and_eq_true, beq_iff_eq] at h
  obtain ⟨h0, h1, h2, h3⟩ := h
  simp only [latchAll, List.foldl_cons, List.foldl_nil, latchHand_empty, h0, h1, h2, h3]

theorem droopRound_seen {s : State} (h : s.pins.droop = s.pwr.droopSeen) : droopRound s = s := if_pos h.symm

theorem regDrain_none {s : State} (h : s.regp.stalled = []) : regDrain s = s := by
  have e : { s with regp := { s.regp with stalled := [] } } = s := by rw [← h]
  simp only [regDrain, h, List.filter_nil, List.append_nil, List.foldl_nil, e]

/-- What a SLEEP exit leaves to follow it: nothing. -/
structure ExitAlone (s : State) : Prop where
  streams : s.felt.streams = []
  latches : [0x20, 0x21, 0x22, 0x23].all (fun n => (irqGet s n).latch == 0) = true
  droop : s.pins.droop = s.pwr.droopSeen
  halt : s.pwr.haltOwed = none
  brace : s.pwr.braceOwed = false

/-- The die at the end of a SLEEP exit. -/
def exited (s : State) : State :=
  { s with
    pwr := { s.pwr with st := .active, sleep := .none, wake := false }
    pins := { s.pins with gclkAck := true, d2dLowrate := false } }

theorem gclkUp_exiting {s : State} (x : ExitAlone s) (he : s.pwr.sleep = .exiting) (hq : s.pins.gclkReq = true) :
    gclkUp s = exited s := by
  have hp : setPower .active (modPwr (fun p => { p with sleep := .none, wake := false })
      (modPins (fun p => { p with d2dLowrate := false }) (modPins (fun p => { p with gclkAck := p.gclkReq }) s))) = exited s := by
    rw [setPower_alone .active (by simpa using x.streams)]
    simp only [modPwr, modPins, hq, exited]
  have hl : droopRound (latchAll (exited s)) = exited s := by
    rw [latchAll_empty (s := exited s) x.latches, droopRound_seen (s := exited s) x.droop]
  have hh : (exited s).pwr.haltOwed = none := x.halt
  have hb : (exited s).pwr.braceOwed = false := x.brace
  unfold gclkUp
  simp only [modPins_pwr, he, ne_eq, not_true_eq_false, if_false, hp, hl, hh, hb, Bool.false_eq_true]

/-- GCLK_ACK ends a SLEEP exit; no access waits for it. -/
theorem gclkBack_exiting {s : State} (x : ExitAlone s) (he : s.pwr.sleep = .exiting) (hq : s.pins.gclkReq = true)
    (hr : s.boot.phase = .run) (hs : s.regp.stalled = []) : gclkBack s = exited s := by
  have hh : regpHeld (exited s) = false := by simp [regpHeld, exited, hr]
  simp only [gclkBack, gclkUp_exiting x he hq, hh, Bool.false_eq_true, if_false]
  exact regDrain_none (s := exited s) hs

/-- Settles O36: each command's effect in its state, and that `rest` outlives it. -/
theorem sleepAndDozeComplete : Obligations.SleepAndDozeComplete := by
  unfold Obligations.SleepAndDozeComplete
  refine ⟨?_, ?_, ?_, ?_, ?_⟩
  · intro s hr hrun hs ha hb hi hx
    have k := running_parts hrun
    refine cycle_settles ((whenOn_alive _ (alive_of_running hrun)).trans (dozeEntry_idle (s := tick s) ?_ hs ha hb hi hx)) hr ?_
    · exact running_parts (s := tick s) hrun
    · exact undisturbed_power (s := tick s) _ _ _ _ hr rfl (fun e => absurd (k.active.symm.trans e) (by decide))
  · intro s hr hl hd ha hi hf hp
    refine cycle_settles ((whenOn_alive _ hl).trans (sleepComplete_drained (s := tick s) hd ha hi hf hp)) hr ?_
    exact undisturbed_power (s := tick s) _ _ _ _ hr rfl (fun _ => .inl rfl)
  · intro s hr hl hd hs
    refine cycle_settles ((whenOn_alive _ hl).trans (sleepTimeout_draining (s := tick s) hd hs)) hr ?_
    exact undisturbed_power (s := tick s) _ _ _ _ hr rfl .inl
  · intro s hr hl hd hw
    refine cycle_settles ((whenOn_alive _ hl).trans (sleepExit_woken (s := tick s) hd hw)) hr ?_
    exact undisturbed_power (s := tick s) _ _ _ _ hr rfl .inl
  · intro s hr hl he hq hs hrun hst hfl hdr hh hb hla
    have x : ExitAlone (tick s) := ⟨hs, hla, hdr, hh, hb⟩
    refine cycle_settles ((whenOn_alive _ hl).trans (gclkBack_exiting x he hq hrun hst)) hr ?_
    exact undisturbed_power (s := tick s) _ _ _ _ hr rfl (fun _ => .inr hfl)

/-! ## Tables written twice -/

/-- A second write at an index leaves nothing of the first. -/
theorem tset_tset {α : Type} (t : Tbl α) (k : Nat) (a b : α) : tset (tset t k a) k b = tset t k b := by
  induction t with
  | nil => simp [tset]
  | cons e later ih =>
    by_cases hlt : e.1 < k
    · simp [tset, hlt, ih]
    · simp [tset, hlt]

theorem terase_tset {α : Type} (t : Tbl α) (k : Nat) (a : α) : terase (tset t k a) k = terase t k := by
  induction t with
  | nil => simp [tset, terase]
  | cons e later ih =>
    unfold terase at ih ⊢
    by_cases hlt : e.1 < k
    · simp [tset, hlt, List.filter_cons, ih]
    · by_cases heq : e.1 = k <;> simp [tset, hlt, heq]

theorem tput_tput {α : Type} [DecidableEq α] (d : α) (t : Tbl α) (k : Nat) (a b : α) (h : a ≠ d) :
    tput d (tput d t k a) k b = tput d t k b := by
  have e : tput d t k a = tset t k a := if_neg h
  rw [e]
  simp only [tput, tset_tset, terase_tset]

/-! ## The scrubber (13 R304, R311-R313) -/

@[simp] theorem slotAt_putSlot (n : Nat) (x : Slot) (s : State) : slotAt (putSlot n x s) n = x := by
  simp [slotAt, putSlot]

/-- Written over a slot that is not empty. -/
theorem putSlot_putSlot (n : Nat) (x y : Slot) (s : State) (h : x ≠ {}) : putSlot n y (putSlot n x s) = putSlot n y s := by
  simp only [putSlot, tput_tput _ _ _ _ _ h]

/-- The event log reads nothing of the object store. -/
theorem putSlot_logEvent (c : Nat) (x : W32) (d e : W64) (n : Nat) (y : Slot) (s : State) :
    putSlot n y (logEvent c none x d e s) = logEvent c none x d e (putSlot n y s) := by
  simp only [logEvent, logWrite, apply_ite (putSlot n y)]
  rfl

theorem slotAt_logEvent (c : Nat) (x : W32) (d e : W64) (n : Nat) (s : State) :
    slotAt (logEvent c none x d e s) n = slotAt s n := by
  simp only [logEvent, logWrite]
  split_ifs <;> rfl

/-- A slot that holds one object and sequence in both copies, without errors. -/
def mirrored (o : Obj) (q : BitVec 16) (l : List Nat) : Slot := { a := { obj := o, seq := q }, b := { obj := o, seq := q }, list := l }

theorem clean_mirrored {x : Slot} (h : clean x = true) : x = mirrored x.a.obj x.a.seq x.list := by
  obtain ⟨⟨o, q, e⟩, b, l, lost⟩ := x
  simp only [clean, Bool.and_eq_true, Bool.not_eq_true', decide_eq_true_eq] at h
  obtain ⟨⟨⟨rfl, rfl⟩, -⟩, rfl⟩ := h
  rfl

/-- The same slot with copy A unreadable. -/
def lostA (o : Obj) (q : BitVec 16) (l : List Nat) : Slot :=
  { a := { obj := o, seq := q, err := { ue := true } }, b := { obj := o, seq := q }, list := l }

/-- A clean slot read by no request stays as it is. -/
theorem readSlot_clean {s : State} {n : Nat} (h : clean (slotAt s n) = true) : readSlot n s = s := by
  unfold readSlot
  rw [resolve_clean h]
  simp

theorem scrubVisit_clean {s : State} {n : BitVec 17} (h : clean (slotAt s n.toNat) = true) :
    scrubVisit (.slot n {} {}) s = s := by
  simp [scrubVisit, readSlot_clean h]

/-- A slot whose copy A alone does not read is written again from copy B, with the error counted and MIRROR_FIX logged. -/
theorem readSlot_lostA {s : State} {n : Nat} {o : Obj} {q : BitVec 16} {l : List Nat} (hx : slotAt s n = lostA o q l)
    (hf : fetching s n = false) :
    readSlot n s = logEvent 0x01 none (BitVec.ofNat 32 n) 0 0
      (putSlot n (mirrored o q l) { s with res := { s.res with ue := sat16 s.res.ue } }) := by
  have hr : resolve n s = (.ok false, writeBoth n o q
      (logEvent 0x01 none (BitVec.ofNat 32 n) 0 0 { s with res := { s.res with ue := sat16 s.res.ue } })) := by
    simp [resolve, hx, lostA, countCopy]
  have hw : slotAt { s with res := { s.res with ue := sat16 s.res.ue } } n = lostA o q l := hx
  simp only [readSlot, hf, hr, writeBoth, slotAt_logEvent, hw, putSlot_logEvent]
  rfl

/-- An unreadable copy A beside a clean slot's copy B: the slot is as it was, the error counted and MIRROR_FIX logged. -/
theorem scrubVisit_lostA {s : State} {n : BitVec 17} (h : clean (slotAt s n.toNat) = true) (he : s.res.scrubEn = true)
    (hf : fetching s n.toNat = false) :
    scrubVisit (.slot n { ue := true } {}) s = logEvent 0x01 none (n.setWidth 32) 0 0
      (putSlot n.toNat (slotAt s n.toNat) { s with res := { s.res with ue := sat16 s.res.ue } }) := by
  have hx := clean_mirrored h
  generalize (slotAt s n.toNat).a.obj = o, (slotAt s n.toNat).a.seq = q, (slotAt s n.toNat).list = l at hx
  have hm : markCopies n.toNat { ue := true } {} s = putSlot n.toNat (lostA o q l) s := by
    simp [markCopies, hx, mirrored, lostA]
  have hne : lostA o q l ≠ {} := fun e => absurd (congrArg (fun y : Slot => y.a.err.ue) e) (by simp [lostA])
  have hv : scrubVisit (.slot n { ue := true } {}) s = readSlot n.toNat (putSlot n.toNat (lostA o q l) s) := by
    rw [← hm]
    exact if_pos he
  rw [hv, readSlot_lostA (slotAt_putSlot _ _ _) hf, hx]
  have hp := putSlot_putSlot n.toNat (lostA o q l) (mirrored o q l) { s with res := { s.res with ue := sat16 s.res.ue } } hne
  exact congrArg₂ (fun i u => logEvent 0x01 none i 0 0 u) (by simp) hp

theorem logEvent_pins (c : Nat) (n : Option Nat) (x : W32) (d e : W64) (s : State) : (logEvent c n x d e s).pins = s.pins := by
  have hw : ∀ i, (logWrite c i x d e s).pins = s.pins := by
    intro i
    unfold logWrite
    simp only
    split_ifs <;> rfl
  cases n with
  | none => exact hw false
  | some n =>
    refine Eq.trans ?_ (hw true)
    simp only [logEvent, assertSource]
    split_ifs <;> rfl

theorem Undisturbed.fatal {s t : State} {x : W32} (h : Undisturbed s t) : Undisturbed s (fatal x t) :=
  .logEvent ⟨h.rest, h.pending, h.kinds⟩

/-- What is wrong with the operation pool or the context table is fatal (13 R311, R313). -/
theorem scrubVisit_fatal {a : ArrayId} (w : BitVec 24) (s : State) (h : a = .pool ∨ a = .ctx) :
    scrubVisit (.array a w .ue) s = fatal (arraySubject a w)
      (logEvent 0x07 (some 0x08) (arraySubject a w) 0 0 { s with res := { s.res with ue := sat16 s.res.ue } }) := by
  rcases h with rfl | rfl <;> rfl

/-- The flit that is picked and ends with this transfer leaves the queue, and its pending arrival ends (06 R148). -/
theorem egTransfer_last {p : Port} {s : State} {f : EgFlit} (h : egPick s p = some f) (hl : f.f.two = false ∨ f.half = true) :
    egTransfer p s = { s with
      eg := { s.eg with queue := dropFirst (· == f) s.eg.queue, out := tset s.eg.out p.val (f.f, f.half) }
      couch := { s.couch with pend := match f.pend with
        | none => s.couch.pend
        | some i => s.couch.pend.filter (fun a => a.id != i) } } := by
  have hs : (f.f.two && !f.half) = false := by rcases hl with e | e <;> simp [e]
  simp only [egTransfer, h, hs, egLeft, Bool.false_eq_true, if_false]
  cases f.pend <;> rfl

/-- Settles O40: each visit's and each transfer's effect, none of which leaves anything waiting. -/
theorem scrubAndEgressComplete : Obligations.ScrubAndEgressComplete := by
  unfold Obligations.ScrubAndEgressComplete
  refine ⟨?_, ?_, ?_, ?_⟩
  · intro n s hr hg hc
    exact cycle_settles ((whenClk_on _ hg).trans (scrubVisit_clean (s := tick s) hc)) hr ⟨rfl, rfl, rfl⟩
  · intro n s hr hg hc he hf
    refine cycle_settles ((whenClk_on _ hg).trans (scrubVisit_lostA (s := tick s) hc he hf)) hr ?_
    exact .logEvent ⟨rfl, rfl, rfl⟩
  · intro a w s v hr hg ha
    have hp : v.pins = (tick s).pins := logEvent_pins ..
    rw [← hp]
    exact cycle_settles ((whenClk_on _ hg).trans (scrubVisit_fatal w (tick s) ha)) hr (.fatal (.logEvent ⟨rfl, rfl, rfl⟩))
  · intro p s f hr hg hp hl
    exact cycle_settles ((whenClk_on _ hg).trans (egTransfer_last hp hl)) hr ⟨rfl, rfl, rfl⟩

/-! ## A parked prepare pass of a home that has refused (09 R222, R230) -/

/-- The SIGNAL of 4 on slot 5 that the quire holds. -/
def signalMember : Member :=
  { pos := 0, inner := opSignal, op := { opcode := opQop, agent := 0, ctx := 0 }, slot := 5, home := 0, x := { w0 := 0 }, a := 4, b := 0 }

/-- The QCOMMIT that waits for its answer. -/
def commitOp : Op := { opcode := opQcommit, agent := 0, ctx := 0 }

/-- The quire at its origin, preparing. -/
def preparingRec : QRec :=
  { agent := 0, inc := 0, ctx := 0, count := 1, ticket := { time := 0, agent := 0 }, members := [signalMember], state := .preparing
    commit := some commitOp }

/-- The quire at its home: its member has not run, and yet the home has recorded a NO with cause RESOURCE. -/
def refusingHome : HomeQ :=
  { key := { die := 0, qid := 0 }, ticket := preparingRec.ticket, inc := 0, ctx := 0, coord := 0, members := [hmemberOf signalMember]
    no := some (8, 0) }

/-- A running die with a SEMAPHORE of 3 in slot 5, the quire, and the parked prepare pass of its member. -/
def refusingDie : State :=
  { State.reset with
    boot := { State.reset.boot with phase := .run }
    ctx := { State.reset.ctx with tab := [(0, { state := .live })] }
    vat := { State.reset.vat with
      slots := [(5, { a := { obj := { kind := kSemaphore, value := 3 } }, b := { obj := { kind := kSemaphore, value := 3 } } })] }
    qu := { State.reset.qu with
      recs := [(0, preparingRec)], homes := [refusingHome], parked := [{ key := refusingHome.key, pos := 0 }] } }

/-- The state that QUIRE_PREPARE_UNPARK leaves: the home votes its NO (09 R230), and the quire aborts. -/
theorem refusingDie_aborts :
    (inCycle (whenClk unpark) refusingDie).qu.commits = 0 ∧ (inCycle (whenClk unpark) refusingDie).qu.aborts = 1 := by
  decide +kernel

/-- Refutes O17, whose second clause asks of the home that it is undecided but not that it has recorded no NO: this die meets every
hypothesis, its member prepares, and the home votes the NO that it holds, so that the quire aborts where the clause has it
committed. -/
theorem not_heldJobsGoOn : ¬ Obligations.HeldJobsGoOn := by
  unfold Obligations.HeldJobsGoOn
  rintro ⟨-, h⟩
  have claim := h refusingDie 0 5 preparingRec signalMember refusingHome commitOp
  iterate 43 specialize claim (by decide +kernel)
  obtain ⟨u, hu, hs⟩ := claim
  have he : inCycle (whenClk unpark) refusingDie = u := Host.Outcome.next.inj hu
  have hc : u.qu.commits = 1 := congrArg (fun t : State => t.qu.commits) hs
  rw [← he, refusingDie_aborts.1] at hc
  exact absurd hc (by decide)

end Sys2Proof.Proofs.Organisation
end

section
/-! Agents and messages (02): what a request is answered, and the frames that carry answers. First a response in its turn, then a
request granted in the cycle that brings it, then the pass of an operation at its object. -/

namespace Sys2Proof.Proofs.Messages

open Sys2Proof Sys2Proof.Machine Sys2Proof.Laws Sys2Proof.Proofs.Organisation

/-! ## A response in its turn (02 R47) -/

section

variable {α : Type} {p : α → Bool} {l : List α} {x : α}

theorem dropFirst_none (h : ∀ a ∈ l, p a = false) : dropFirst p l = l := by
  induction l with
  | nil => rfl
  | cons a l ih => simp [dropFirst, h a (by simp), ih (fun b hb => h b (by simp [hb]))]

theorem dropFirst_last (h : ∀ a ∈ l, p a = false) (hx : p x = true) : dropFirst p (l ++ [x]) = l := by
  induction l with
  | nil => simp [dropFirst, hx]
  | cons a l ih => simp [dropFirst, h a (by simp), ih (fun b hb => h b (by simp [hb]))]

theorem modFirst_last (f : α → α) (h : ∀ a ∈ l, p a = false) (hx : p x = true) : modFirst p f (l ++ [x]) = l ++ [f x] := by
  induction l with
  | nil => simp [modFirst, hx]
  | cons a l ih => simp [modFirst, h a (by simp), ih (fun b hb => h b (by simp [hb]))]

end

theorem releaseLine_none {p : Unanswered → Bool} {l : List Unanswered} (h : ∀ u ∈ l, p u = false) :
    releaseLine p l = (l, []) := by
  induction l with
  | nil => rfl
  | cons a l ih => simp [releaseLine, h a (by simp), ih (fun b hb => h b (by simp [hb]))]

theorem releaseLine_last {p : Unanswered → Bool} {l : List Unanswered} {u : Unanswered} {f : OutFlit}
    (h : ∀ u ∈ l, p u = false) (hu : p u = true) (hf : u.resp = some f) : releaseLine p (l ++ [u]) = (l, [f]) := by
  induction l with
  | nil => simp [releaseLine, hu, hf]
  | cons a l ih => simp [releaseLine, h a (by simp), ih (fun b hb => h b (by simp [hb]))]

/-- The state with another order of responses. -/
def ordered (l : List Unanswered) (s : State) : State := { s with hb := { s.hb with order := l } }

/-- None of the requests stands in the line of the responses to `op`. -/
def OutOfLine (op : Op) (l : List Unanswered) : Prop := ∀ u ∈ l, inLine .mesh (respFlit op stOk 0 0 0) u = false

/-- The place that a request takes, if it names an object. -/
def placed (op : Op) : List Unanswered := if namesObject op.opcode then [placeOf op] else []

/-- `op` came over MESH and stands last in the order of responses, none of its line before it. -/
structure Awaited (op : Op) (l : List Unanswered) (s : State) : Prop where
  mesh : op.src = .mesh
  line : OutOfLine op l
  order : s.hb.order = l ++ placed op

theorem firstInLine_outOfLine {op : Op} {s : State} (hm : op.src = .mesh) (h : firstInLine op s = true) :
    OutOfLine op s.hb.order := by
  simpa [firstInLine, hm, OutOfLine] using h

section

variable {op : Op} {l : List Unanswered} {s : State}

/-- Who stands not in the line of a request is not that request. -/
theorem answersReq_outOfLine (h : OutOfLine op l) (st : Status) (a b : W64) (d : BitVec 512) :
    ∀ u ∈ l, (answersReq .mesh (respFlit op st a b d) u && u.resp.isNone) = false := by
  intro u hu
  have hl := h u hu
  by_contra hc
  simp only [Bool.not_eq_false, answersReq, inLine, respFlit, Bool.and_eq_true] at hc hl
  simp_all

theorem inLine_placeOf (hm : op.src = .mesh) (f : Option OutFlit) (st : Status) (a b : W64) (d : BitVec 512) :
    inLine .mesh (respFlit op st a b d) { placeOf op with resp := f } = true := by
  simp [inLine, respFlit, placeOf, hm]

theorem answersReq_placeOf (hm : op.src = .mesh) (st : Status) (a b : W64) (d : BitVec 512) :
    (answersReq .mesh (respFlit op st a b d) (placeOf op) && (placeOf op).resp.isNone) = true := by
  simp [answersReq, respFlit, placeOf, hm]

theorem flushLine_none {f : OutFlit} (h : ∀ u ∈ s.hb.order, inLine .mesh f u = false) : flushLine .mesh f s = s := by
  simp [flushLine, releaseLine_none h]

/-- The response of the request that stands last leaves at once. -/
theorem respond_awaited (h : Awaited op l s) (st : Status) (a b : W64) (d : BitVec 512) :
    respond .mesh (respFlit op st a b d) s = push 2 (respFlit op st a b d) none (ordered l s) := by
  have hn := answersReq_outOfLine h.line st a b d
  have ho := h.order
  by_cases hp : namesObject op.opcode = true
  · have hl := answersReq_placeOf h.mesh st a b d
    simp only [placed, hp, if_true] at ho
    have hr := releaseLine_last (u := { placeOf op with resp := some (respFlit op st a b d) }) h.line
      (inLine_placeOf h.mesh _ stOk 0 0 0) rfl
    unfold respond
    simp only [ho, modFirst_last _ hn hl, List.any_append, List.any_cons, hl, Bool.true_or, Bool.or_true, if_true]
    unfold flushLine
    rw [show inLine .mesh (respFlit op st a b d) = inLine .mesh (respFlit op stOk 0 0 0) from rfl]
    simp only [hr]
    rfl
  · simp only [placed, hp, Bool.false_eq_true, if_false, List.append_nil] at ho
    have hnone : s.hb.order.any (fun u => answersReq .mesh (respFlit op st a b d) u && u.resp.isNone) = false := by
      rw [ho, List.any_eq_false]
      intro u hu
      simp [hn u hu]
    unfold respond
    simp only [hnone, Bool.false_eq_true, if_false, ← ho]
    rfl

/-- A request that is not answered leaves its place, and holds nothing back. -/
theorem leaveOrder_awaited (h : Awaited op l s) : leaveOrder op s = ordered l s := by
  have hn := answersReq_outOfLine h.line stOk 0 0 0
  have hd : dropFirst (fun u => answersReq .mesh (respFlit op stOk 0 0 0) u && u.resp.isNone) s.hb.order = l := by
    rw [h.order]
    by_cases hp : namesObject op.opcode = true
    · simpa only [placed, hp, if_true] using dropFirst_last hn (answersReq_placeOf h.mesh stOk 0 0 0)
    · simpa [placed, hp] using dropFirst_none hn
  unfold leaveOrder
  simp only [h.mesh, hd]
  exact flushLine_none (s := ordered l s) h.line

/-- The answer OK: in line for the port, unless NORESP asks for none. -/
theorem answerD_ok (h : Awaited op l s) (a b : W64) (d : BitVec 512) :
    answerD op stOk a b d s = withResp op stOk a b d (ordered l s) := by
  unfold answerD withResp
  simp only [h.mesh, countStatus]
  by_cases hr : op.noresp = true
  · simp only [hr, beq_self_eq_true, Bool.and_self, if_true]
    exact leaveOrder_awaited h
  · simp only [hr, Bool.false_and, Bool.false_eq_true, if_false]
    unfold offerResp
    exact (if_pos (Or.inl rfl)).trans (respond_awaited h stOk a b d)

/-- A refusal: counted, and in line for the port, NORESP or not. -/
theorem answerD_refusal (h : Awaited op l s) {st : Status} (hk : st ≠ stOk) (hv : st ≠ stDiverged) (a b : W64) (d : BitVec 512) :
    answerD op st a b d s = modCtxCnt op.ctx (fun k => { k with nacks := k.nacks + 1 })
      (push 2 (respFlit op st a b d) none (bumpAon st.toNat (ordered l s))) := by
  have hc : countStatus st s = bumpAon st.toNat s := if_neg hk
  have hb : Awaited op l (bumpAon st.toNat s) := ⟨h.mesh, h.line, h.order⟩
  unfold answerD
  simp only [h.mesh, hc, beq_eq_false_iff_ne.mpr hk, Bool.and_false, Bool.false_eq_true, if_false]
  unfold offerResp
  exact (if_neg (not_or.mpr ⟨hk, hv⟩)).trans (congrArg _ (respond_awaited hb st a b d))

end

/-! ## A request granted in the cycle that brings it (06 R160) -/

/-- The state with another Headbox. -/
def withHb (h : Headbox) (s : State) : State := { s with hb := h }

/-- Nothing waits in `t` where nothing waits in `s`, and the commands in line, the kinds, the Headbox and the map of the ports are
the same. -/
structure Kept (s t : State) : Prop extends Undisturbed s t where
  hb : t.hb = s.hb
  map : t.regp.meshMap = s.regp.meshMap

theorem Kept.trans {s t u : State} (h : Kept s t) (k : Kept t u) : Kept s u :=
  ⟨h.toUndisturbed.trans k.toUndisturbed, k.hb.trans h.hb, k.map.trans h.map⟩

theorem Kept.withResp {s t : State} {op : Op} {st : Status} {a b : W64} {d : BitVec 512} (h : Kept s t) :
    Kept s (withResp op st a b d t) := by
  refine h.trans ?_
  unfold Machine.withResp
  split_ifs <;> exact ⟨⟨rfl, rfl, rfl⟩, rfl, rfl⟩

theorem Kept.tcTouch {s t : State} {c : CtxId} {x : W32} (h : Kept s t) : Kept s (tcTouch c x t) :=
  h.trans ⟨⟨rfl, rfl, rfl⟩, rfl, rfl⟩

theorem Kept.refusal {s t : State} {c n : _} {f : OutFlit} {g : CtxCnt → CtxCnt} (h : Kept s t) :
    Kept s (modCtxCnt c g (push 2 f none (bumpAon n t))) :=
  h.trans ⟨⟨rfl, rfl, rfl⟩, rfl, rfl⟩

theorem Kept.refl (s : State) : Kept s s := ⟨⟨rfl, rfl, rfl⟩, rfl, rfl⟩

/-- Of the Headbox `rest` sees only what waits in it. -/
theorem rest_withHb {h : Headbox} {s : State} (e : headEmpty (withHb h s) = headEmpty s) : rest (withHb h s) = rest s :=
  congrArg (fun b => b && feltEmpty s && stepEmpty s && passesDone s && braceIdle s && !dumpDue s && s.ctx.clearing.isNone &&
    flashIdle s && s.boot.phase != .links) e

/-- The outcome is a next state that is `T` but for what every cycle and every grant counts. -/
def Leads (x : Host.Outcome State Fault Refusal) (T : State) : Prop := ∃ u, x = .next u ∧ stillArb u = stillArb T

section

variable {p : Port} {o : Byte} {f : Flit} {s T : State}

theorem noteFlit_placed (s : State) :
    (noteFlit { port := p, opcode := o, f } s).hb.order = s.hb.order ++ placed (opOf o f none) := by
  unfold noteFlit noteOrder placed
  show _ = s.hb.order ++ if namesObject o then _ else _
  split_ifs
  · rfl
  · simp

/-- The bookkeeping of a lone grant is all that `stillArb` leaves out of it. -/
theorem stillArb_granted {x u : State} {m : MeshFlit} {a : Arb} {r n mw : Nat} {w : List Nat} (hw : s.hb.waiting = [])
    (hb : s.hb.bursts = []) (hk : Kept (granted m.f.ctx s) T)
    (hu : u = withHb { headboxAfter m s a r n 1 mw w with order := s.hb.order } T)
    (hx : still x = { still (withMap s.regp.meshMap u) with pending := s.pending, kt := { u.kt with kinds := s.kt.kinds } }) :
    stillArb x = stillArb T := by
  have hm : s.regp.meshMap = T.regp.meshMap := hk.map.symm
  have hp : s.pending = T.pending := hk.pending.symm
  have hq : s.kt.kinds = T.kt.kinds := hk.kinds.symm
  have ht : T.hb = (tick s).hb := hk.hb
  unfold stillArb
  rw [hx, hu, hm, hp, hq]
  simp only [still, withMap, withHb, headboxAfter, ht, tick, hw, hb]

/-- A request granted in its cycle: where carrying it out comes to `T` and takes the request off the order of responses, `T` is what
the cycle leaves. -/
theorem grant_settles (h : grantable { port := p, opcode := o, f } s = true) (ho : o ≠ opArriveR)
    (hk : Kept (granted f.ctx s) T)
    (hc : ∀ hb : Headbox, hb.order = s.hb.order ++ placed (opOf o f none) →
      carryOut (opOf o f none) (withHb hb (granted f.ctx s)) = withHb { hb with order := s.hb.order } T) :
    Leads (.next (inCycle (offer { port := p, opcode := o, f }) s)) T := by
  obtain ⟨a, r, n, mw, w, hs⟩ := mesh_grant _ s h
  have g := grantable_parts h
  have q := resting g.rest
  let hb : Headbox := headboxAfter { port := p, opcode := o, f } s a r n 1 mw w
  have hu : carryOut (stampTime (opOf o f none) (withHb hb (granted f.ctx s))).1
      (stampTime (opOf o f none) (withHb hb (granted f.ctx s))).2 = withHb { hb with order := s.hb.order } T := by
    rw [stampTime_other _ ho]
    exact hc hb (noteFlit_placed s)
  have ht : T.hb = (tick s).hb := hk.hb
  have hw : (tick s).hb.waiting = [] := q.waiting
  have hr : rest (withHb { hb with order := s.hb.order } T) = true := by
    refine (rest_withHb ?_).trans (hk.rest.trans g.rest)
    simp only [headEmpty, withHb, hb, headboxAfter, ht, hw]
  exact ⟨_, rfl, stillArb_granted q.waiting g.bursts hk hu (hs ((congrArg rest hu).trans hr))⟩

theorem grantable_awaited {hb : Headbox} (h : grantable { port := p, opcode := o, f } s = true)
    (e : hb.order = s.hb.order ++ placed (opOf o f none)) : Awaited (opOf o f none) s.hb.order (withHb hb T) :=
  ⟨rfl, firstInLine_outOfLine rfl (grantable_parts h).line, e⟩

/-- A request granted in its cycle that is answered OK. -/
theorem grant_ok {a b : W64} {d : BitVec 512} (h : grantable { port := p, opcode := o, f } s = true) (ho : o ≠ opArriveR)
    (hk : Kept (granted f.ctx s) T)
    (hc : ∀ hb : Headbox, Awaited (opOf o f none) s.hb.order (withHb hb T) →
      carryOut (opOf o f none) (withHb hb (granted f.ctx s)) = answerD (opOf o f none) stOk a b d (withHb hb T)) :
    Leads (.next (inCycle (offer { port := p, opcode := o, f }) s)) (withResp (opOf o f none) stOk a b d T) := by
  refine grant_settles h ho hk.withResp (fun hb e => ?_)
  have w : Awaited _ s.hb.order (withHb hb T) := grantable_awaited h e
  rw [hc hb w, answerD_ok w]
  unfold withResp
  split_ifs <;> rfl

/-- A request granted in its cycle that is refused. -/
theorem grant_refused {st : Status} {a b : W64} {d : BitVec 512} (h : grantable { port := p, opcode := o, f } s = true)
    (ho : o ≠ opArriveR) (hk : Kept (granted f.ctx s) T) (h0 : st ≠ stOk) (hv : st ≠ stDiverged)
    (hc : ∀ hb : Headbox,
      carryOut (opOf o f none) (withHb hb (granted f.ctx s)) = answerD (opOf o f none) st a b d (withHb hb T)) :
    Leads (.next (inCycle (offer { port := p, opcode := o, f }) s))
      (modCtxCnt f.ctx (fun k => { k with nacks := k.nacks + 1 })
        (push 2 (respFlit (opOf o f none) st a b d) none (bumpAon st.toNat T))) := by
  refine grant_settles h ho hk.refusal (fun hb e => ?_)
  rw [hc hb, answerD_refusal (grantable_awaited h e) h0 hv]
  rfl

end

/-! ## An operation at its object (03 R64) -/

section

variable {op : Op} {n : Nat} {s : State}

/-- The opcodes of an arrival. -/
def arrives (o : Byte) : Bool := o == opArrive || o == opArriveR

theorem treeArrival_other {x : Obj} (h : arrives op.opcode = false) : treeArrival x op = false := by
  unfold arrives at h
  simp [treeArrival, h]

/-- An operation that no record combines, at its object: the evaluation, and the end of the pass. -/
theorem carryOut_pass (hm : op.src = .mesh) (ho : objOpcode op.opcode = true) (ha : arrives op.opcode = false)
    (h : reaches s op n = true) (he : s.couch.entering = []) :
    carryOut op s = endPass op n false (evalObj false none op n (tcTouch op.ctx op.handle s)).1
      (evalObj false none op n (tcTouch op.ctx op.handle s)).2 := by
  have q := reaches_atObject h
  rw [carryOut_reaches hm ho h, objectOp_reaches (s := tcTouch op.ctx op.handle s) hm q.free q.alive q.clean q.kind q.owner he]
  exact if_neg (Bool.eq_false_iff.mp (treeArrival_other ha))

theorem okOrDiverged_clear (h : (objAt s n).diverged = false) : okOrDiverged n op s = (stOk, s) := by
  unfold okOrDiverged divergedTouch
  cases whoOf op <;> simp [h]

/-- A pass that only answers. -/
theorem endPass_answer {st : Status} {a b : W64} {d : BitVec 512} (h : st = stOk → (objAt s n).diverged = false) :
    endPass op n false { status := st, a, b, data := d } s = answerD op st a b d s := by
  have e : (if st = stOk then okOrDiverged n op s else (st, s)) = (st, s) := by
    split_ifs with hst
    · rw [okOrDiverged_clear (h hst), hst]
    · rfl
  simp [endPass, answerPass, e, finishPass, sendGrants, doOut]

theorem evalObj_read {r : Option Nat} {q : Bool} (h : op.opcode = opRead) :
    evalObj q r op n s = ({ status := stOk, a := (objAt s n).value, b := objB (objAt s n) }, s) := if_pos h

/-- What of an object with PRIVILEGED a PROBE not in full view does not show (17 R408). -/
def veiled (s : State) (n : Nat) (c : CtxId) : Bool := (objAt s n).priv && !fullView s c

theorem evalObj_probe {r : Option Nat} {q : Bool} (h : op.opcode = opProbe) :
    evalObj q r op n s = ({ status := stOk, a := (objAt s n).value
                            b := if veiled s n op.ctx then 0 else objB (objAt s n)
                            data := if veiled s n op.ctx then BitVec.ofNat 512 (2 ^ 88) else probePayload s n }, s) := by
  have hn : op.opcode ≠ opRead := by rw [h]; decide
  refine (if_neg hn).trans ((if_pos h).trans ?_)
  unfold evalProbe veiled
  cases hv : (objAt s n).priv && !fullView s op.ctx <;> simp only [hv, Bool.false_eq_true, if_false, if_true]

/-- The operations that act on an object by its kind's rule (03 R78). -/
def actsByKind (o : Byte) : Prop := o = opSignal ∨ o = opSet ∨ o = opTake ∨ o = opGive ∨ o = opCas ∨ o = opInvoke

theorem objOpcode_actsByKind {o : Byte} (h : actsByKind o) : objOpcode o = true := by
  rcases h with rfl | rfl | rfl | rfl | rfl | rfl <;> rfl

theorem arrives_actsByKind {o : Byte} (h : actsByKind o) : arrives o = false := by
  rcases h with rfl | rfl | rfl | rfl | rfl | rfl <;> rfl

theorem evalObj_actsByKind {r : Option Nat} {q : Bool} (h : actsByKind op.opcode) (hk : kindUnfit s (objAt s n) = false) :
    evalObj q r op n s = evalKind q op n s := by
  have hn : op.opcode ≠ opRead ∧ op.opcode ≠ opProbe ∧ op.opcode ≠ opWatch ∧ op.opcode ≠ opUnwatch ∧ op.opcode ≠ opArm := by
    rcases h with e | e | e | e | e | e <;> rw [e] <;> decide
  obtain ⟨h1, h2, h3, h4, h5⟩ := hn
  unfold evalObj
  simp only [h1, h2, h3, h4, h5, hk, treeArrival_other (arrives_actsByKind h), Bool.false_eq_true, if_false]

/-- The kind's answer to an operation, as the pass asks for it on an empty list. -/
def answerOfKind (s : State) (op : Op) (n : Nat) : KRes := kindStep (liveKinds s) (objAt s n) [] op (whoOf op)

theorem queueAt_empty (h : listAt s n = []) : queueAt s n = [] := by simp [queueAt, h]

theorem evalKind_refused {q : Bool} (hl : listAt s n = []) (h : (answerOfKind s op n).status ≠ stOk) :
    evalKind q op n s = (kindOut (answerOfKind s op n).status (objAt s n), s) := by
  unfold evalKind
  simp only [queueAt_empty hl]
  exact if_pos h

/-- A kind that answers OK finds a STATE that it has (04 R101, R107). -/
theorem kindUser_ok {u : UKind} {o : Obj} {q : List QEnt} (h : (kindUser u o q op).status = stOk) : o.state.toNat < u.nstates := by
  unfold kindUser at h
  by_contra hc
  cases e : uevOf op <;> simp [e, refuse, Nat.not_lt.mp hc, stKindReject, stOk] at h

theorem kindStep_user {ks : List UKind} {o : Obj} {u : UKind} {q : List QEnt} {w : Option AgentId} (hb : isBuiltin o.kind = false)
    (hu : ukindOf ks o.kind = some u) : kindStep ks o q op w = kindUser u o q op := by
  have hn : ∀ k : Byte, isBuiltin k = true → o.kind ≠ k := fun k hk e => by rw [e, hk] at hb; cases hb
  unfold kindStep
  simp only [hb, hu, hn kSemaphore rfl, hn kTokenPool rfl, hn kEvent rfl, hn kFenceCtr rfl, hn kRing rfl, hn kMonoPair rfl,
    hn kTicketLock rfl, hn kBarrier rfl, Bool.false_and, Bool.false_eq_true, or_self, if_false]

theorem kindUnfit_ok (hk : kindUnknown s (objAt s n).kind = false) (h : (answerOfKind s op n).status = stOk) :
    kindUnfit s (objAt s n) = false := by
  unfold kindUnfit
  cases hb : isBuiltin (objAt s n).kind with
  | true => simp [hk]
  | false =>
    cases hu : ukindOf (liveKinds s) (objAt s n).kind with
    | none => simp [hk]
    | some u =>
      have hs := kindUser_ok ((congrArg KRes.status (kindStep_user hb hu)).symm.trans h)
      simp [hk, hs]

theorem kindUnfit_builtin (hb : isBuiltin (objAt s n).kind = true) : kindUnfit s (objAt s n) = false := by
  simp [kindUnfit, kindUnknown, hb]

/-- What `plain` says. -/
structure Plain (r : KRes) : Prop where
  status : r.status = stOk
  queue : r.queue = false
  grants : r.grants = []
  release : r.release = false
  out : r.out = 0
  wmark : r.obj.wmark = false
  diverged : r.obj.diverged = false

theorem plain_parts {r : KRes} (h : plain r = true) : Plain r := by
  simp only [plain, Bool.and_eq_true, beq_iff_eq, Bool.not_eq_true', List.isEmpty_iff] at h
  constructor <;> tauto

/-! ### The object written -/

section

variable (n : Nat) (o : Obj) (s : State)

@[simp] theorem slotAt_putObj : slotAt (putObj n o s) n =
    { slotAt s n with a := { (slotAt s n).a with obj := o }, b := { (slotAt s n).b with obj := o } } := slotAt_putSlot ..

@[simp] theorem slotAt_bumpSeq : slotAt (bumpSeq n s) n = { slotAt s n with
    a := { (slotAt s n).a with seq := (slotAt s n).a.seq + 1 }, b := { (slotAt s n).b with seq := (slotAt s n).b.seq + 1 } } :=
  slotAt_putSlot ..

@[simp] theorem objAt_bumpIf (x : Obj × Nat) : objAt (bumpIf n x s) n = objAt s n := by
  unfold bumpIf
  split_ifs <;> simp [objAt]

@[simp] theorem listAt_bumpIf (x : Obj × Nat) : listAt (bumpIf n x s) n = listAt s n := by
  unfold bumpIf
  split_ifs <;> simp [listAt]

theorem bumpIf_self : bumpIf n (bytesAt s n) s = s := if_pos rfl

@[simp] theorem objAt_withObject : objAt (withObject n o s) n = o := by
  unfold withObject
  rw [objAt_bumpIf]
  simp [objAt]

@[simp] theorem listAt_withObject : listAt (withObject n o s) n = listAt s n := by
  unfold withObject
  rw [listAt_bumpIf]
  simp [listAt]

/-- An object written leaves all but the slots as it was. -/
theorem withObject_eq : ∃ l, withObject n o s = { s with vat := { s.vat with slots := l } } := by
  unfold withObject bumpIf
  split_ifs <;> exact ⟨_, rfl⟩

end

theorem withHb_withObject (h : Headbox) (n : Nat) (o : Obj) (s : State) :
    withHb h (withObject n o s) = withObject n o (withHb h s) :=
  apply_ite (withHb h) ..

theorem Kept.withObject {t : State} {o : Obj} (h : Kept s t) : Kept s (withObject n o t) := by
  obtain ⟨l, e⟩ := withObject_eq n o t
  rw [e]
  exact h.trans ⟨⟨rfl, rfl, rfl⟩, rfl, rfl⟩

theorem setLastsig_flags (x y : Obj) (w : Option AgentId) :
    (setLastsig x y w).wmark = y.wmark ∧ (setLastsig x y w).diverged = y.diverged := by
  unfold setLastsig
  cases w <;> simp only <;> split_ifs <;> exact ⟨rfl, rfl⟩

/-- The object that an operation leaves (03 R64). -/
def objectAfter (s : State) (op : Op) (n : Nat) : Obj := setLastsig (objAt s n) (answerOfKind s op n).obj (whoOf op)

/-- Where no die holds a third copy, none is told. -/
theorem shadowSend_none {q : BitVec 16} {c : ShadowSub} (h : holdersOf s n = []) : shadowSend n q c s = ([], s) := by
  simp [shadowSend, h]

/-- An event that changes the object alone: no grant, nothing queued, no copy holder told. -/
theorem evalKind_plain {q : Bool} (hl : listAt s n = []) (hh : holdersOf s n = []) (p : Plain (answerOfKind s op n)) :
    ∃ w, evalKind q op n s =
      ({ status := stOk, a := if op.opcode = opCas then (objAt s n).value else (objectAfter s op n).value
         b := objB (objectAfter s op n), walk := true, bumped := w }, withObject n (objectAfter s op n) s) := by
  let t := withObject n (objectAfter s op n) s
  have ht : bumpIf n (bytesAt s n) (putObj n (setLastsig (objAt s n) (answerOfKind s op n).obj (whoOf op)) s) = t := rfl
  have ho : objAt t n = objectAfter s op n := objAt_withObject ..
  have hs : (if op.opcode = opSet then shadowSend n (seqAt t n) (.set op.a) t else ([], t)) = ([], t) := by
    obtain ⟨l, e⟩ := withObject_eq n (objectAfter s op n) s
    have : holdersOf t n = [] := (congrArg (holdersOf · n) e).trans hh
    simp [shadowSend_none this]
  refine ⟨decide (bytesAt t n ≠ bytesAt s n), ?_⟩
  unfold evalKind
  simp only [queueAt_empty hl]
  simp only [show kindStep (liveKinds s) (objAt s n) [] op (whoOf op) = answerOfKind s op n from rfl, p.status, p.queue, p.grants,
    p.release, p.out, takeGrants, List.foldl_nil, ht, hs, ho, Bool.false_and, Bool.false_eq_true, ne_eq, not_true_eq_false, if_false]
  rfl

/-! ### The end of a pass on an empty list -/

theorem withResp_vat {st : Status} {a b : W64} {d : BitVec 512} : (withResp op st a b d s).vat = s.vat := by
  unfold withResp
  split_ifs <;> rfl

theorem withResp_wt {st : Status} {a b : W64} {d : BitVec 512} : (withResp op st a b d s).wt = s.wt := by
  unfold withResp
  split_ifs <;> rfl

/-- No watch, no descriptor and no Watermark is tested. -/
theorem testAll_empty {w : Bool} (hl : listAt s n = []) (hm : (objAt s n).wmark = false) (hw : s.wt.walks = []) :
    testAll n w s = s := by
  simp [testAll, joinWalk, hw, hl, wmItems, hm, runWalk, walkItems, bumpIf_self]

/-- A pass that answers OK and has nothing to test. -/
theorem endPass_plain {l : List Unanswered} {a b : W64} {w : Bool} (h : Awaited op l s) (hd : (objAt s n).diverged = false)
    (hm : (objAt s n).wmark = false) (hl : listAt s n = []) (hw : s.wt.walks = []) :
    endPass op n false { status := stOk, a, b, walk := true, bumped := w } s = answerD op stOk a b 0 s := by
  obtain ⟨t, ht⟩ : ∃ t, t = answerD op stOk a b 0 s := ⟨_, rfl⟩
  have hr : t = withResp op stOk a b 0 (ordered l s) := ht.trans (answerD_ok h a b 0)
  have hs : slotAt t n = slotAt s n := congrArg (fun v : Vat => tgetD v.slots n {}) (by rw [hr, withResp_vat]; rfl)
  have hk : t.wt.walks = [] := by rw [hr, withResp_wt]; exact hw
  have e : testAll n w t = t := testAll_empty (by simpa only [listAt, hs] using hl) (by simpa only [objAt, hs] using hm) hk
  have ha : answerD op stOk a b 0#512 s = t := ht.symm
  simpa [endPass, answerPass, okOrDiverged_clear hd, finishPass, sendGrants, doOut, ha] using e

end

/-! ## Requests that are answered (02 R34, R40) -/

/-- Settles O3: a granted NOP acts on nothing, and its answer holds back no other. -/
theorem nopCompletes : Obligations.NopCompletes := by
  unfold Obligations.NopCompletes
  intro p f s h
  have q := resting (grantable_parts h).rest
  refine grant_ok h (by decide) (.refl _) (fun hb _ => ?_)
  have e : enterAll (withHb hb (granted f.ctx s)) = withHb hb (granted f.ctx s) := enterAll_empty q.entering
  exact congrArg (carryBare (opOf opNop f none)) e

/-- A granted operation at its object. -/
theorem granted_pass {p : Port} {o : Byte} {f : Flit} {s : State} {n : Nat} (h : grantable { port := p, opcode := o, f } s = true)
    (ho : objOpcode o = true) (ha : arrives o = false) (hr : reaches s (opOf o f none) n = true) (hb : Headbox) :
    carryOut (opOf o f none) (withHb hb (granted f.ctx s)) =
      let e := evalObj false none (opOf o f none) n (withHb hb (tcTouch f.ctx f.handle (granted f.ctx s)))
      endPass (opOf o f none) n false e.1 e.2 :=
  carryOut_pass (s := withHb hb (granted f.ctx s)) rfl ho ha hr (resting (grantable_parts h).rest).entering

/-- Settles O5: the pass evaluates a READ or PROBE from the object's fields and answers. -/
theorem readProbeComplete : Obligations.ReadProbeComplete := by
  unfold Obligations.ReadProbeComplete
  refine ⟨?_, ?_⟩
  · intro p f s n h hr hd
    refine grant_ok h (by decide) (Kept.refl _).tcTouch (fun hb _ => ?_)
    rw [granted_pass h rfl rfl hr, evalObj_read rfl]
    exact endPass_answer (fun _ => hd)
  · intro p f s n h hr hd
    refine grant_ok h (by decide) (Kept.refl _).tcTouch (fun hb _ => ?_)
    rw [granted_pass h rfl rfl hr, evalObj_probe rfl]
    exact endPass_answer (fun _ => hd)

theorem exec_requestOf {o : Byte} (h : actsByKind o) (p : Port) (f : Flit) (s : State) :
    exec (requestOf o p f) s = .next (inCycle (offer { port := p, opcode := o, f }) s) := by
  rcases h with rfl | rfl | rfl | rfl | rfl | rfl <;> rfl

theorem actsByKind_other {o : Byte} (h : actsByKind o) : o ≠ opArriveR := by
  rcases h with rfl | rfl | rfl | rfl | rfl | rfl <;> decide

/-- Settles O6: the kind changes the object alone, and the answer shows what it leaves. -/
theorem objectOperationCompletes : Obligations.ObjectOperationCompletes := by
  unfold Obligations.ObjectOperationCompletes
  intro o p f s n op r o' hact h hr hk hl hh hp
  have ho : actsByKind o := hact
  have q := resting (grantable_parts h).rest
  have pl : Plain (answerOfKind s op n) := plain_parts hp
  obtain ⟨hwm, hdv⟩ := setLastsig_flags (objAt s n) r.obj (some f.agent)
  rw [exec_requestOf ho]
  refine grant_ok h (actsByKind_other ho) (Kept.refl _).tcTouch.withObject (fun hb w => ?_)
  let t : State := withHb hb (tcTouch f.ctx f.handle (granted f.ctx s))
  obtain ⟨b, hev⟩ := evalKind_plain (s := t) (q := false) hl hh pl
  have e : evalKind false op n t = ({ status := stOk, a := if o = opCas then (objAt s n).value else o'.value
                                      b := objB o', walk := true, bumped := b }, withObject n o' t) := hev
  have ht := withHb_withObject hb n o' (tcTouch f.ctx f.handle (granted f.ctx s))
  rw [granted_pass h (objOpcode_actsByKind ho) (arrives_actsByKind ho) hr,
    evalObj_actsByKind (s := t) ho (kindUnfit_ok (s := t) hk pl.status), e]
  rw [ht] at w ⊢
  dsimp only
  refine endPass_plain w ?_ ?_ ?_ ?_
  · rw [objAt_withObject]; exact hdv.trans pl.diverged
  · rw [objAt_withObject]; exact hwm.trans pl.wmark
  · rw [listAt_withObject]; exact hl
  · obtain ⟨l, el⟩ := withObject_eq n o' t
    rw [el]; exact q.walks

/-- Settles O7: the kind's status goes out with the object's unchanged fields. -/
theorem objectOperationRefused : Obligations.ObjectOperationRefused := by
  unfold Obligations.ObjectOperationRefused
  intro o p f s n op r hact h hr hb hl hm h0 hv
  have ho : actsByKind o := hact
  rw [exec_requestOf ho]
  refine grant_refused h (actsByKind_other ho) (Kept.refl _).tcTouch h0 hv (fun x => ?_)
  let t : State := withHb x (tcTouch f.ctx f.handle (granted f.ctx s))
  rw [granted_pass h (objOpcode_actsByKind ho) (arrives_actsByKind ho) hr,
    evalObj_actsByKind (s := t) ho (kindUnfit_builtin (s := t) hb), evalKind_refused (s := t) hl h0]
  exact endPass_answer (fun e => absurd e h0)

/-! ## The end of an incarnation (02 R54, R59; 05 R139, R140, R144) -/

section

variable {s : State}

/-- An agent on whose chain nothing is has no WATCH unanswered. -/
theorem unanswered_unchained {a : AgentId} {i : Byte} (h : chainOf s a = []) : unanswered s a i = false := by
  rw [unanswered, List.any_eq_false]
  intro e he hc
  have hn := List.filter_eq_nil_iff.mp h e he
  split at hc
  · simp_all
  · simp at hc

/-- Whether a WATCH is unanswered shows in the watch table alone. -/
theorem unanswered_withAg (g : Machine.Agents) (a : AgentId) (i : Byte) : unanswered { s with ag := g } a i = unanswered s a i := rfl

/-- The one MOVE, with nothing left to wait for, is answered and its stub's lifetime begins. -/
theorem movesDone_single {m : Mv} (hm : s.ag.moves = [m]) (hr : s.ag.resets = []) (hw : m.wait = [])
    (hu : unanswered s m.x m.xi = false) : movesDone s = answerZ m.op stOk { s with ag := { s.ag with
      moves := [], resets := []
      stubs := s.ag.stubs.map (fun b => if b.live ∧ b.x = m.x ∧ b.xi = m.xi then { b with started := true } else b) } } := by
  simp [movesDone, hm, hr, hw, hu, unanswered_withAg]

/-- A reset that waits for nothing is over at once. -/
theorem movesDone_reset {r : RstWait} (hm : s.ag.moves = []) (hr : s.ag.resets = [r]) (hw : r.wait = [])
    (hu : unanswered s r.agent r.inc = false) : movesDone s = { s with ag := { s.ag with moves := [], resets := [] } } := by
  simp [movesDone, hm, hr, hw, hu]

/-- The agents once agent `x` has moved to `y`. -/
def movedAgents (x y : AgentId) (s : State) : Machine.Agents :=
  { s.ag with
    inc := tput 0 s.ag.inc (localIx x) (incOf s x + 1)
    notif := terase s.ag.notif (localIx x)
    hold := terase s.ag.hold (localIx x)
    stubs := (s.ag.stubs ++ [({ x, xi := incOf s x, y, yi := incOf s y } : Stub)]).map (fun b =>
      if b.live ∧ b.x = x ∧ b.xi = incOf s x then { b with started := true } else b) }

/-- A MOVE of an agent on whose chain nothing is, while no other runs, is done at once. -/
theorem moveOp_unchained {op : Op} (hp : op.agent = op.b.setWidth 30 ∨ op.ctx = 0) (hm : s.ag.moves = [])
    (hb : (s.ag.stubs.filter (·.live)).length < 64) (hc : chainOf s (op.a.setWidth 30) = []) (hr : s.ag.resets = [])
    (hx : resetPending s (localIx (op.a.setWidth 30)) = false) (hy : resetPending s (localIx (op.b.setWidth 30)) = false) :
    moveOp op s = answerZ op stOk { s with ag := movedAgents (op.a.setWidth 30) (op.b.setWidth 30) s } := by
  have hu : ∀ i, unanswered s (op.a.setWidth 30) i = false := fun i => unanswered_unchained hc
  unfold moveOp
  simp only
  rw [if_neg (by tauto), if_neg (by simp [hm, hx, hy, hb])]
  have hc' : ∀ g, chainOf { s with ag := g } (op.a.setWidth 30) = [] := fun g => hc
  simp only [bumpInc, hc', List.foldl_nil]
  refine (movesDone_single (m := { op, x := op.a.setWidth 30, xi := incOf s (op.a.setWidth 30), y := op.b.setWidth 30
                                   yi := incOf s (op.b.setWidth 30), wait := [] }) ?_ ?_ rfl ?_).trans ?_
  · rw [hm]; rfl
  · exact hr
  · exact hu _
  · simp only [movedAgents, hm, hr]

end

theorem localIx_append (d : DieId) (ix : BitVec 10) : localIx (d ++ ix) = ix.toNat := by
  have h := ix.isLt
  rw [localIx, BitVec.toNat_append, ← Nat.shiftLeft_add_eq_or_of_lt h, Nat.shiftLeft_eq]
  omega

theorem abortAllOpen_none {s : State} {p : QRec → Bool} {c : Nat} (h : s.qu.recs = []) : abortAllOpen p c s = s := by
  simp [abortAllOpen, h]

/-- The state after the reset of an agent that nothing waits for (02 R59). -/
def resetOf (ix : BitVec 10) (s : State) : State :=
  { s with
    hb := { s.hb with
      bursts := s.hb.bursts.filter (fun b => localIx b.f.agent != ix.toNat)
      burstDiscard := min 0xFFFF (s.hb.burstDiscard + (s.hb.bursts.filter (fun b => localIx b.f.agent == ix.toNat)).length) }
    res := { s.res with stuck := s.res.stuck.filter (fun e => !(e.1 == 0 && e.2 / 8 == ix.toNat)) }
    ag := { s.ag with
      inc := tput 0 s.ag.inc ix.toNat (tgetD s.ag.inc ix.toNat 0 + 1)
      notif := terase s.ag.notif ix.toNat
      hold := terase s.ag.hold ix.toNat
      pendUntil := tset s.ag.pendUntil ix.toNat (s.clk.cycle + 1)
      depth := terase s.ag.depth ix.toNat
      pa := terase s.ag.pa ix.toNat } }

theorem agentReset_unchained {s : State} {ix : BitVec 10} (hq : s.qu.recs = []) (hc : chainOf s (myDie s ++ ix) = [])
    (hm : s.ag.moves = []) (hr : s.ag.resets = []) : agentReset ix s = resetOf ix s := by
  have hu : ∀ i, unanswered s (myDie s ++ ix) i = false := fun i => unanswered_unchained hc
  have hl : localIx (myDie s ++ ix) = ix.toNat := localIx_append ..
  unfold agentReset
  simp only [notePending, openQops, hq, bumpInc, dropBursts, hl, List.foldl_nil]
  rw [abortAllOpen_none (by exact hq)]
  simp only [show ∀ (b : Headbox) (g : Machine.Agents) (r : Resil), chainOf { s with hb := b, ag := g, res := r } (myDie s ++ ix) = []
    from fun _ _ _ => hc, List.foldl_nil]
  refine (movesDone_reset (r := { agent := myDie s ++ ix, inc := incOf s (myDie s ++ ix), wait := [] }) ?_ ?_ rfl ?_).trans ?_
  · exact hm
  · rw [hr]; rfl
  · exact hu _
  · simp only [resetOf, hm, hr, incOf, hl]

/-- A write of GS_AGENT_RST resets the agent whose index it carries. -/
theorem regPut_agentReset (c : Acc) (ix : BitVec 10) (s : State) :
    regPut c 0x1000 (BitVec.ofNat 32 ix.toNat) s = agentReset ix s := by
  have e : (BitVec.ofNat 32 ix.toNat).setWidth 10 = ix := by bv_omega
  exact congrArg (agentReset · s) e

/-- Settles O23: with nothing on the agent's chain there is no answer to wait for, so that the MOVE and the reset are over in their
cycle. -/
theorem moveAndResetComplete : Obligations.MoveAndResetComplete := by
  unfold Obligations.MoveAndResetComplete
  refine ⟨?_, ?_⟩
  · intro p f s x y stub g h hp hm hb hc hr hx hy
    refine grant_ok (T := { g with ag := movedAgents x y g }) h (by decide) ⟨⟨rfl, rfl, rfl⟩, rfl, rfl⟩ (fun hd _ => ?_)
    have e : enterAll (withHb hd g) = withHb hd g := enterAll_empty (resting (grantable_parts h).rest).entering
    exact (congrArg (carryBare (opOf opMove f none)) e).trans (moveOp_unchained (s := withHb hd g) hp hm hb hc hr hx hy)
  · intro acc ix s h hq hc _ hm hr
    refine ⟨_, rfl, still_write (x := { acc, wr := true, addr := BitVec.ofNat 23 (0x1000 / 4), data := BitVec.ofNat 32 ix.toNat })
      (v := 0) h rfl rfl rfl ?_ ?_ rfl rfl⟩
    · exact congrArg wrote ((regPut_agentReset acc ix (tick s)).trans (agentReset_unchained (s := tick s) hq hc hm hr))
    · exact (served_parts h).rest

/-! ## Statements that a state of theirs breaks -/

/-- What shows in the state that an instruction ends in. -/
def shown {α : Type} (f : State → α) : Host.Outcome State Fault Refusal → Option α
  | .next u => some (f u)
  | _ => none

/-- A claim about where an instruction ends fails when a field of that state, which `still` and `stillArb` keep, shows another value. -/
theorem refuted_by_shown {α : Type} {f : State → α} {o : Host.Outcome State Fault Refusal} {g : State → State} {t : State} {x : α}
    (claim : ∃ u, o = .next u ∧ g u = g t) (hg : ∀ u, f (g u) = f u) (he : shown f o = some x) : f t = x := by
  obtain ⟨u, rfl, hs⟩ := claim
  rw [← hg, ← hs, hg]
  exact Option.some.inj he

/-- A running die, with context 0 LIVE. -/
def runningDie : State :=
  { State.reset with
    boot := { State.reset.boot with phase := .run }
    ctx := { State.reset.ctx with tab := [(0, { state := .live })] }
    kt := { State.reset.kt with done := true } }

/-- The D2D stream to a peer, UP. -/
def streamTo (d : DieId) : Machine.Stream :=
  { eth := false, idx := 1, peer := d, pinned := true, st := .up, mySession := 3, peerSession := 4, credit := 8, granted := 8 }

/-- The header of the next sequenced frame of that stream. -/
def headerFrom (d : DieId) : FHdr := { sq := true, src := d, dst := 0, session := 4, credit := 8 }

/-- The running die, with a request of opcode 0x15 in the order of responses, as none of its steps leaves it: an undefined opcode
names no object and takes no place there. -/
def misplacedDie : State :=
  { runningDie with hb := { runningDie.hb with order := [placeOf (opOf 0x15 {} none)] } }

/-- The answer UNDEF_OP is taken for that request's, which leaves the order. -/
theorem misplacedDie_clears : shown (·.hb.order.length) (exec (.undefinedOpcode 0 0x15 {}) misplacedDie) = some 0 := by
  decide +kernel

/-- Refutes O4, which does not ask that no request awaits an answer: where the order holds a request that the answer fits, the
answer takes it out, and the statement has the order as it was. -/
theorem not_undefinedOpcodeRefused : ¬ Obligations.UndefinedOpcodeRefused := by
  unfold Obligations.UndefinedOpcodeRefused
  intro h
  have claim := h 0 0x15 {} misplacedDie
  iterate 6 specialize claim (by decide +kernel)
  exact absurd (refuted_by_shown claim (fun _ => rfl) misplacedDie_clears) (by decide +kernel)

/-- An ARM's first flit: the condition is VALUE not below 9. -/
def openArm : MeshFlit := { port := 0, opcode := opArm, f := { more := true, a := 9 } }

/-- A user kind of one STATE and no rows. -/
def oneStateKind : UKind :=
  { code := 0x40, nstates := 1, init := 0, cgop := 0, cgl := 0, cgr := 0, kfmask := 0, irqEn := false, linkEn := false, irqsrc := 0
    linkoff := 0, name := 0, cs := [0, 0, 0, 0], rows := [] }

/-- An object of that kind in STATE 5. -/
def unfitObj : Obj := { kind := 0x40, state := 5 }

/-- A running die with the object in slot 5, its translation cached, the burst open and launch queue 0 enabled. -/
def unfitDie : State :=
  { runningDie with
    vat := { runningDie.vat with slots := [(5, { a := { obj := unfitObj }, b := { obj := unfitObj } })] }
    xl := { runningDie.xl with cache := [{ ctx := 0, handle := 0, x := { w0 := BitVec.ofNat 64 (1 + 0xFC + 2 ^ 8 * 5) } }] }
    kt := { runningDie.kt with kinds := [oneStateKind] }
    hb := { runningDie.hb with bursts := [openArm] }
    la := { runningDie.la with queues := runningDie.la.queues.set 0 { en := true, logsize := 4 } } }

/-- No descriptor is stored. -/
theorem unfitDie_storesNone : shown (·.la.descs.length) (exec (.burstContinuation 0 opArm {}) unfitDie) = some 0 := by
  decide +kernel

/-- Refutes O12, whose second clause asks that the object's kind is defined but not that the kind has the object's STATE: an ARM on an
object in a STATE that it has not, which a fault can leave, is answered KIND_REJECT (04 R107). -/
theorem not_armAndBurstComplete : ¬ Obligations.ArmAndBurstComplete := by
  unfold Obligations.ArmAndBurstComplete
  rintro ⟨-, h, -⟩
  have claim := h openArm 0 {} unfitDie 5 0 false 0
  iterate 10 specialize claim (by decide +kernel)
  exact absurd (refuted_by_shown claim (fun _ => rfl) unfitDie_storesNone) (by decide +kernel)

/-- An UNWATCH of entry 9, forwarded to die 1. -/
def sentUnwatch : Op := { opcode := opUnwatch, agent := 0, ctx := 0, a := 9 }

/-- Its answer. -/
def unwatchAnswer : OutFlit := { cls := 1, opcode := opUnwatch, agent := 0, inc := 0, status := stOk, a := 0 }

/-- The watch at die 1 that it takes back. -/
def farWatch : Watch := { slot := 5, cond := 0, comparand := 9, target := 0, tinc := 0, cookie := 0, ctx := 0, handle := 0 }

/-- A running die that awaits the answer and holds the watch's MIRROR. -/
def unwatchingDie : State :=
  { runningDie with
    felt := { runningDie.felt with streams := [streamTo 1] }
    hb := { runningDie.hb with remote := [sentUnwatch], order := [placeOf sentUnwatch] }
    wt := { runningDie.wt with entries := [(4, .mirror farWatch 1 (some 9) { opcode := opWatch, agent := 0, ctx := 0 })] } }

/-- The answer frees the MIRROR. -/
theorem unwatchingDie_frees : shown (·.wt.entries.length) (exec (.flit (headerFrom 1) unwatchAnswer) unwatchingDie) = some 0 := by
  decide +kernel

/-- Refutes O45, whose first clause excludes the answers to a WATCH but not those to an UNWATCH, which free the MIRROR. -/
theorem not_deliveryFramesComplete : ¬ Obligations.DeliveryFramesComplete := by
  unfold Obligations.DeliveryFramesComplete
  rintro ⟨h, -⟩
  have claim := h (headerFrom 1) unwatchAnswer unwatchingDie sentUnwatch
  iterate 10 specialize claim (by decide +kernel)
  exact absurd (refuted_by_shown claim (fun _ => rfl) unwatchingDie_frees) (by decide +kernel)

/-- A barrier of machine scope. -/
def machineBarrier : W32 := 0x40000000

/-- The die's record of an arrival at it, reported. -/
def reportedRec : DieRec :=
  { ctx := 0, handle := machineBarrier, epoch := 7, count := 1, opcode := opArrive, lanes := none
    x := { w0 := BitVec.ofNat 64 (1 + 0xFC + 2 ^ 8 * 5) }, reported := true }

/-- The arrival. -/
def reportedArrival : PendArr :=
  { id := 2, op := { opcode := opArrive, agent := 3, ctx := 0, handle := machineBarrier }, slot := none, epoch := 7, weight := 1 }

/-- The die that serves the package role of a package of two, with streams to its neighbour and to a die of the other package. -/
def packageDie : State :=
  { runningDie with
    boot := { runningDie.boot with topo := { runningDie.boot.topo with dies := 2, packages := 2, pkgDie := 0 } }
    felt := { runningDie.felt with streams := [streamTo 16, streamTo 1] }
    couch := { runningDie.couch with recs := [reportedRec], pend := [reportedArrival] } }

/-- The refusal goes on to the neighbour: a frame is sent. -/
theorem packageDie_relays : shown (·.felt.fid) (exec (.refusal (headerFrom 16) machineBarrier 0 stDeckleGone 9) packageDie) = some 1 := by
  decide +kernel

/-- Refutes O46, whose third clause leaves out that a die of the package role passes a REFUSAL from outside its package on to the
package's other dies (06 R152). -/
theorem not_treeFramesComplete : ¬ Obligations.TreeFramesComplete := by
  unfold Obligations.TreeFramesComplete
  rintro ⟨-, -, h⟩
  have claim := h (headerFrom 16) machineBarrier 0 stDeckleGone 9 packageDie reportedRec reportedArrival
  iterate 12 specialize claim (by decide +kernel)
  exact absurd (refuted_by_shown claim (fun _ => rfl) packageDie_relays) (by decide +kernel)

end Sys2Proof.Proofs.Messages
end

section
/-! Objects and their built-in kinds (03): a zero amount, an operation that its kind lets wait, what each kind promises of its fields,
arrivals at a BARRIER or STEPAGREE, and the object commands. -/

namespace Sys2Proof.Proofs.Objects

open Sys2Proof Sys2Proof.Machine Sys2Proof.Laws Sys2Proof.Proofs.Scope Sys2Proof.Proofs.Organisation Sys2Proof.Proofs.Messages

/-! ## A cycle of one grant (06 R160, R161) -/

section

variable {s T : State}

/-- The Headbox has nothing to grant. -/
structure Spent (s : State) : Prop where
  waiting : s.hb.waiting = []
  link : s.hb.link = []
  chains : s.hb.chains = []
  regq : s.hb.regq = []

theorem spent_resting (q : Resting s) : Spent s := ⟨q.waiting, q.link, q.chains, q.regq⟩

/-- The slots of a cycle after one that leaves nothing to grant: what is taken in enters its slot. -/
theorem grantCycle_once {c : Bool} {v : State} (h : grantSlot c (countCycle s) = v) (q : Spent v) : grantCycle c s = enterAll v := by
  have hid : grantSlot c v = v := grantSlot_empty _ q.waiting q.link q.chains q.regq
  simp only [grantCycle, List.range_succ, List.range_zero, List.nil_append, List.foldl_append, List.foldl_cons, List.foldl_nil, h, hid]

/-- A cycle whose grants leave `T` but for what `stillArb` does not see of the Headbox. -/
theorem inCycle_leads {f : State → State} {u : State} {hd : Headbox} (hf : f (tick s) = u) (hu : u.regp.meshMap = s.regp.meshMap)
    (he : still (settle (!s.hb.chains.isEmpty) u) = still (withHb hd T)) (hk : Kept (tick s) T)
    (hh : stillArb (withHb hd T) = stillArb T) : Leads (.next (inCycle f s)) T := by
  refine ⟨_, rfl, (still_arb ?_).trans hh⟩
  have hid : withMap s.regp.meshMap u = u := by rw [← hu]; rfl
  have hm : u.regp.meshMap = (withHb hd T).regp.meshMap := hu.trans hk.map.symm
  have e : still (inCycle f s) = { still (withMap u.regp.meshMap (withHb hd T)) with
      pending := s.pending, kt := { (withMap u.regp.meshMap (withHb hd T)).kt with kinds := s.kt.kinds } } := by
    unfold inCycle
    apply still_putBack (u := withMap u.regp.meshMap (withHb hd T))
    rw [hf, hid, still_withMap, still_withMap, he]
  rw [e, hm, show s.pending = T.pending from hk.pending.symm, show s.kt.kinds = T.kt.kinds from hk.kinds.symm]
  rfl

end

/-! ## A zero count or amount (03 R68) -/

section

variable {ks : List UKind} {o : Obj} {q : List QEnt} {op : Op} {who : Option AgentId}

theorem kindStep_zero (hb : isBuiltin o.kind = true) (hz : zeroRefused o op = true) :
    kindStep ks o q op who = refuse o stKindReject := if_pos (by simp [hb, hz])

theorem zeroRefused_zero (ha : op.a = 0) (ho : op.opcode = opSignal ∨ op.opcode = opTake ∨ op.opcode = opGive)
    (hne : ¬(op.opcode = opSignal ∧ o.kind = kEvent)) : zeroRefused o op = true := by
  simp only [zeroRefused, ha, beq_self_eq_true, Bool.true_and, Bool.or_eq_true, Bool.and_eq_true, beq_iff_eq, bne_iff_ne]
  tauto

theorem zeroRefused_signalEvent (hk : o.kind = kEvent) (ho : op.opcode = opSignal) : zeroRefused o op = false := by
  simp [zeroRefused, hk, ho, opSignal, opTake, opGive]

theorem kindStep_signalEvent (hk : o.kind = kEvent) (ho : op.opcode = opSignal) :
    kindStep ks o q op who = eventSet { o with value := o.value + op.a } q := by
  simp [kindStep, kindEvent, zeroRefused_signalEvent hk ho, hk, ho, opSignal, opInvoke, kEvent, kSemaphore, kTokenPool]

end

/-- The requester becomes LASTSIG of an object that its event changed (03 R64). -/
theorem setLastsig_changed {x y : Obj} {a : AgentId} (hk : y.kind ≠ kTicketLock) (hc : { y with lastsig := x.lastsig } ≠ x) :
    setLastsig x y (some a) = { y with lastsig := a } := by
  simp [setLastsig, hk, hc]

/-- Settles O57: the rule of the zero amount comes before every kind's own (03 R68), and the event's own sets it. -/
theorem zeroAmountRefused : Obligations.ZeroAmountRefused := by
  unfold Obligations.ZeroAmountRefused
  refine ⟨?_, ?_⟩
  · intro o p f s n op ho h hr hb hne hm ha hl
    have hz : zeroRefused (objAt s n) op = true := zeroRefused_zero ha ho hne
    have hs : kindStep (liveKinds s) (objAt s n) [] op (some f.agent) = refuse (objAt s n) stKindReject := kindStep_zero hb hz
    have claim := objectOperationRefused o p f s n (by tauto) h hr hb hl hm
    simp only [show opOf o f none = op from rfl, hs, refuse] at claim
    exact claim (by simp [stKindReject, stOk]) (by simp [stKindReject, stDiverged])
  · intro p f s n op o' h hr hk h0 hm hd ha hl hh
    have hs : kindStep (liveKinds s) (objAt s n) [] op (some f.agent) =
        { obj := { objAt s n with state := 1, epoch := (objAt s n).epoch + 1 } } := by
      rw [kindStep_signalEvent hk rfl]
      simp [eventSet, h0, op, opOf, ha]
    have ho : setLastsig (objAt s n) { objAt s n with state := 1, epoch := (objAt s n).epoch + 1 } (some f.agent) = o' := by
      refine setLastsig_changed (by simp [hk, kEvent, kTicketLock]) (fun e => ?_)
      simpa [h0] using congrArg Obj.state e
    have claim := objectOperationCompletes opSignal p f s n (.inl rfl) h hr (by simp [kindUnknown, hk, kEvent, isBuiltin]) hl hh
    simp only [show opOf opSignal f none = op from rfl, hs, ho] at claim
    exact claim (by simp [plain, hm, hd])

/-! ## What the kinds promise (03 R62, R80-R87) -/

section

variable {ks : List UKind} {o o' : Obj} {q : List QEnt} {op : Op} {who : Option AgentId}

/-! ### The rule that a kind follows -/

/-- An event is refused, or the kind's own rule `r` answers it. -/
def Follows (o : Obj) (r a : KRes) : Prop := a = refuse o stKindReject ∨ a = r

/-- What holds of a refusal and of the rule's answer holds of the answer. -/
theorem Follows.elim {P : KRes → Prop} {r a : KRes} (h : Follows o r a) (h0 : P (refuse o stKindReject)) (hr : P r) : P a := by
  rcases h with rfl | rfl
  · exact h0
  · exact hr

theorem kindStep_tokens (hk : o.kind = kSemaphore ∨ o.kind = kTokenPool) :
    Follows o (kindTokens o q op) (kindStep ks o q op who) := by
  unfold kindStep
  split
  · exact .inl rfl
  · exact .inr rfl

theorem kindStep_event (hk : o.kind = kEvent) : Follows o (kindEvent o q op) (kindStep ks o q op who) := by
  unfold kindStep
  split
  · exact .inl rfl
  · exact .inr (by simp [hk, kEvent, kSemaphore, kTokenPool])

theorem kindStep_fence (hk : o.kind = kFenceCtr) : Follows o (kindFence o op) (kindStep ks o q op who) := by
  unfold kindStep
  split
  · exact .inl rfl
  · exact .inr (by simp [hk, kFenceCtr, kEvent, kSemaphore, kTokenPool])

theorem kindStep_ring (hk : o.kind = kRing) : Follows o (kindRing o q op) (kindStep ks o q op who) := by
  unfold kindStep
  split
  · exact .inl rfl
  · exact .inr (by simp [hk, kRing, kFenceCtr, kEvent, kSemaphore, kTokenPool])

theorem kindStep_mono (hk : o.kind = kMonoPair) : Follows o (kindMono o op) (kindStep ks o q op who) := by
  unfold kindStep
  split
  · exact .inl rfl
  · exact .inr (by simp [hk, kMonoPair, kRing, kFenceCtr, kEvent, kSemaphore, kTokenPool])

theorem kindStep_lock (hk : o.kind = kTicketLock) : Follows o (kindLock o q op who) (kindStep ks o q op who) := by
  unfold kindStep
  split
  · exact .inl rfl
  · exact .inr (by simp [hk, kTicketLock, kMonoPair, kRing, kFenceCtr, kEvent, kSemaphore, kTokenPool])

/-! ### The fields that no event changes (03 R62) -/

/-- KIND, OWNER, KFLAGS and the FLAGS bits are as they were. -/
def SameFrame (o o' : Obj) : Prop :=
  { o' with state := o.state, epoch := o.epoch, value := o.value, thresh := o.thresh, lastsig := o.lastsig } = o

@[simp] theorem sameFrame_refl : SameFrame o o := rfl

@[simp] theorem sameFrame_put {st : Byte} {e : W32} {v t : W64} {a : AgentId} :
    SameFrame o { o with state := st, epoch := e, value := v, thresh := t, lastsig := a } := rfl

@[simp] theorem tokenState_frame {b : Bool} : SameFrame o (tokenState o' b) ↔ SameFrame o o' := by
  unfold tokenState
  dsimp only
  split_ifs <;> exact .rfl

@[simp] theorem eventSet_frame : SameFrame o (eventSet o' q).obj ↔ SameFrame o o' := by
  unfold eventSet
  dsimp only
  cases q <;> split_ifs <;> exact .rfl

theorem kindTokens_frame : SameFrame o (kindTokens o q op).obj := by
  unfold kindTokens
  dsimp only
  split_ifs <;> simp [refuse]

theorem kindEvent_frame : SameFrame o (kindEvent o q op).obj := by
  unfold kindEvent waitTake
  split_ifs <;> simp [refuse]

theorem kindFence_frame : SameFrame o (kindFence o op).obj := by
  unfold kindFence
  split_ifs <;> rfl

theorem kindRing_frame : SameFrame o (kindRing o q op).obj := by
  unfold kindRing waitTake
  dsimp only
  split_ifs <;> rfl

theorem kindMono_frame : SameFrame o (kindMono o op).obj := by
  unfold kindMono
  dsimp only
  split_ifs <;> rfl

theorem kindLock_frame : SameFrame o (kindLock o q op who).obj := by
  unfold kindLock
  cases q <;> dsimp only <;> split_ifs <;> rfl

theorem kindBarrierSet_frame : SameFrame o (kindBarrierSet o op).obj := by
  unfold kindBarrierSet
  dsimp only
  split_ifs <;> rfl

theorem rowApply_frame {u : UKind} {e : UEv} {w : W64} : SameFrame o (rowApply u o e w) := by
  unfold rowApply
  dsimp only
  split_ifs <;> rfl

theorem kindUser_frame {u : UKind} : SameFrame o (kindUser u o q op).obj := by
  unfold kindUser
  dsimp only
  split
  · exact sameFrame_refl
  · split_ifs
    · exact sameFrame_refl
    · exact sameFrame_refl
    · exact sameFrame_refl
    · split
      · exact sameFrame_refl
      · split_ifs <;> simp [refuse, rowApply_frame]

theorem kindStep_frame : SameFrame o (kindStep ks o q op who).obj := by
  unfold kindStep
  split_ifs
  · exact sameFrame_refl
  · exact kindTokens_frame
  · exact kindEvent_frame
  · exact kindFence_frame
  · exact kindRing_frame
  · exact kindMono_frame
  · exact kindLock_frame
  · exact kindBarrierSet_frame
  · exact sameFrame_refl
  · exact sameFrame_refl
  · split
    · exact sameFrame_refl
    · exact kindUser_frame

/-! ### SEMAPHORE and TOKENPOOL (03 R80, R81) -/

@[simp] theorem tokenState_value {b : Bool} : (tokenState o b).value = o.value := by
  unfold tokenState
  dsimp only
  split_ifs <;> rfl

@[simp] theorem tokenState_thresh {b : Bool} : (tokenState o b).thresh = o.thresh := by
  unfold tokenState
  dsimp only
  split_ifs <;> rfl

theorem serveTokens_le (v : Nat) (q : List QEnt) : (serveTokens v q).1 ≤ v := by
  induction q generalizing v with
  | nil => exact le_rfl
  | cons e q ih =>
    unfold serveTokens
    split_ifs with h
    · exact (ih _).trans (Nat.sub_le _ _)
    · exact le_rfl

/-- THRESH is `t`, and VALUE at or below it. -/
def Bounded (t : W64) (o : Obj) : Prop := o.thresh = t ∧ o.value.toNat ≤ t.toNat

theorem tokenState_bounded {t : W64} {b : Bool} (h : Bounded t o) : Bounded t (tokenState o b) := by
  simpa only [Bounded, tokenState_thresh, tokenState_value] using h

theorem Bounded.put {t v : W64} (h : Bounded t o) (hv : v.toNat ≤ t.toNat) : Bounded t { o with value := v } := ⟨h.1, hv⟩

theorem kindTokens_bounded {t : W64} (ht : t ≠ 0) (h : Bounded t o) : Bounded t (kindTokens o q op).obj := by
  have h0 : o.thresh.toNat ≠ 0 := fun e => ht (h.1.symm.trans (BitVec.eq_of_toNat_eq e))
  obtain ⟨rfl, hv⟩ := id h
  unfold kindTokens
  dsimp only
  split
  · split_ifs with _ hk
    · exact h
    · simp only [Bool.and_eq_true, decide_eq_true_eq] at hk
      exact tokenState_bounded (h.put (by bv_omega))
    · exact h
    · exact tokenState_bounded h
  split
  · split_ifs with hk
    · exact h
    · have hs := serveTokens_le (o.value.toNat + op.a.toNat) q
      exact tokenState_bounded (h.put (by rw [BitVec.toNat_ofNat, Nat.mod_eq_of_lt (by omega)]; omega))
  split
  · split_ifs with _ hk
    · exact h
    · exact h
    · exact tokenState_bounded (h.put (by omega))
  split
  · split_ifs with _ hk
    · exact h
    · exact h
    · exact tokenState_bounded (h.put (by omega))
    · exact h
  · exact h

/-! ### EVENT (03 R82) -/

/-- The event is CLEAR, or it is SET and no TAKE waits. -/
def Unawaited (o : Obj) (q : List QEnt) : Prop := o.state = 0 ∨ (o.state = 1 ∧ q = [])

theorem eventSet_unawaited (h : Unawaited o q) : (eventSet o q).queue = false ∧ Unawaited (eventSet o q).obj q := by
  unfold eventSet
  dsimp only
  cases q with
  | cons e q => exact ⟨rfl, .inl rfl⟩
  | nil =>
    refine ⟨rfl, ?_⟩
    split_ifs with h0
    · exact .inr ⟨rfl, rfl⟩
    · exact h

theorem kindEvent_unawaited (h : Unawaited o q) :
    (kindEvent o q op).obj.state = 0 ∨ ((kindEvent o q op).queue = false ∧ Unawaited (kindEvent o q op).obj q) := by
  unfold kindEvent waitTake
  split_ifs with _ _ _ _ hs
  · exact .inr (eventSet_unawaited h)
  · exact .inr (eventSet_unawaited h)
  · exact .inr ⟨rfl, h⟩
  · exact .inl rfl
  · exact .inr ⟨rfl, h⟩
  · refine .inl (h.resolve_right (fun e => hs ⟨e.1, ?_⟩))
    rw [e.2]; rfl
  · exact .inr ⟨rfl, h⟩
  · exact .inr ⟨rfl, h⟩
  · exact .inr ⟨rfl, h⟩

/-! ### FENCECTR (03 R83) -/

/-- VALUE has not fallen, and the epoch is one up exactly where it has risen. -/
def Raised (o o' : Obj) : Prop :=
  o.value.toNat ≤ o'.value.toNat ∧ o'.epoch = if o.value.toNat < o'.value.toNat then o.epoch + 1 else o.epoch

theorem raised_refl : Raised o o := ⟨le_rfl, by simp⟩

theorem raiseTo_raised {v : W64} (h : o.value.toNat ≤ v.toNat) : Raised o (raiseTo o v) := ⟨h, rfl⟩

theorem kindFence_raised : Raised o (kindFence o op).obj := by
  unfold kindFence
  split_ifs with _ hs _ ha _ hb hv
  · exact raised_refl
  · exact raiseTo_raised (by bv_omega)
  · exact raised_refl
  · exact raiseTo_raised (by omega)
  · exact raised_refl
  · exact raiseTo_raised (by rw [hv]; omega)
  · exact raised_refl
  · exact raised_refl

/-! ### RING (03 R84) -/

/-- The counters of a RING of size `n` and mark `m` in order. -/
structure InOrder (n m : Nat) (r : RingV) : Prop where
  size : r.n = n
  mark : r.m = m
  freed : r.f ≤ r.c
  taken : r.c ≤ r.h
  room : r.h ≤ r.n + r.f
  below : r.h ≤ r.m

section

variable {n m k : Nat} {r : RingV}

theorem InOrder.signal (h : InOrder n m r) (hk : ringRoom r k = true) : InOrder n m { r with h := r.h + k } := by
  simp only [ringRoom, Bool.and_eq_true, decide_eq_true_eq] at hk
  exact { h with taken := h.taken.trans (Nat.le_add_right _ _), room := hk.1, below := hk.2 }

theorem InOrder.take (h : InOrder n m r) (hk : r.c + k ≤ r.h) : InOrder n m { r with c := r.c + k } :=
  { h with freed := h.freed.trans (Nat.le_add_right _ _), taken := hk }

theorem InOrder.give (h : InOrder n m r) (hk : r.f + k ≤ r.c) : InOrder n m { r with f := r.f + k } :=
  { h with freed := hk, room := h.room.trans (Nat.add_le_add_left (Nat.le_add_right _ _) _) }

theorem InOrder.restart (h : InOrder n m r) : InOrder n m { r with h := 0, c := 0, f := 0 } :=
  { h with freed := le_rfl, taken := le_rfl, room := Nat.zero_le _, below := Nat.zero_le _ }

end

theorem serveClass_keeps {P : RingV → Prop} {ok : RingV → Nat → Bool} {upd : RingV → Nat → RingV}
    (hs : ∀ r k, P r → ok r k = true → P (upd r k)) (l : List QEnt) {r : RingV} (h : P r) : P (serveClass ok upd r l).1 := by
  induction l generalizing r with
  | nil => exact h
  | cons e l ih =>
    unfold serveClass
    split_ifs with hk
    · exact ih (hs r _ h hk)
    · exact h

theorem serveRing_inOrder {n m : Nat} (fuel : Nat) {r : RingV} (cons prod : List QEnt) (h : InOrder n m r) :
    InOrder n m (serveRing fuel r cons prod).1 := by
  induction fuel generalizing r cons prod with
  | zero => exact h
  | succ fuel ih =>
    have hc := serveClass_keeps (P := InOrder n m) (ok := fun r k => decide (r.c + k ≤ r.h))
      (upd := fun r k => { r with c := r.c + k }) (fun r k h hk => h.take (of_decide_eq_true hk)) cons h
    have hp := serveClass_keeps (P := InOrder n m) (ok := ringRoom)
      (upd := fun r k => { r with h := r.h + k }) (fun r k h hk => h.signal hk) prod hc
    unfold serveRing
    dsimp only
    split_ifs
    · exact hp
    · exact ih _ _ hp

/-- What `ringFit` says. -/
theorem ringFit_iff : ringFit o = true ↔ 1 ≤ (ringOf o).n ∧ (ringOf o).m ≤ 2 ^ 31 ∧ InOrder (ringOf o).n (ringOf o).m (ringOf o) ∧
    o.state = (if (ringOf o).h = (ringOf o).m then 1 else 0) := by
  simp only [ringFit, Bool.and_eq_true, decide_eq_true_eq, beq_iff_eq]
  constructor
  · rintro ⟨⟨⟨⟨⟨⟨hn, hm⟩, hf⟩, hc⟩, hr⟩, hb⟩, hs⟩
    exact ⟨hn, hm, ⟨rfl, rfl, hf, hc, hr, hb⟩, hs⟩
  · rintro ⟨hn, hm, ⟨-, -, hf, hc, hr, hb⟩, hs⟩
    exact ⟨⟨⟨⟨⟨⟨hn, hm⟩, hf⟩, hc⟩, hr⟩, hb⟩, hs⟩

/-- Counters below 2^32 are read as they were written. -/
theorem ringOf_ringPut {r : RingV} (hn : r.n = (ringOf o).n) (hm : r.m = (ringOf o).m) (hh : r.h < 2 ^ 32) (hc : r.c < 2 ^ 32)
    (hf : r.f < 2 ^ 32) : ringOf (ringPut o r) = r := by
  have hn' : r.n < 2 ^ 32 := by rw [hn]; exact Nat.mod_lt _ (by decide)
  have e (x y : Nat) (hx : x < 2 ^ 32) (hy : y < 2 ^ 32) : fld (BitVec.ofNat 64 (x + 2 ^ 32 * y)).toNat 0 32 = x ∧
      fld (BitVec.ofNat 64 (x + 2 ^ 32 * y)).toNat 32 32 = y := by
    simp only [fld, BitVec.toNat_ofNat, Nat.shiftRight_eq_div_pow]
    omega
  obtain ⟨eh, ec⟩ := e r.h r.c hh hc
  obtain ⟨en, ef⟩ := e r.n r.f hn' hf
  have em : r.n * 2 ^ (o.kflags.toNat % 16) = r.m := by rw [hm, hn]; rfl
  simp only [ringOf, ringPut, eh, ec, en, ef, em]

theorem ringFit_ringPut {r : RingV} (h : ringFit o = true) (hr : InOrder (ringOf o).n (ringOf o).m r) :
    ringFit (ringPut o r) = true := by
  obtain ⟨hn, hm, -, -⟩ := ringFit_iff.mp h
  obtain ⟨en, em, hf, hc, -, hb⟩ := id hr
  have e : ringOf (ringPut o r) = r := ringOf_ringPut en em (by omega) (by omega) (by omega)
  rw [ringFit_iff, e, en, em]
  exact ⟨hn, hm, hr, by rw [← em]; rfl⟩

/-- Serving the list of a RING that fits. -/
theorem serveRing_fit {r : RingV} (fuel : Nat) (cons prod : List QEnt) (h : ringFit o = true) (hr : InOrder (ringOf o).n (ringOf o).m r) :
    ringFit (ringPut o (serveRing fuel r cons prod).1) = true := ringFit_ringPut h (serveRing_inOrder fuel cons prod hr)

theorem kindRing_fit (h : ringFit o = true) : ringFit (kindRing o q op).obj = true := by
  obtain ⟨-, -, hr, -⟩ := ringFit_iff.mp h
  unfold kindRing waitTake
  dsimp only
  split
  · split_ifs with _ hk
    · exact h
    · rw [Bool.and_eq_true] at hk
      exact serveRing_fit _ _ _ h (hr.signal hk.2)
    · exact h
  split
  · split_ifs with _ hk
    · exact h
    · rw [Bool.and_eq_true, decide_eq_true_eq] at hk
      exact ringFit_ringPut h (hr.take hk.2)
    · exact h
    · exact h
  split
  · split_ifs with hk hm
    · exact h
    · exact serveRing_fit (o := { o with epoch := o.epoch + 1 }) _ _ _ h hr.restart
    · exact serveRing_fit _ _ _ h (hr.give (Nat.le_of_not_lt hk))
  · exact h

/-! ### MONOPAIR (03 R85) -/

/-- C at or below P, and P at or below C + b. -/
def Paired (b : Nat) (o : Obj) : Prop := o.thresh.toNat ≤ o.value.toNat ∧ o.value.toNat ≤ o.thresh.toNat + b

theorem kindMono_paired (h : Paired (o.kflags.toNat + 1) o) : Paired (o.kflags.toNat + 1) (kindMono o op).obj := by
  obtain ⟨hc, hp⟩ := id h
  unfold kindMono
  dsimp only
  split_ifs with _ hs _ hg
  · exact h
  · simp only [Paired, BitVec.toNat_add]; omega
  · exact h
  · simp only [Paired, BitVec.toNat_add]; omega
  · exact h

/-! ### TICKETLOCK (03 R87) -/

/-- The next ticket to be drawn. -/
def ticketOf (o : Obj) : BitVec 32 := o.value.extractLsb' 0 32

/-- The ticket served. -/
def servedOf (o : Obj) : BitVec 32 := o.value.extractLsb' 32 32

/-- What `lockFit` says. -/
theorem lockFit_iff {k : Nat} : lockFit o k = true ↔
    (o.state = 0 ∧ ticketOf o = servedOf o ∧ k = 0) ∨ (o.state = 1 ∧ ticketOf o = servedOf o + 1 + BitVec.ofNat 32 k) := by
  simp only [lockFit, ticketOf, servedOf, Bool.or_eq_true, Bool.and_eq_true, beq_iff_eq, and_assoc]

theorem ticketOf_lockPut (x s : BitVec 32) (st : Byte) : ticketOf (lockPut o x s st) = x := BitVec.extractLsb'_append_eq_right

theorem servedOf_lockPut (x s : BitVec 32) (st : Byte) : servedOf (lockPut o x s st) = s := BitVec.extractLsb'_append_eq_left

theorem lockFit_held (o : Obj) {x s : BitVec 32} {k : Nat} (h : x = s + 1 + BitVec.ofNat 32 k) : lockFit (lockPut o x s 1) k = true :=
  lockFit_iff.mpr (.inr ⟨rfl, by rw [ticketOf_lockPut, servedOf_lockPut, h]⟩)

theorem lockFit_free {x : BitVec 32} : lockFit (lockPut o x x 0) 0 = true :=
  lockFit_iff.mpr (.inl ⟨rfl, by rw [ticketOf_lockPut, servedOf_lockPut], rfl⟩)

/-- The TAKEs that wait after an answer. -/
def waitingAfter (q : List QEnt) (r : KRes) : Nat := q.length + (if r.queue then 1 else 0) - r.grants.length

theorem kindLock_fit (h : lockFit o q.length = true) :
    lockFit (kindLock o q op who).obj (waitingAfter q (kindLock o q op who)) = true := by
  have free : o.state ≠ 1 → ticketOf o = servedOf o ∧ q.length = 0 := fun e => by
    have := lockFit_iff.mp h
    tauto
  have held : o.state ≠ 0 → ticketOf o = servedOf o + 1 + BitVec.ofNat 32 q.length := fun e => by
    have := lockFit_iff.mp h
    tauto
  unfold kindLock
  dsimp only
  split
  · split_ifs with _ h1
    · exact h
    · exact h
    · have e := held (by rw [h1]; decide)
      exact lockFit_held o (x := ticketOf o + 1) (s := servedOf o) (k := q.length + 1) (by rw [e]; bv_omega)
    · obtain ⟨e, el⟩ := free h1
      exact lockFit_held o (x := ticketOf o + 1) (s := servedOf o) (k := q.length) (by rw [e, el]; bv_omega)
  split
  · split_ifs with hr
    · exact h
    · have e := held (by tauto)
      cases q with
      | nil =>
        have e : ticketOf o = servedOf o + 1 := by rw [e]; exact BitVec.add_zero _
        exact (congrArg (fun x => lockFit (lockPut o x (servedOf o + 1) 0) 0) e).trans lockFit_free
      | cons f q =>
        exact lockFit_held o (x := ticketOf o) (s := servedOf o + 1) (k := q.length) (by
          rw [e, List.length_cons]
          bv_omega)
  · exact h

end

/-- Settles O56: a refusal changes nothing, and each kind's rule keeps what the kind promises. -/
theorem kindRulesKept : Obligations.KindRulesKept := by
  unfold Obligations.KindRulesKept
  refine ⟨?_, ?_, ?_, ?_, ?_, ?_, ?_⟩
  · intro ks o q op who r _
    exact kindStep_frame
  · intro ks o q op who r hk ht hv _
    exact (kindStep_tokens hk).elim (P := fun r => Bounded o.thresh r.obj) ⟨rfl, hv⟩ (kindTokens_bounded ht ⟨rfl, hv⟩)
  · intro ks o q op who r hk _
    exact (kindStep_fence hk).elim (P := fun r => Raised o r.obj) raised_refl kindFence_raised
  · intro ks o q op who r hk h _
    have e := (kindStep_event (ks := ks) (q := q) (op := op) (who := who) hk).elim
      (P := fun r => r.obj.state = 0 ∨ (r.queue = false ∧ Unawaited r.obj q)) (.inr ⟨rfl, h⟩) (kindEvent_unawaited h)
    have e : r.obj.state = 0 ∨ (r.queue = false ∧ Unawaited r.obj q) := e
    unfold Unawaited at e
    tauto
  · intro ks o q op who r hk h _
    exact (kindStep_ring hk).elim (P := fun r => ringFit r.obj = true) h (kindRing_fit h)
  · intro ks o q op who r hk hc hp _
    exact (kindStep_mono hk).elim (P := fun r => Paired (o.kflags.toNat + 1) r.obj) ⟨hc, hp⟩ (kindMono_paired ⟨hc, hp⟩)
  · intro ks o q op who r hk h _
    exact (kindStep_lock hk).elim (P := fun r => lockFit r.obj (waitingAfter q r) = true) h (kindLock_fit h)

/-! ## An operation that waits (03 R66, 05 R138) -/

/-- The entry that a request takes next (05 R121). -/
def nextEntry (s : State) : Nat := lowestFreeFrom s.wt.entries 0

/-- The object as the kind's rule leaves it, and the operation at the tail of its list. -/
def linked (op : Op) (n : Nat) (s : State) : State :=
  linkTail n (nextEntry s) (putEntry (nextEntry s) (.queued n op none) (putObj n (objectAfter s op n) s))

/-- The same with the update sequence raised (03 R61). -/
def enqueued (op : Op) (n : Nat) (s : State) : State := bumpIf n (bytesAt s n) (linked op n s)

section

variable {op : Op} {n : Nat} {s t : State}

theorem withHb_bumpIf (h : Headbox) (n : Nat) (x : Obj × Nat) (s : State) : withHb h (bumpIf n x s) = bumpIf n x (withHb h s) :=
  apply_ite (withHb h) ..

/-- The sequence raised leaves all but the slots as it was. -/
theorem bumpIf_eq (n : Nat) (x : Obj × Nat) (s : State) : ∃ l, bumpIf n x s = { s with vat := { s.vat with slots := l } } := by
  unfold bumpIf
  split_ifs <;> exact ⟨_, rfl⟩

theorem bumpIf_wt (n : Nat) (x : Obj × Nat) (s : State) : (bumpIf n x s).wt = s.wt := by
  obtain ⟨l, e⟩ := bumpIf_eq n x s
  rw [e]

theorem bumpIf_eg (n : Nat) (x : Obj × Nat) (s : State) : (bumpIf n x s).eg = s.eg := by
  obtain ⟨l, e⟩ := bumpIf_eq n x s
  rw [e]

theorem kept_bumpIf {x : Obj × Nat} (h : Kept s t) : Kept s (bumpIf n x t) := by
  obtain ⟨l, e⟩ := bumpIf_eq n x t
  rw [e]
  exact h.trans ⟨⟨rfl, rfl, rfl⟩, rfl, rfl⟩

theorem kept_putSlot (n : Nat) (x : Slot) (s : State) : Kept s (putSlot n x s) := ⟨⟨rfl, rfl, rfl⟩, rfl, rfl⟩

theorem kept_putEntry (ix : Nat) (e : Entry) (s : State) : Kept s (putEntry ix e s) := ⟨⟨rfl, rfl, rfl⟩, rfl, rfl⟩

theorem kept_enqueued (h : Kept s t) : Kept s (enqueued op n t) :=
  kept_bumpIf (((h.trans (kept_putSlot ..)).trans (kept_putEntry ..)).trans (kept_putSlot ..))

theorem withHb_enqueued (h : Headbox) : withHb h (enqueued op n s) = enqueued op n (withHb h s) :=
  withHb_bumpIf h n _ (linked op n s)

@[simp] theorem slotAt_putEntry (ix : Nat) (e : Entry) (n : Nat) (s : State) : slotAt (putEntry ix e s) n = slotAt s n := rfl

@[simp] theorem slotAt_putList (n : Nat) (l : List Nat) (s : State) : slotAt (putList n l s) n = { slotAt s n with list := l } :=
  slotAt_putSlot ..

theorem slotAt_linked (op : Op) (n : Nat) (s : State) : slotAt (linked op n s) n =
    { slotAt s n with
      a := { (slotAt s n).a with obj := objectAfter s op n }
      b := { (slotAt s n).b with obj := objectAfter s op n }
      list := listAt s n ++ [nextEntry s] } := by
  simp [linked, linkTail, listAt]

theorem objAt_enqueued : objAt (enqueued op n s) n = objectAfter s op n := by
  rw [enqueued, objAt_bumpIf, objAt, slotAt_linked]

theorem listAt_enqueued : listAt (enqueued op n s) n = listAt s n ++ [nextEntry s] := by
  rw [enqueued, listAt_bumpIf, listAt, slotAt_linked]

theorem entry_enqueued : tget (enqueued op n s).wt.entries (nextEntry s) = some (.queued n op none) := by
  rw [enqueued, bumpIf_wt]
  exact tget_tset_self ..

/-- An event that queues its operation and changes the object alone. -/
theorem evalKind_queued (hl : listAt s n = []) (hf : entryFree s = true) (ha : op.opcode ≠ opArrive) (hs : op.opcode ≠ opSet)
    (hq : (answerOfKind s op n).queue = true) (p : Plain { answerOfKind s op n with queue := false }) :
    ∃ w, evalKind false op n s =
      ({ status := stOk, a := if op.opcode = opCas then (objAt s n).value else (objectAfter s op n).value
         b := objB (objectAfter s op n), queued := true, walk := true, bumped := w }, enqueued op n s) := by
  have hst : (answerOfKind s op n).status = stOk := p.status
  have hg : (answerOfKind s op n).grants = [] := p.grants
  have hr : (answerOfKind s op n).release = false := p.release
  have ho : (answerOfKind s op n).out = 0 := p.out
  have ht : bumpIf n (bytesAt s n) (linkTail n (nextEntry s) (putEntry (nextEntry s) (.queued n op none)
    (putObj n (setLastsig (objAt s n) (answerOfKind s op n).obj (whoOf op)) s))) = enqueued op n s := rfl
  have hx (x : Obj) : lowestFreeFrom (putObj n x s).wt.entries 0 = nextEntry s := rfl
  refine ⟨decide (bytesAt (enqueued op n s) n ≠ bytesAt s n), ?_⟩
  unfold evalKind
  simp only [queueAt_empty hl]
  simp only [show kindStep (liveKinds s) (objAt s n) [] op (whoOf op) = answerOfKind s op n from rfl, hst, hq, hg, hr, ho, hf, ha, hs,
    takeGrants, List.foldl_nil, allocEntry, Bool.not_true, Bool.and_false, Bool.false_eq_true, ne_eq, not_true_eq_false, if_false,
    if_true, Option.isNone_none, Bool.and_true, hx, ht, objAt_enqueued]

/-- A walk over a list whose one entry is a queued request tests nothing. -/
theorem testAll_queued {ix m : Nat} {o : Op} {h : Option W32} {w : Bool} (hl : listAt s n = [ix])
    (he : tget s.wt.entries ix = some (.queued m o h)) (hm : (objAt s n).wmark = false) (hw : s.wt.walks = [])
    (hb : notifWaiting s < 256) : testAll n w s = s := by
  have hi : walkItems n (objAt s n) [.entry ix] s = ([], [], s) := by
    simp [walkItems, walkItem, he, Nat.not_le.mpr hb]
  simp [testAll, joinWalk, hw, hl, wmItems, hm, runWalk, hi, bumpIf_self]

/-- A pass that queues its operation answers nothing. -/
theorem endPass_queued {l : List Unanswered} {a b : W64} {w : Bool} {ix m : Nat} {o : Op} {h : Option W32} (q : Awaited op l s)
    (hl : listAt s n = [ix]) (he : tget s.wt.entries ix = some (.queued m o h)) (hm : (objAt s n).wmark = false)
    (hw : s.wt.walks = []) (hb : notifWaiting s < 256) :
    endPass op n false { status := stOk, a, b, queued := true, walk := true, bumped := w } s = ordered l s := by
  have e : testAll n w (ordered l s) = ordered l s := testAll_queued (s := ordered l s) hl he hm hw hb
  simpa [endPass, answerPass, leaveOrder_awaited q, finishPass, sendGrants, doOut] using e

end

theorem notifWaiting_grantable {m : MeshFlit} {s : State} (h : grantable m s = true) : notifWaiting s < 256 := by
  have g := (grantable_parts h).grant
  simp only [canGrant, Bool.and_eq_true, decide_eq_true_eq] at g
  exact g.1.2

/-- Settles O8: the kind lets the operation wait, which takes an entry and leaves the order of responses. -/
theorem operationWaits : Obligations.OperationWaits := by
  unfold Obligations.OperationWaits
  intro o p f s n op r hop h hr hk hl hf hp hq
  have ho : actsByKind o := by unfold actsByKind; tauto
  have hn : o ≠ opArrive ∧ o ≠ opSet := by rcases hop with rfl | rfl | rfl | rfl <;> decide
  have pl : Plain { answerOfKind s op n with queue := false } := plain_parts hp
  let s0 : State := tcTouch f.ctx f.handle (granted f.ctx s)
  rw [exec_requestOf ho]
  refine grant_settles (T := enqueued op n s0) h (actsByKind_other ho) (kept_enqueued (Kept.refl _).tcTouch) (fun hb e => ?_)
  have w : Awaited op s.hb.order (enqueued op n (withHb hb s0)) := by
    have w' : Awaited op s.hb.order (withHb hb (enqueued op n s0)) := grantable_awaited h e
    rwa [withHb_enqueued] at w'
  obtain ⟨z, he⟩ := evalKind_queued (s := withHb hb s0) hl hf hn.1 hn.2 hq pl
  rw [granted_pass h (objOpcode_actsByKind ho) (arrives_actsByKind ho) hr,
    evalObj_actsByKind (s := withHb hb s0) ho (kindUnfit_ok (s := withHb hb s0) hk pl.status), he]
  dsimp only
  rw [endPass_queued w (ix := nextEntry s0) ?_ entry_enqueued ?_ ?_ ?_]
  · rw [← withHb_enqueued]
    generalize enqueued op n s0 = t
    rfl
  · rw [listAt_enqueued, show listAt (withHb hb s0) n = [] from hl]
    rfl
  · rw [objAt_enqueued]; exact (setLastsig_flags _ _ _).1.trans pl.wmark
  · rw [enqueued, bumpIf_wt]; exact (resting (grantable_parts h).rest).walks
  · rw [notifWaiting, enqueued, bumpIf_eg]; exact notifWaiting_grantable (s := s) h

/-! ## A request whose effect waits for the end of its cycle's grants (06 R147) -/

section

variable {m : MeshFlit} {s : State}

/-- The one request that waits, as the grant takes it. -/
theorem grantMesh_last (hw : s.hb.waiting = [m]) (hg : stateGate s m.opcode m.f.ctx = none) :
    grantMesh m s =
      let g := stampTime (opOf m.opcode m.f m.cont) (modCtxCnt m.f.ctx (fun c => { c with ops := c.ops + 1 }) (noteGrant { s with
        hb := { s.hb with waiting := [], maxWait := min 0xFFFF (max s.hb.maxWait (s.hb.counted - m.since)) } }))
      carryOut g.1 g.2 := by
  have hg' : ∀ h : Headbox, stateGate (modCtxCnt m.f.ctx (fun c => { c with ops := c.ops + 1 }) (noteGrant { s with hb := h }))
      m.opcode m.f.ctx = none := fun _ => hg
  unfold grantMesh
  simp only [hw, dropFirst, beq_self_eq_true, if_true, List.find?_nil, hg']

/-- A slot with one request waiting and nothing ahead of it goes to the request. -/
theorem grantSlot_last {c : Bool} (hc : canGrant s = true) (h0 : s.hb.granted = 0) (hr : s.hb.grantedR = 0)
    (hl : s.hb.link = []) (hch : s.hb.chains = []) (hq : s.hb.regq = []) (hw : s.hb.waiting = [m]) :
    ∃ b n, grantSlot c s = grantMesh m { s with hb := { s.hb with arb := b, rounds := n } } := by
  obtain ⟨b, n, e⟩ := serveSlot_single hw hl hr
  refine ⟨b, n, ?_⟩
  unfold grantSlot
  rw [if_neg (by simp [hc, h0]), if_neg (by simp [hch]), if_neg (by simp [hq]), e]

/-- The first slot of a lone request's cycle: the request is carried out. -/
theorem grantSlot_lone (h : grantable m s = true) : ∃ a r n mw w,
    grantSlot (!s.hb.chains.isEmpty) (countCycle (admitted m s)) =
      let g := stampTime (opOf m.opcode m.f m.cont) (withHb (headboxAfter m s a r n 1 mw w) (granted m.f.ctx s))
      carryOut g.1 g.2 := by
  have g := grantable_parts h
  have q := resting g.rest
  let b : State := { admitted m s with hb := { (admitted m s).hb with counted := s.hb.counted + 1 } }
  have hb : countCycle (admitted m s) = b := countCycle_granting (s := admitted m s) g.running g.grant
  obtain ⟨a, r, e⟩ := grantSlot_last (s := b) (m := { m with since := s.hb.counted }) (c := !s.hb.chains.isEmpty) g.grant rfl rfl
    q.link q.chains q.regq rfl
  refine ⟨a, r, s.hb.counted + 1, min 0xFFFF (max s.hb.maxWait (s.hb.counted + 1 - s.hb.counted)), windowNow b ++ [b.clk.cycle], ?_⟩
  rw [hb, e, grantMesh_last (s := { b with hb := { b.hb with arb := a, rounds := r } }) rfl (headCheck_gate g.checked)]
  rfl

theorem kept_granted {c : CtxId} : Kept (tick s) (granted c s) := ⟨⟨rfl, rfl, rfl⟩, rfl, rfl⟩

/-- A lone request, where carrying it out and entering what it took in come to `T`, and take the request off the order of
responses. -/
theorem entering_settles {p : Port} {o : Byte} {f : Flit} {op : Op} {T : State} (h : grantable { port := p, opcode := o, f } s = true)
    (hk : Kept (granted f.ctx s) T)
    (hs : ∀ hb : Headbox, ∃ r, stampTime (opOf o f none) (withHb hb (granted f.ctx s)) =
      (op, withHb { hb with grantedR := r } (granted f.ctx s)))
    (hc : ∀ hb : Headbox, hb.order = s.hb.order ++ placed (opOf o f none) →
      (carryOut op (withHb hb (granted f.ctx s))).hb = hb ∧
        enterAll (carryOut op (withHb hb (granted f.ctx s))) = withHb { hb with order := s.hb.order } T) :
    Leads (.next (inCycle (offer { port := p, opcode := o, f }) s)) T := by
  have g := grantable_parts h
  have q := resting g.rest
  obtain ⟨a, r, n, mw, w, e⟩ := grantSlot_lone h
  let hb : Headbox := headboxAfter { port := p, opcode := o, f } s a r n 1 mw w
  obtain ⟨k, hst⟩ := hs hb
  obtain ⟨hub, he⟩ := hc { hb with grantedR := k } (noteFlit_placed s)
  let u : State := carryOut op (withHb { hb with grantedR := k } (granted f.ctx s))
  have e' : grantSlot (!s.hb.chains.isEmpty) (countCycle (Laws.admitted { port := p, opcode := o, f } s)) = u := by
    rw [e]
    exact congrArg (fun x : Op × State => carryOut x.1 x.2) hst
  have hsp : Spent u := ⟨congrArg Headbox.waiting hub, (congrArg Headbox.link hub).trans q.link,
    (congrArg Headbox.chains hub).trans q.chains, (congrArg Headbox.regq hub).trans q.regq⟩
  let hd : Headbox := { hb with grantedR := k, order := s.hb.order }
  have ht : T.hb = (tick s).hb := hk.hb
  have hw : (tick s).hb.waiting = [] := q.waiting
  have hv : rest (withHb hd T) = true := by
    refine (rest_withHb ?_).trans (hk.rest.trans g.rest)
    simp only [headEmpty, withHb, hd, hb, headboxAfter, ht, hw]
  refine inCycle_leads (hd := hd) rfl rfl ?_ (kept_granted.trans hk) ?_
  · exact settle_from _ q.rx (accept_single h) q.loop q.returned q.inbox q.walks ((grantCycle_once e' hsp).trans he) hv
  · simp only [stillArb, still, withHb, hd, hb, headboxAfter, ht, tick, q.waiting, g.bursts]

end

/-! ## An arrival taken in (03 R79, R86; 06 R147) -/

section

variable {op : Op} {n : Nat} {s : State}

/-- The object with an arrival counted (03 R79, R86). -/
def counted (o : Obj) (x : Arrival) : Obj :=
  { withCount o (countOf o + x.weight) with state := if o.kind = kStepAgree then 1 else if x.desc.isSome then 2 else 1 }

/-- What the object in slot `n` holds of its arrivals. -/
def arrAt (s : State) (n : Nat) : ObjArr := tgetD s.couch.objs n {}

/-- The same written. -/
def putArr (n : Nat) (a : ObjArr) (s : State) : State := { s with couch := { s.couch with objs := tset s.couch.objs n a } }

@[simp] theorem arrAt_putArr (n : Nat) (a : ObjArr) (s : State) : arrAt (putArr n a s) n = a := by simp [arrAt, putArr, tgetD]

@[simp] theorem putArr_putArr (n : Nat) (a b : ObjArr) (s : State) : putArr n b (putArr n a s) = putArr n b s := by
  simp [putArr, tset_tset]

/-- The lanes with those of an arrival (07 R182). -/
def lanesWith (a : ObjArr) (x : Arrival) : Option Lanes := match x.desc with
  | some d => some (mergeInto a.lanes d x.parts false)
  | none => a.lanes

theorem objRaise_eq (n : Nat) (x : Arrival) (s : State) : objRaise n x false s =
    putObj n (counted (objAt s n) x) (putArr n { arrAt s n with lanes := lanesWith (arrAt s n) x } s) := rfl

theorem setIdent_known {c : CtxId} {h : W32} (hi : (arrAt s n).idents.contains (c, h) = true) : setIdent n c h s = s := if_pos hi

theorem setIdent_new {c : CtxId} {h : W32} (hi : (arrAt s n).idents.contains (c, h) = false) :
    setIdent n c h s = putArr n { arrAt s n with idents := (arrAt s n).idents ++ [(c, h)] } s := if_neg (Bool.eq_false_iff.mp hi)

/-- What an object holds of its arrivals, with one more. -/
def merged (a : ObjArr) (x : Arrival) (i : CtxId × W32) : ObjArr := { a with idents := named i a.idents, lanes := lanesWith a x }

theorem objRaise_setIdent (x : Arrival) (c : CtxId) (h : W32) : objRaise n x false (setIdent n c h s) =
    putObj n (counted (objAt s n) x) (putArr n (merged (arrAt s n) x (c, h)) s) := by
  rw [objRaise_eq]
  cases hi : (arrAt s n).idents.contains (c, h) with
  | true =>
    have e : named (c, h) (arrAt s n).idents = (arrAt s n).idents := if_pos hi
    rw [setIdent_known hi, merged, e]
  | false =>
    have e : named (c, h) (arrAt s n).idents = (arrAt s n).idents ++ [(c, h)] := if_neg (Bool.eq_false_iff.mp hi)
    rw [setIdent_new hi, arrAt_putArr, putArr_putArr, merged, e]
    rfl

/-- An arrival kept pending, and merged at its object (06 R148). -/
def pended (op : Op) (n : Nat) (s : State) : State :=
  putArr n (merged (arrAt s n) (arrivalOf op) (op.ctx, op.handle))
    (keepPend op (some n) (arrivalOf op).epoch (arrivalOf op).weight s).2

theorem takeArrive_eq (op : Op) (n : Nat) (s : State) :
    takeArrive op n s = (s.couch.nextId, putObj n (counted (objAt s n) (arrivalOf op)) (pended op n s)) :=
  congrArg (Prod.mk _) (objRaise_setIdent ..)

/-- An arrival that the object does not refuse. -/
theorem arriveRefused_none (h1 : (objAt s n).kind = kStepAgree → op.opcode = opArriveR ∧ op.ctx = 0) (h2 : barPend s < 4096)
    (h3 : objCheck s n (objAt s n) (arrivalOf op) = stOk) : arriveRefused op n s = (none, s) := by
  have hr : ¬stOk = stRetry := by decide
  unfold arriveRefused
  dsimp only
  rw [if_neg (by tauto), if_neg (by tauto), if_neg (Nat.not_le.mpr h2), h3, if_neg hr, if_neg (by simp)]

/-- The state with an arrival on its way into its slot. -/
def withEntering (l : List Entering) (s : State) : State := { s with couch := { s.couch with entering := l } }

theorem joinArrive_taken (h : arriveRefused op n s = (none, s)) (he : s.couch.entering = []) : joinArrive op n false s =
    withEntering [{ slot := n, obj := objAt s n, whead := wheadAt s n, arrs := [{ op, id := s.couch.nextId }] }]
      (putObj n (counted (objAt s n) (arrivalOf op)) (pended op n s)) := by
  unfold joinArrive
  simp only [h, takeArrive_eq, he, List.find?_nil, Option.getD_none, List.nil_append]
  have e : (putObj n (counted (objAt s n) (arrivalOf op)) (pended op n s)).couch.entering = [] := he
  simp only [e, List.filter_nil, List.nil_append]
  rfl

theorem enterAll_one {e : Entering} (h : s.couch.entering = [e]) : enterAll s = enterSlot e (withEntering [] s) := by
  simp [enterAll, enterSlots, h, withEntering]

theorem countOf_withCount_le (o : Obj) (c : Nat) : countOf (withCount o c) ≤ c := by
  simp only [countOf, withCount, fld, BitVec.toNat_ofNat, Nat.shiftRight_zero]
  omega

theorem objComplete_below (h : countOf (objAt s n) < (objAt s n).thresh.toNat) : objComplete n s = (none, s) := if_pos h

/-- An object written over an object: nothing of the first is left. -/
theorem putObj_putObj {o o' : Obj} (h : o.kind ≠ 0) : putObj n o' (putObj n o s) = putObj n o' s := by
  have hx : ({ slotAt s n with a := { (slotAt s n).a with obj := o }, b := { (slotAt s n).b with obj := o } } : Slot) ≠ {} :=
    fun e => h (congrArg (fun x : Slot => x.a.obj.kind) e)
  have e := slotAt_putObj n o s
  unfold putObj at e ⊢
  simp only [e]
  exact putSlot_putSlot n _ _ s hx

/-- The object that an arrival leaves, its epoch not complete. -/
def objectArrived (s : State) (op : Op) (n : Nat) : Obj := setLastsig (objAt s n) (counted (objAt s n) (arrivalOf op)) (whoOf op)

/-- The state in which an arrival that does not complete its epoch has entered its slot. -/
def arrivedAt (op : Op) (n : Nat) (s : State) : State := withObject n (objectArrived s op n) (pended op n s)

theorem endArrive_below {id : Nat} (hk : (objAt s n).kind ≠ 0)
    (hc : countOf (objAt s n) + (arrivalOf op).weight < (objAt s n).thresh.toNat) :
    endArrive op id n (bytesAt s n) (putObj n (counted (objAt s n) (arrivalOf op)) (pended op n s)) =
      ({ status := stOk, a := (objectArrived s op n).value, b := objB (objectArrived s op n), first := some id, walk := true
         bumped := true }, arrivedAt op n s) := by
  let t : State := putObj n (counted (objAt s n) (arrivalOf op)) (pended op n s)
  have ht : objAt t n = counted (objAt s n) (arrivalOf op) := by simp [t, objAt]
  have hb : objComplete n t = (none, t) := objComplete_below (by rw [ht]; exact (countOf_withCount_le _ _).trans_lt hc)
  have hp : putObj n (objectArrived s op n) t = putObj n (objectArrived s op n) (pended op n s) := putObj_putObj hk
  have hw : bumpIf n (bytesAt s n) (putObj n (setLastsig (bytesAt s n).1 (objAt t n) (whoOf op)) t) = arrivedAt op n s := by
    rw [ht]
    exact congrArg (bumpIf n (bytesAt s n)) hp
  have ho : objAt (arrivedAt op n s) n = objectArrived s op n := objAt_withObject ..
  unfold endArrive
  simp only [show putObj n (counted (objAt s n) (arrivalOf op)) (pended op n s) = t from rfl, hb, hw, ho]

/-- An arrival alone in its slot, its epoch not complete: it is answered with the object it leaves. -/
theorem enterSlot_below {id : Nat} (hk : (objAt s n).kind ≠ 0)
    (hc : countOf (objAt s n) + (arrivalOf op).weight < (objAt s n).thresh.toNat) :
    enterSlot { slot := n, obj := objAt s n, whead := wheadAt s n, arrs := [{ op, id }] }
        (putObj n (counted (objAt s n) (arrivalOf op)) (pended op n s)) =
      endPass op n false { status := stOk, a := (objectArrived s op n).value, b := objB (objectArrived s op n), walk := true
                           bumped := true } (arrivedAt op n s) := by
  have e := endArrive_below (id := id) hk hc
  unfold enterSlot
  simp only [List.getLast?_singleton, List.foldl_cons, List.foldl_nil, show (objAt s n, wheadAt s n) = bytesAt s n from rfl, e]
  rfl

theorem withEntering_entering {l : List Entering} (h : s.couch.entering = []) : withEntering [] (withEntering l s) = s := by
  simp only [withEntering, ← h]

theorem withHb_arrivedAt (hb : Headbox) (op : Op) (n : Nat) (s : State) : withHb hb (arrivedAt op n s) = arrivedAt op n (withHb hb s) :=
  withHb_withObject hb n _ (pended op n s)

theorem kept_arrivedAt {t : State} (h : Kept s t) : Kept s (arrivedAt op n t) :=
  .withObject (h.trans ⟨⟨rfl, rfl, rfl⟩, rfl, rfl⟩)

theorem kind_tree (h : isTreeKind (objAt s n).kind = true) : (objAt s n).kind ≠ 0 := by
  intro e
  rw [e] at h
  exact absurd h (by decide)

/-- An arrival that is admitted at its object and leaves the count below THRESH. -/
structure Admissible (op : Op) (n : Nat) (s : State) : Prop where
  reach : reaches s op n = true
  tree : isTreeKind (objAt s n).kind = true
  step : (objAt s n).kind = kStepAgree → op.opcode = opArriveR ∧ op.ctx = 0
  room : barPend s < 4096
  check : objCheck s n (objAt s n) (arrivalOf op) = stOk
  below : countOf (objAt s n) + (arrivalOf op).weight < (objAt s n).thresh.toNat

/-- An arrival at its object: on its way into the slot. -/
def onItsWay (op : Op) (n : Nat) (s : State) : State :=
  withEntering [{ slot := n, obj := objAt s n, whead := wheadAt s n, arrs := [{ op, id := s.couch.nextId }] }]
    (putObj n (counted (objAt s n) (arrivalOf op)) (pended op n s))

theorem carryOut_arrival (hm : op.src = .mesh) (ha : arrives op.opcode = true) (h : Admissible op n s) (he : s.couch.entering = []) :
    carryOut op s = onItsWay op n (tcTouch op.ctx op.handle s) := by
  let t : State := tcTouch op.ctx op.handle s
  have q := reaches_atObject h.reach
  have ho : objOpcode op.opcode = true := by
    have e : op.opcode = opArrive ∨ op.opcode = opArriveR := by simpa [arrives] using ha
    rcases e with e | e <;> rw [e] <;> rfl
  have ht : treeArrival (objAt t n) op = true := Bool.and_eq_true_iff.mpr ⟨h.tree, ha⟩
  have hr : arriveRefused op n t = (none, t) := arriveRefused_none (s := t) h.step h.room h.check
  rw [carryOut_reaches hm ho h.reach, objectOp_reaches (s := t) hm q.free q.alive q.clean q.kind q.owner he, if_pos ht]
  exact joinArrive_taken hr he

/-- It enters the slot alone, and is answered. -/
theorem enterAll_onItsWay {l : List Unanswered} (hk : (objAt s n).kind ≠ 0) (he : s.couch.entering = [])
    (hc : countOf (objAt s n) + (arrivalOf op).weight < (objAt s n).thresh.toNat) (h : Awaited op l s)
    (hw : (objAt s n).wmark = false) (hd : (objAt s n).diverged = false) (hl : listAt s n = []) (hwk : s.wt.walks = []) :
    enterAll (onItsWay op n s) = withResp op stOk (objectArrived s op n).value (objB (objectArrived s op n)) 0
      (ordered l (arrivedAt op n s)) := by
  obtain ⟨k, e⟩ := withObject_eq n (objectArrived s op n) (pended op n s)
  have e : arrivedAt op n s = _ := e
  have ho : objAt (arrivedAt op n s) n = objectArrived s op n := objAt_withObject ..
  obtain ⟨hwm, hdv⟩ := setLastsig_flags (objAt s n) (counted (objAt s n) (arrivalOf op)) (whoOf op)
  have w : Awaited op l (arrivedAt op n s) := ⟨h.mesh, h.line, by rw [e]; exact h.order⟩
  calc enterAll (onItsWay op n s)
    _ = enterSlot _ (withEntering [] (onItsWay op n s)) := enterAll_one rfl
    _ = enterSlot _ (putObj n (counted (objAt s n) (arrivalOf op)) (pended op n s)) :=
        congrArg (enterSlot _) (withEntering_entering he)
    _ = endPass op n false _ (arrivedAt op n s) := enterSlot_below hk hc
    _ = answerD op stOk _ _ 0 (arrivedAt op n s) := by
        refine endPass_plain w ?_ ?_ ?_ ?_
        · rw [ho]; exact hdv.trans hd
        · rw [ho]; exact hwm.trans hw
        · exact (listAt_withObject ..).trans hl
        · rw [e]; exact hwk
    _ = _ := answerD_ok w _ _ 0

end

/-- An arrival granted in its cycle, stamped with the time `t`, that is admitted and leaves the count below THRESH. -/
theorem arrival_leads {p : Port} {o : Byte} {f : Flit} (t : W64) {s : State} {n : Nat} {op : Op}
    (hop : op = { opOf o f none with time := t }) (h : grantable { port := p, opcode := o, f } s = true) (ha : arrives o = true) (had : Admissible op n s)
    (hs : ∀ hb : Headbox, ∃ r, stampTime (opOf o f none) (withHb hb (granted f.ctx s)) =
      (op, withHb { hb with grantedR := r } (granted f.ctx s)))
    (hw : (objAt s n).wmark = false) (hd : (objAt s n).diverged = false) (hl : listAt s n = []) :
    Leads (.next (inCycle (offer { port := p, opcode := o, f }) s))
      (withResp op stOk (objectArrived s op n).value (objB (objectArrived s op n)) 0
        (arrivedAt op n (tcTouch f.ctx f.handle (granted f.ctx s)))) := by
  subst hop
  have q := resting (grantable_parts h).rest
  refine entering_settles h (kept_arrivedAt (Kept.refl _).tcTouch).withResp hs (fun hb e => ?_)
  let s0 : State := tcTouch f.ctx f.handle (granted f.ctx s)
  have had' : Admissible { opOf o f none with time := t } n (withHb hb (granted f.ctx s)) :=
    ⟨had.reach, had.tree, had.step, had.room, had.check, had.below⟩
  have hj : carryOut { opOf o f none with time := t } (withHb hb (granted f.ctx s)) =
      onItsWay { opOf o f none with time := t } n (withHb hb s0) := carryOut_arrival rfl ha had' q.entering
  rw [hj]
  refine ⟨rfl, ?_⟩
  have w : Awaited { opOf o f none with time := t } s.hb.order (withHb hb s0) :=
    ⟨rfl, firstInLine_outOfLine rfl (grantable_parts h).line, e⟩
  rw [enterAll_onItsWay (s := withHb hb s0) (kind_tree had'.tree) q.entering had'.below w hw hd hl q.walks, ← withHb_arrivedAt]
  generalize arrivedAt { opOf o f none with time := t } n s0 = T
  unfold withResp
  split_ifs <;> rfl

theorem arrivalOf_arrive {op : Op} (h : op.opcode = opArrive) :
    arrivalOf op = { weight := op.a.toNat % 2 ^ 32, epoch := op.b.setWidth 32, desc := none, parts := [] } := by
  simp [arrivalOf, h, opArrive, opArriveR, fld]

theorem arrivalOf_arriveR {op : Op} (h : op.opcode = opArriveR) :
    arrivalOf op = { weight := op.a.toNat % 2 ^ 32, epoch := op.b.setWidth 32, desc := some (descOf op.b)
                     parts := arrivalParts (descOf op.b) op.data op.time op.agent } := by
  simp [arrivalOf, h, fld]

theorem objectArrived_eq {op : Op} {n : Nat} {s : State} {x : Arrival} {q : Byte} (hx : arrivalOf op = x)
    (hq : (if (objAt s n).kind = kStepAgree then (1 : Byte) else if x.desc.isSome then 2 else 1) = q) :
    objectArrived s op n =
      setLastsig (objAt s n) { withCount (objAt s n) (countOf (objAt s n) + x.weight) with state := q } (whoOf op) := by
  subst hx hq
  rfl

theorem arrivedAt_eq {op : Op} {n : Nat} {s : State} {x : Arrival} {o : Obj} (hx : arrivalOf op = x) (ho : objectArrived s op n = o) :
    arrivedAt op n s = withObject n o { s with couch := { s.couch with
      nextId := s.couch.nextId + 1
      pend := s.couch.pend ++ [{ id := s.couch.nextId, op, slot := some n, epoch := x.epoch, weight := x.weight }]
      objs := tset s.couch.objs n (merged (arrAt s n) x (op.ctx, op.handle)) } } := by
  subst hx ho
  rfl

/-- Settles O10: the arrival is taken in at its grant and enters its slot when the cycle's grants are done. -/
theorem arriveCompletes : Obligations.ArriveCompletes := by
  unfold Obligations.ArriveCompletes
  refine ⟨?_, ?_⟩
  · intro p f s n op w a s0 o' h hr ht hw hd hl hb hc hlt hk
    have hx : arrivalOf op = { weight := w, epoch := f.b.setWidth 32, desc := none, parts := [] } := arrivalOf_arrive rfl
    have hks : (objAt s n).kind ≠ kStepAgree := by rw [hk]; decide
    have ho : objectArrived s op n = o' := objectArrived_eq hx (if_neg hks)
    have had : Admissible op n s := ⟨hr, ht, fun e => absurd e hks, hb, hc, by rw [hx]; exact hlt⟩
    have hne : opArrive ≠ opArriveR := by decide
    have claim := arrival_leads (op := op) 0 rfl h rfl had (fun hb => ⟨hb.grantedR, stampTime_other _ hne⟩) hw hd hl
    rw [ho, arrivedAt_eq (s := s0) hx ho] at claim
    exact claim
  · intro p f s n op w x a s0 o' h hr ht hw hd hl hb hc hk hlt
    have hx : x = { weight := w, epoch := f.b.setWidth 32, desc := some (descOf f.b), parts := x.parts } := arrivalOf_arriveR rfl
    have ho : objectArrived s op n = o' := objectArrived_eq hx rfl
    have hks : (objAt s n).kind = kStepAgree → f.ctx = 0 := fun e => hk.resolve_left (by rw [e]; decide)
    have had : Admissible op n s := ⟨hr, ht, fun e => ⟨rfl, hks e⟩, hb, hc, by rw [show arrivalOf op = _ from hx]; exact hlt⟩
    have claim := arrival_leads (op := op) (now (tick s)) rfl h rfl had (fun hb => ⟨hb.grantedR + 1, rfl⟩) hw hd hl
    rw [ho, arrivedAt_eq (s := s0) hx ho] at claim
    exact claim

/-! ## An epoch that its last arrival does not complete (03 R79) -/

/-- A BARRIER whose THRESH of 2^32 no CREATE and no SET leaves, one arrival of weight 1 short of it. -/
def overfullBarrier : Obj := { kind := kBarrier, state := 1, value := 2 ^ 32 - 1, thresh := 2 ^ 32 }

/-- A running die with the barrier in slot 5 and its translation cached. -/
def overfullDie : State :=
  { runningDie with
    vat := { runningDie.vat with slots := [(5, { a := { obj := overfullBarrier }, b := { obj := overfullBarrier } })] }
    xl := { runningDie.xl with cache := [{ ctx := 0, handle := 0, x := { w0 := BitVec.ofNat 64 (1 + 0xFC + 2 ^ 8 * 5) } }] } }

/-- The count wraps to 0, and no epoch is completed. -/
theorem overfullDie_completesNone : shown (·.couch.done.length) (exec (.arrive 0 { a := 1 }) overfullDie) = some 0 := by
  decide +kernel

/-- Refutes O11, whose first clause does not bound THRESH: VALUE holds a count of 32 bits, so that where THRESH is 2^32 the
arrival that reaches it completes nothing. -/
theorem not_arrivalCompletesEpoch : ¬ Obligations.ArrivalCompletesEpoch := by
  unfold Obligations.ArrivalCompletesEpoch
  rintro ⟨h, -⟩
  have claim := h 0 { a := 1 } overfullDie 5
  iterate 14 specialize claim (by decide +kernel)
  exact absurd (refuted_by_shown claim (fun _ => rfl) overfullDie_completesNone) (by decide +kernel)

/-! ## An object command granted in the cycle that writes it (03 R73, R76; 06 R161) -/

/-- The command that a write of GS_OBJ_CMD starts. -/
def commandOf (cmd : BitVec 3) (acc : Acc) (s : State) : ObjCmd := { cmd, slot := s.vat.objSlot.toNat, image := s.vat.w, acc }

/-- The command written and waiting for its grant. -/
def commanded (c : ObjCmd) (s : State) : State :=
  { wrote (tick s) with vat := { s.vat with cmdBusy := true }, hb := { (tick s).hb with regq := [.obj c] } }

/-- The state with BUSY of GS_OBJ_CMD set. -/
def busy (s : State) : State := { s with vat := { s.vat with cmdBusy := true } }

/-- The state in which an object command is carried out. -/
def begun (s : State) : State := busy (slotGranted s)

section

variable {acc : Acc} {cmd : BitVec 3} {s T : State}

theorem regPut_objCommand (c : Acc) (cmd : BitVec 3) (s : State) :
    regPut c 0x1124 (BitVec.ofNat 32 cmd.toNat) s = objCommand c cmd s := by
  have e : (BitVec.ofNat 32 cmd.toNat).setWidth 3 = cmd := by bv_omega
  exact congrArg (objCommand c · s) e

theorem objCommand_starts (hb : s.vat.cmdBusy = false) (h0 : cmd ≠ 0) (h5 : cmd.toNat < 5) :
    objCommand acc cmd s = { s with
      vat := { s.vat with cmdBusy := true }
      hb := { s.hb with regq := s.hb.regq ++ [.obj (commandOf cmd acc s)] } } := by
  unfold objCommand
  rw [if_neg (by simpa [hb] using h0), if_neg (by omega)]
  rfl

/-- The write starts the command. -/
theorem write_commands (h : served acc s = true) (hb : s.vat.cmdBusy = false) (h0 : cmd ≠ 0) (h5 : cmd.toNat < 5) :
    whenPower (regWrite acc 0x1124 cmd.toNat) (tick s) = commanded (commandOf cmd acc s) s := by
  have r := resting (served_parts h).rest
  have e := write_runs (x := { acc, wr := true, addr := BitVec.ofNat 23 (0x1124 / 4), data := BitVec.ofNat 32 cmd.toNat }) h rfl rfl
    (v := BitVec.ofNat 32 (2 ^ 31 * bit s.vat.cmdBusy + 2 ^ 28 * s.vat.cmdErr.toNat)) rfl
  refine (access_runs h).trans (e.trans ((congrArg wrote (regPut_objCommand acc cmd (tick s))).trans ?_))
  rw [objCommand_starts (s := tick s) hb h0 h5, show (tick s).hb.regq = [] from r.regq]
  rfl

/-- A command in line for slot 0 is granted there, and carried out. -/
theorem grantSlot_command {c : ObjCmd} (hg : canGrant s = true) (h0 : s.hb.granted = 0) (h1 : s.hb.slot0 = false)
    (hq : s.hb.regq = [.obj c]) (he : s.couch.entering = []) :
    grantSlot false s = runObjCmd c (noteGrant { s with hb := { s.hb with regq := [], slot0 := true } }) := by
  have e := enterAll_empty (s := noteGrant { s with hb := { s.hb with regq := [], slot0 := true } }) he
  unfold grantSlot grantReg
  rw [if_neg (by simp [hg, h0]), if_neg (by simp), if_pos (by simp [h0, h1, hq])]
  simp only [hq]
  exact congrArg (runObjCmd c) e

theorem kept_slotGranted : Kept (tick s) (slotGranted s) := ⟨⟨rfl, rfl, rfl⟩, rfl, rfl⟩

/-- An object command granted in its cycle: where carrying it out comes to `T`, `T` is what the cycle leaves. -/
theorem command_settles (h : slotServed acc s = true) (hb : s.vat.cmdBusy = false) (h0 : cmd ≠ 0) (h5 : cmd.toNat < 5)
    (hk : Kept (slotGranted s) T)
    (hc : ∀ hb : Headbox, runObjCmd (commandOf cmd acc s) (withHb hb (begun s)) = withHb hb T) :
    Leads (.next (inCycle (whenPower (regWrite acc 0x1124 cmd.toNat)) s)) T := by
  obtain ⟨hs, hg⟩ : served acc s = true ∧ canGrant (tick s) = true := by simpa [slotServed] using h
  have r := resting (served_parts hs).rest
  have hw := write_commands hs hb h0 h5
  generalize commandOf cmd acc s = c at hw hc
  obtain ⟨n, hn⟩ := countCycle_eq (commanded c s)
  let hd : Headbox := { (tick s).hb with
    counted := n, slot0 := true, granted := 1, window := windowNow (tick s) ++ [(tick s).clk.cycle] }
  have hd' : T.hb = (tick s).hb := hk.hb
  have hgr : grantSlot false (countCycle (commanded c s)) = withHb hd T := by
    have e := grantSlot_command (s := { commanded c s with hb := { (commanded c s).hb with counted := n } }) hg rfl rfl rfl r.entering
    rw [hn, e, ← hc hd]
    exact congrArg (fun l => runObjCmd c (withHb { hd with regq := l } (begun s))) r.regq.symm
  have hv : rest (withHb hd T) = true := by
    refine (rest_withHb ?_).trans (hk.rest.trans (served_parts hs).rest)
    simp only [headEmpty, withHb, hd, hd']
  have hch : (!s.hb.chains.isEmpty) = false := by rw [r.chains]; rfl
  refine inCycle_leads (hd := hd) hw rfl ?_ (kept_slotGranted.trans hk) ?_
  · rw [hch]
    exact settle_from (s := commanded c s) false r.rx (acceptPorts_empty r.ports) r.loop r.returned r.inbox r.walks
      ((grantCycle_once hgr (spent_resting (resting hv))).trans (enterAll_empty (resting hv).entering)) hv
  · simp only [stillArb, still, withHb, hd, hd']

end

/-! ## What each command does at its slot (03 R74-R77) -/

section

variable {c : ObjCmd} {s : State} {n : Nat}

/-- No command waits for the slot, which reads clean. -/
structure Ready (s : State) (n : Nat) : Prop where
  free : blocked s (.slot n) = false
  clean : clean (slotAt s n) = true

theorem Ready.unlost (h : Ready s n) : (slotAt s n).lost = false := by
  have k := h.clean
  simp only [Machine.clean, Bool.and_eq_true, Bool.not_eq_true'] at k
  exact k.1.1.1

/-- Only REGACC is shown less than the whole object (17 R408). -/
theorem fetchImage_port {a : Acc} (h : a.rq ≠ .regacc) : fetchImage s n a = packObj (slotAt s n).a.obj (wheadAt s n) :=
  if_neg (fun e => h e.1)

theorem runObjCmd_fetch (hc : c.cmd = 4) (hb : blocked s (.slot c.slot) = false) :
    runObjCmd c s = endObjCmd 0 { s with vat := { s.vat with w := fetchImage s c.slot c.acc } } := by
  simp [runObjCmd, hb, hc]

theorem runObjCmd_create (hc : c.cmd = 1) (h : Ready s c.slot) (hk : (objAt s c.slot).kind = 0) :
    runObjCmd c s = if createErr s c = 0 then endObjCmd 0 (doCreate c s) else endObjCmd (createErr s c) s := by
  simp [runObjCmd, h.free, hc, resolve_clean h.clean, hk, h.unlost]

/-- The slot holds an object that is no copy in standby. -/
structure Occupied (s : State) (n : Nat) : Prop extends Ready s n where
  used : (objAt s n).kind ≠ 0
  own : (tget s.vat.third n).any (fun t => !t.live) = false

theorem runObjCmd_destroy (hc : c.cmd = 2) (h : Occupied s c.slot) (hb : destroyBusy s c.slot = false) :
    runObjCmd c s = endObjCmd 0 (removeObj c.slot stBadHandle false s) := by
  have hu : ¬(objAt s c.slot).kind = 0#8 := h.used
  simp [runObjCmd, h.free, hc, resolve_clean h.clean, hu, h.own, hb]

theorem runObjCmd_destroyForce (hc : c.cmd = 3) (h : Occupied s c.slot) :
    runObjCmd c s = endObjCmd 0 (removeObj c.slot stBadHandle true s) := by
  have hu : ¬(objAt s c.slot).kind = 0#8 := h.used
  simp [runObjCmd, h.free, hc, resolve_clean h.clean, hu, h.own]

/-- An object on which nothing waits and of which no other die knows is removed with nobody to tell. -/
theorem removeObj_alone {st : Status} {down : Bool} (hl : listAt s n = []) (hi : down = true → identsOf s n = [])
    (hh : holdersOf s n = []) (hp : s.couch.pend = []) : removeObj n st down s = clearSlot n s := by
  have hr : releasePends (fun a => a.slot == some n) none st (objAt s n).epoch 0 0 s = s := by simp [releasePends, hp]
  unfold removeObj
  cases down with
  | false => simp only [hl, List.foldl_nil, hr, shadowSend_none hh, Bool.false_eq_true, if_false]
  | true => simp only [hl, List.foldl_nil, hr, hi rfl, shadowSend_none hh, if_true]

theorem doCreate_alone (h : (createObj s c).shadow = false) : doCreate c s =
    chainJoin (createObj s c).owner c.slot (putSlot c.slot { a := { obj := createObj s c }, b := { obj := createObj s c } } s) := by
  simp [doCreate, h]

theorem endObjCmd_zero (h : s.vat.cmdBusy = false) : endObjCmd 0 s = { s with vat := { s.vat with cmdErr := 0 } } := by
  simp [endObjCmd, ← h]

theorem endObjCmd_err {e : Nat} (h : s.vat.cmdBusy = false) (h0 : e ≠ 0) :
    endObjCmd e s = { s with vat := { s.vat with cmdErr := BitVec.ofNat 3 e, reject := sat16 s.vat.reject } } := by
  simp [endObjCmd, ← h, h0]

theorem clearSlot_busy (h : Headbox) : clearSlot n (withHb h (busy s)) = withHb h (busy (clearSlot n s)) := by
  unfold clearSlot wmFreeAll untrack chainLeave putSlot
  rfl

/-- A slot cleared: what of the state is written. -/
theorem clearSlot_eq (n : Nat) (s : State) : ∃ tab slots told holders third logged recs objs done, clearSlot n s = { s with
    ctx := { s.ctx with tab }
    vat := { s.vat with slots, told, holders, third, badLogged := logged }
    wm := { s.wm with recs }
    wt := { s.wt with walks := s.wt.walks.filter (fun w => w.slot != n) }
    couch := { s.couch with objs, done } } := by
  unfold clearSlot wmFreeAll untrack chainLeave putSlot
  exact ⟨_, _, _, _, _, _, _, _, _, rfl⟩

/-- Nothing waits for a slot to be cleared. -/
theorem kept_clearSlot (h : s.wt.walks = []) : Kept s (clearSlot n s) := by
  obtain ⟨tab, slots, told, holders, third, logged, recs, objs, done, e⟩ := clearSlot_eq n s
  rw [e, h, List.filter_nil, ← h]
  exact ⟨⟨rfl, rfl, rfl⟩, rfl, rfl⟩

end

/-- The removal of an object on which nothing waits and of which no other die knows, as its command ends. -/
theorem removal_ends {s : State} {n : Nat} {down : Bool} (hl : listAt s n = []) (hi : down = true → identsOf s n = [])
    (hh : holdersOf s n = []) (hp : s.couch.pend = []) (x : Headbox) :
    endObjCmd 0 (removeObj n stBadHandle down (withHb x (begun s))) = withHb x (endObjCmd 0 (clearSlot n (slotGranted s))) := by
  rw [removeObj_alone (s := withHb x (begun s)) hl hi hh hp, begun, clearSlot_busy]
  generalize clearSlot n (slotGranted s) = t
  rfl

theorem kept_endObjCmd {s t : State} {e : Nat} (h : Kept s t) : Kept s (endObjCmd e t) := h.trans ⟨⟨rfl, rfl, rfl⟩, rfl, rfl⟩

theorem cmdBusy_clearSlot (n : Nat) (s : State) : (clearSlot n s).vat.cmdBusy = s.vat.cmdBusy := by
  unfold clearSlot wmFreeAll untrack chainLeave putSlot
  rfl

theorem walks_slotServed {acc : Acc} {s : State} (h : slotServed acc s = true) : (slotGranted s).wt.walks = [] := by
  have hs : served acc s = true := (Bool.and_eq_true_iff.mp h).1
  exact (resting (served_parts hs).rest).walks

theorem listAt_idle {s : State} {n : Nat} (h : destroyBusy s n = false) : listAt s n = [] := by
  simp only [destroyBusy, Bool.or_eq_false_iff, Bool.not_eq_false', List.isEmpty_iff] at h
  exact h.1.1.1.1

/-- Settles O24: the write starts the command, slot 0 grants it in the same cycle, and the command ends with its ERR. -/
theorem objectCommandsComplete : Obligations.ObjectCommandsComplete := by
  unfold Obligations.ObjectCommandsComplete
  refine ⟨?_, ?_, ?_, ?_, ?_⟩
  · intro acc s n c o v h hb hf hc hk he hs
    rw [← endObjCmd_zero (s := v) hb]
    refine command_settles (cmd := 1) h hb (by decide) (by decide) ⟨⟨rfl, rfl, rfl⟩, rfl, rfl⟩ (fun x => ?_)
    let t : State := withHb x (begun s)
    have e : runObjCmd c t = endObjCmd 0 (doCreate c t) := (runObjCmd_create (c := c) (s := t) rfl ⟨hf, hc⟩ hk).trans (if_pos he)
    exact e.trans (congrArg (endObjCmd 0) (doCreate_alone (s := t) hs))
  · intro acc s n c h hb hf hc hk he
    refine (congrArg (Leads _) (endObjCmd_err (s := slotGranted s) hb he)).mp ?_
    refine command_settles (cmd := 1) h hb (by decide) (by decide) ⟨⟨rfl, rfl, rfl⟩, rfl, rfl⟩ (fun x => ?_)
    exact (runObjCmd_create (c := c) (s := withHb x (begun s)) rfl ⟨hf, hc⟩ hk).trans (if_neg he)
  · intro acc s n v h hb hf hc hk ht hd hh hp
    have hi : false = true → identsOf s n = [] := fun e => nomatch e
    rw [← endObjCmd_zero (s := v) ((cmdBusy_clearSlot ..).trans hb)]
    refine command_settles (cmd := 2) h hb (by decide) (by decide) (kept_endObjCmd (kept_clearSlot (walks_slotServed h))) (fun x => ?_)
    exact (runObjCmd_destroy (c := commandOf 2 acc s) (s := withHb x (begun s)) rfl ⟨⟨hf, hc⟩, hk, ht⟩ hd).trans
      (removal_ends (listAt_idle hd) hi hh hp x)
  · intro acc s n v h hb hf hc hk ht hl hi hh hp
    rw [← endObjCmd_zero (s := v) ((cmdBusy_clearSlot ..).trans hb)]
    refine command_settles (cmd := 3) h hb (by decide) (by decide) (kept_endObjCmd (kept_clearSlot (walks_slotServed h))) (fun x => ?_)
    exact (runObjCmd_destroyForce (c := commandOf 3 acc s) (s := withHb x (begun s)) rfl ⟨⟨hf, hc⟩, hk, ht⟩).trans
      (removal_ends hl (fun _ => hi) hh hp x)
  · intro acc s n h hb hf
    let w : Image := packObj (slotAt s n).a.obj (wheadAt s n)
    have hq : acc.rq ≠ .regacc := (served_parts (Bool.and_eq_true_iff.mp h).1).bus
    refine (congrArg (Leads _) (endObjCmd_zero (s := { slotGranted s with vat := { s.vat with w } }) hb)).mp ?_
    refine command_settles (cmd := 4) h hb (by decide) (by decide) ⟨⟨rfl, rfl, rfl⟩, rfl, rfl⟩ (fun x => ?_)
    let t : State := withHb x (begun s)
    have hw : fetchImage t n acc = w := fetchImage_port hq
    exact (runObjCmd_fetch (c := commandOf 4 acc s) (s := t) rfl hf).trans
      (congrArg (fun w => endObjCmd 0 { t with vat := { t.vat with w } }) hw)

end Sys2Proof.Proofs.Objects
end

section
/-! Kind Tables (04): what the load-time checks let pass, and why no step leaves the Kind Table worse. A command in its cycle keeps the
kinds; a reset leaves none; of LOAD it is CONFIG that must not touch what has been placed, the initial register values above all. -/

namespace Sys2Proof.Proofs.KindTables

open Sys2Proof Sys2Proof.Machine Sys2Proof.Laws Sys2Proof.Proofs.Scope Sys2Proof.Proofs.Organisation Sys2Proof.Proofs.Messages
  Sys2Proof.Proofs.Objects

/-! ## What the load-time checks let pass (04 R115, R117) -/

section

variable {n len defs : Nat}

theorem kindRows_checked {nst k o : Nat} {irq link : Bool} {rows : List W64} (h : kindRows n len nst irq link k o = .ok rows) :
    rows.length = k ∧ ∀ w ∈ rows, rowErr nst irq link w = 0 := by
  induction k generalizing o rows with
  | zero =>
    obtain rfl : [] = rows := Except.ok.inj h
    simp
  | succ k ih =>
    unfold kindRows at h
    dsimp only at h
    split_ifs at h with hl he
    cases hr : kindRows n len nst irq link k (o + 8) with
    | error e => rw [hr] at h; cases h
    | ok ws =>
      rw [hr] at h
      obtain rfl : BitVec.ofNat 64 (n >>> (8 * o)) :: ws = rows := Except.ok.inj h
      obtain ⟨hlen, hws⟩ := ih hr
      exact ⟨congrArg (· + 1) hlen, List.forall_mem_cons.mpr ⟨he, hws⟩⟩

theorem headErr_none {h : Nat} (e : headErr h = none) : ∀ r ∈ headRules h, r.2 = false := by
  simpa [headErr] using e

/-- What `orderBad` leaves of a code. -/
theorem orderBad_false {prev code : Nat} (h : orderBad defs prev code = false) : 0x20 ≤ code ∧ code ≤ 0x7F ∧ prev < code := by
  simp only [orderBad, Bool.or_eq_false_iff, decide_eq_false_iff_not, not_lt, not_le] at h
  tauto

theorem code_kindOfHead (h : Nat) : (kindOfHead h).code.toNat = fld h 0 8 := by
  simp [kindOfHead, fld]

/-- A header without an error, with rows without one, is a good kind. -/
theorem ukindOk_kindOfHead {h o prev : Nat} {rows : List W64} (ho : orderBad defs prev (fld h 0 8) = false) (he : headErr h = none)
    (hr : kindRows n len (kindOfHead h).nstates (kindOfHead h).irqEn (kindOfHead h).linkEn (fld h 16 8) o = .ok rows) :
    ukindOk { kindOfHead h with rows } = true := by
  obtain ⟨hlo, hhi, -⟩ := orderBad_false ho
  obtain ⟨hlen, hrows⟩ := kindRows_checked hr
  have hc := code_kindOfHead h
  have hrules := headErr_none he
  simp only [headRules, List.forall_mem_cons, List.not_mem_nil, false_implies, implies_true, and_true] at hrules
  generalize kindOfHead h = u at *
  obtain ⟨h1, h2, h3, h4, h5, -, h8, -, h12⟩ := hrules
  simp only [Bool.or_eq_false_iff, Bool.and_eq_false_iff, beq_eq_false_iff_ne, decide_eq_false_iff_not, Bool.not_eq_false',
    bne_eq_false_iff_eq, not_lt, not_le] at h1 h2 h3 h4 h5 h8 h12
  simp only [ukindOk, Bool.and_eq_true, Bool.or_eq_true, decide_eq_true_eq, beq_iff_eq, bne_iff_ne, List.all_eq_true, hc, hlen,
    Nat.one_le_iff_ne_zero]
  tauto

/-- The kinds of a table read without an error: as many as asked for, all good, and their codes rise from `prev` on. -/
theorem kindHeads_checked {k prev o z : Nat} {l : List UKind} (h : kindHeads n len defs k prev o = .ok (l, z)) :
    l.length = k ∧ (∀ u ∈ l, ukindOk u = true) ∧ (∀ u ∈ l, prev < u.code.toNat) ∧
      l.Pairwise (fun u v => u.code.toNat < v.code.toNat) := by
  induction k generalizing prev o z l with
  | zero =>
    obtain ⟨rfl, -⟩ := Prod.mk.inj (Except.ok.inj h)
    simp
  | succ k ih =>
    unfold kindHeads at h
    dsimp only at h
    generalize hh : fld n (8 * o) 512 = head at h
    split_ifs at h with hl ho
    rw [Bool.not_eq_true] at ho
    cases he : headErr head with
    | some f => simp only [he] at h; cases h
    | none =>
      cases hr : kindRows n len (kindOfHead head).nstates (kindOfHead head).irqEn (kindOfHead head).linkEn (fld head 16 8) (o + 64) with
      | error e => simp only [he, hr] at h; cases h
      | ok rows =>
        cases hk : kindHeads n len defs k (fld head 0 8) (o + 64 + 8 * fld head 16 8) with
        | error e => simp only [he, hr, hk] at h; cases h
        | ok r =>
          obtain ⟨m, z'⟩ := r
          simp only [he, hr, hk] at h
          obtain ⟨rfl, -⟩ := Prod.mk.inj (Except.ok.inj h)
          obtain ⟨hlen, hok, hmin, hrise⟩ := ih hk
          have hc : prev < (kindOfHead head).code.toNat := by rw [code_kindOfHead]; exact (orderBad_false ho).2.2
          have hm : ∀ v ∈ m, (kindOfHead head).code.toNat < v.code.toNat := by rw [code_kindOfHead]; exact hmin
          refine ⟨congrArg (· + 1) hlen, List.forall_mem_cons.mpr ⟨ukindOk_kindOfHead ho he hr, hok⟩,
            List.forall_mem_cons.mpr ⟨hc, fun v hv => hc.trans (hm v hv)⟩, List.pairwise_cons.mpr ⟨hm, hrise⟩⟩

end

/-- The header's own checks bound the number of kinds. -/
theorem tableErr_none {bs : List Byte} {n : Nat} (h : tableErr bs n = none) : fld n 48 16 ≤ 96 := by
  unfold tableErr at h
  by_contra hc
  simp only [not_le.mp hc, true_or, if_true] at h
  split_ifs at h

/-- A table that loads holds good kinds alone. -/
theorem kindsOk_loadKinds {bs : List Byte} {l : List UKind} (h : loadKinds bs = .ok l) : kindsOk l = true := by
  unfold loadKinds at h
  dsimp only at h
  cases ht : tableErr bs (leNat bs) with
  | some e => simp only [ht] at h; cases h
  | none =>
    cases hk : kindHeads (leNat bs) (fld (leNat bs) 64 32) (fld (leNat bs) 128 96) (fld (leNat bs) 48 16) 0 64 with
    | error e => simp only [ht, hk] at h; cases h
    | ok r =>
      obtain ⟨m, z⟩ := r
      simp only [ht, hk] at h
      split_ifs at h
      obtain rfl : m = l := Except.ok.inj h
      obtain ⟨hlen, hok, -, hrise⟩ := kindHeads_checked hk
      have hn := tableErr_none ht
      simp only [kindsOk, codesRise, Bool.and_eq_true, List.all_eq_true, decide_eq_true_eq, hlen]
      exact ⟨⟨hok, hrise⟩, hn⟩

/-! ## What leaves the Kind Table as it is -/

theorem logEvent_kt (c : Nat) (n : Option Nat) (x : W32) (d e : W64) (s : State) : (logEvent c n x d e s).kt = s.kt := by
  have hw : ∀ i, (logWrite c i x d e s).kt = s.kt := by
    intro i
    unfold logWrite
    dsimp only
    split_ifs <;> rfl
  cases n with
  | none => exact hw false
  | some n =>
    refine Eq.trans ?_ (hw true)
    simp only [logEvent, assertSource]
    split_ifs <;> rfl

theorem foldl_kt {α : Type} {f : State → α → State} (h : ∀ s a, (f s a).kt = s.kt) (l : List α) (s : State) :
    (l.foldl f s).kt = s.kt := by
  induction l generalizing s with
  | nil => rfl
  | cons a l ih => exact (ih (f s a)).trans (h s a)

/-- The registers whose write is a command (21 R462). -/
def commandRegs : List Nat :=
  [0x1000, 0x1124, 0x1620, 0x1910, 0x1920, 0x1A3C, 0x1B04, 0x1C20, 0x1D8C, 0x1F04, 0x200C, 0x2110, 0x2164, 0x2168, 0x216C, 0x2170, 0x217C]

theorem commandRegs_notAllowed : ∀ a ∈ commandRegs, regsAllowed a = false := by
  simp [commandRegs, regsAllowed, inWords]

section

variable {c : Acc} {a : Nat} {v : W32} {s : State}


theorem ite_kt {p : Prop} {_ : Decidable p} {x y : State} (hx : x.kt = s.kt) (hy : y.kt = s.kt) : (if p then x else y).kt = s.kt := by
  split_ifs
  · exact hx
  · exact hy

theorem writePage0_kt : (writePage0 a v s).kt = s.kt := ite_kt rfl rfl

theorem writeAgents_kt (h : a ≠ 0x1000) : (writeAgents a v s).kt = s.kt := by
  simp only [writeAgents, if_neg h]
  exact ite_kt rfl rfl

theorem writeObjs_kt (h : a ≠ 0x1124) : (writeObjs c a v s).kt = s.kt := by
  simp only [writeObjs, if_neg h]
  exact ite_kt rfl (ite_kt rfl rfl)

theorem writeReds_kt : (writeReds a v s).kt = s.kt := ite_kt rfl rfl

theorem modSq_kt (n : Nat) (f : Seqr → Seqr) : (modSq n f s).kt = s.kt := rfl

theorem qwmCfg_kt (n : Nat) : (qwmCfg n v s).kt = s.kt := ite_kt rfl rfl

theorem qwmStat_kt (n : Nat) : (qwmStat n v s).kt = s.kt := rfl

theorem writeWms_kt (h : a ≠ 0x1620) : (writeWms a v s).kt = s.kt := by
  simp only [writeWms, if_neg h]
  exact ite_kt rfl (ite_kt (ite_kt (qwmCfg_kt _) (qwmStat_kt _)) rfl)

theorem lqCfg_kt : (lqCfg v s).kt = s.kt := ite_kt rfl (modLq_kt ..)

theorem writeLaunch_kt : (writeLaunch a v s).kt = s.kt := by
  unfold writeLaunch
  refine ite_kt rfl ?_
  iterate 6 refine ite_kt (modLq_kt ..) ?_
  exact ite_kt lqCfg_kt (ite_kt (modLq_kt ..) (ite_kt rfl rfl))

theorem ctxIdle_kt (f : CtxEntry → CtxEntry) : (ctxIdle f s).kt = s.kt := ite_kt (modCtx_kt ..) rfl

theorem modWindow_kt (f : Window → Window) : (modWindow f s).kt = s.kt := rfl

theorem writeCtxs_kt (h1 : a ≠ 0x1910) (h2 : a ≠ 0x1920) : (writeCtxs a v s).kt = s.kt := by
  simp only [writeCtxs, if_neg h1, if_neg h2]
  refine ite_kt (modCtxs_kt ..) (ite_kt (ctxIdle_kt _) (ite_kt (ctxIdle_kt _) (ite_kt (ite_kt (ctxIdle_kt _) rfl)
    (ite_kt (modCtxs_kt ..) (ite_kt rfl (ite_kt rfl (ite_kt rfl ?_)))))))
  exact ite_kt (modWindow_kt _) (ite_kt (modWindow_kt _) (ite_kt (modWindow_kt _) (ite_kt (modWindow_kt _) rfl)))

theorem writeFeltCfg_kt : (writeFeltCfg a v s).kt = s.kt := by
  unfold writeFeltCfg
  refine ite_kt rfl ?_
  iterate 9 refine ite_kt (modFelt_kt ..) ?_
  rfl

theorem writeFelt_kt (h : a ≠ 0x1A3C) : (writeFelt a v s).kt = s.kt := by
  simp only [writeFelt, if_neg h]
  exact ite_kt writeFeltCfg_kt (ite_kt (modFelt_kt ..) (ite_kt (modFelt_kt ..) rfl))

theorem writeRes_kt (h : a ≠ 0x1B04) : (writeRes a v s).kt = s.kt := by
  simp only [writeRes, if_neg h]
  exact ite_kt rfl (ite_kt rfl (ite_kt rfl rfl))

theorem writeCal_kt (h : a ≠ 0x1C20) : (writeCal a v s).kt = s.kt := by
  simp only [writeCal, if_neg h]
  exact ite_kt (modCal_kt ..) (ite_kt (modCal_kt ..) rfl)

theorem reelCfg_kt : (reelCfg v s).kt = s.kt :=
  ite_kt rfl (ite_kt (modReel_kt ..) (ite_kt (modReel_kt ..) (modReel_kt ..)))

theorem writeTrace_kt (h : a ≠ 0x1D8C) : (writeTrace a v s).kt = s.kt := by
  simp only [writeTrace, if_neg h]
  refine ite_kt rfl ?_
  iterate 4 refine ite_kt (modReel_kt ..) ?_
  exact ite_kt reelCfg_kt (ite_kt (modReel_kt ..) (ite_kt (modDump_kt ..) (ite_kt (modDump_kt ..) (ite_kt (modDump_kt ..) rfl))))

theorem irqSetCfg_kt (n : Nat) (e w : Bool) (t : BitVec 16) (s : State) : (irqSetCfg n e w t s).kt = s.kt :=
  ite_kt rfl (ite_kt rfl rfl)

theorem irqW1C_kt (n : Nat) (s : State) : (irqW1C n s).kt = s.kt := ite_kt rfl rfl

theorem assertSource_kt (n : Nat) (s : State) : (assertSource n s).kt = s.kt := ite_kt rfl rfl

theorem irqEnWrite_kt (k : Nat) : (irqEnWrite k v s).kt = s.kt := foldl_kt (fun _ _ => irqSetCfg_kt ..) _ _

theorem irqPendWrite_kt (k : Nat) : (irqPendWrite k v s).kt = s.kt := foldl_kt (fun _ _ => ite_kt (irqW1C_kt ..) rfl) _ _

theorem writeIrq_kt : (writeIrq a v s).kt = s.kt :=
  ite_kt rfl (ite_kt (irqSetCfg_kt ..) (ite_kt (ite_kt (irqW1C_kt ..) rfl) (ite_kt (assertSource_kt ..)
    (ite_kt (irqEnWrite_kt _) (ite_kt (irqPendWrite_kt _) rfl)))))

theorem stepStart_kt (s : State) : (stepStart s).kt = s.kt := ite_kt rfl rfl

theorem stepCfg_kt : (stepCfg v s).kt = s.kt := by
  unfold stepCfg
  exact ite_kt (modBoot_kt ..) (ite_kt (stepStart_kt _) (modStep_kt ..))

theorem bubCfg_kt : (bubCfg v s).kt = s.kt := by
  unfold bubCfg
  exact ite_kt (modBoot_kt ..) (modPwr_kt ..)

theorem writePower_kt (h : a ≠ 0x1F04) : (writePower a v s).kt = s.kt := by
  simp only [writePower, if_neg h]
  iterate 4 refine ite_kt (modPwr_kt ..) ?_
  refine ite_kt stepCfg_kt ?_
  iterate 3 refine ite_kt (modStep_kt ..) ?_
  exact ite_kt bubCfg_kt (ite_kt (modPwr_kt ..) rfl)

theorem writeSec_kt (h : a ≠ 0x200C) : (writeSec a v s).kt = s.kt := by
  simp [writeSec, h]

theorem sqWdog_kt (n : Nat) : (sqWdog n v s).kt = s.kt := ite_kt (modSq_kt ..) (modSq_kt ..)

theorem writeBoot_kt (h1 : a ≠ 0x2110) (h2 : a ≠ 0x2164) (h3 : a ≠ 0x2168) (h4 : a ≠ 0x216C) (h5 : a ≠ 0x2170) (h6 : a ≠ 0x217C) :
    (writeBoot c a v s).kt = s.kt := by
  simp only [writeBoot, if_neg h1, if_neg h2, if_neg h3, if_neg h4, if_neg h5, if_neg h6]
  exact ite_kt (sqWdog_kt 0) (ite_kt (sqWdog_kt 1) (ite_kt (modSq_kt ..) (ite_kt (modSq_kt ..) (ite_kt (modBoot_kt ..)
    (ite_kt (modBoot_kt ..) rfl)))))

theorem writePorts_kt : (writePorts a v s).kt = s.kt := ite_kt rfl rfl

/-- A write to a register that the initial register values may name. -/
theorem regPut_kt (h : regsAllowed a = true) : (regPut c a v s).kt = s.kt := by
  have hn : ∀ b ∈ commandRegs, a ≠ b := fun b hb e => by
    rw [e, commandRegs_notAllowed b hb] at h
    cases h
  simp only [commandRegs, List.forall_mem_cons, List.not_mem_nil, false_implies, implies_true, and_true] at hn
  obtain ⟨h1, h2, h3, h4, h5, h6, h7, h8, h9, h10, h11, h12, h13, h14, h15, h16, h17⟩ := hn
  unfold regPut
  refine ite_kt writePage0_kt (ite_kt (writeAgents_kt h1) (ite_kt (writeObjs_kt h2) (ite_kt rfl (ite_kt writeReds_kt
    (ite_kt (writeWms_kt h3) (ite_kt rfl (ite_kt writeLaunch_kt (ite_kt (writeCtxs_kt h4 h5) (ite_kt (writeFelt_kt h6)
    (ite_kt (writeRes_kt h7) (ite_kt (writeCal_kt h8) (ite_kt (writeTrace_kt h9) (ite_kt writeIrq_kt (ite_kt (writePower_kt h10)
    (ite_kt (writeSec_kt h11) (ite_kt (writeBoot_kt h12 h13 h14 h15 h16 h17) (ite_kt writePorts_kt rfl)))))))))))))))))

end

/-! ## LOAD and the Kind Table (04 R116; 18 R420) -/

section

variable {s : State}

theorem configRegs_kt {bs : List Byte} (h : regsOk bs = true) : (configRegs bs s).kt = s.kt := by
  unfold regsOk at h
  unfold configRegs
  generalize regsEntries bs = l at h ⊢
  induction l generalizing s with
  | nil => rfl
  | cons e l ih =>
    obtain ⟨he, hl⟩ := Bool.and_eq_true_iff.mp (List.all_cons.symm.trans h)
    exact (ih hl).trans (regPut_kt he)

theorem configTopo_kt (t : Topo) : (configTopo t s).kt = s.kt := rfl

theorem configCal_kt (v : BitVec 2048) : (configCal v s).kt = s.kt := foldl_kt (fun _ _ => modPins_kt ..) _ _

theorem configLimits_kt (p : Policy) : (configLimits p s).kt = s.kt := rfl

theorem bootFail_kt (e p : Nat) (s : State) : (bootFail e p s).kt = s.kt := rfl

theorem openContext_kt (c : CtxId) : (openContext c s).kt = s.kt := rfl

theorem calStart_kt (s : State) : (calStart s).kt = s.kt := ite_kt (modCal_kt ..) rfl

theorem sendSync_kt (d : DieId) (s : State) : (sendSync d s).kt = s.kt := by
  unfold sendSync
  dsimp only
  split
  · rfl
  · exact ite_kt rfl rfl

theorem linksBegin_kt (h : Header) (parts : List (List Byte)) (s : State) : (linksBegin h parts s).kt = s.kt :=
  foldl_kt (fun _ _ => sendSync_kt ..) _ _

/-- CONFIG takes registers, limits and streams over, and leaves the kinds that LOAD has placed. -/
theorem configure_kt {h : Header} {t : Topo} {p : Policy} {cal : BitVec 2048} {parts : List (List Byte)}
    (hr : regsOk (parts.getD 5 []) = true) : (configure h t p cal parts s).kt = s.kt := by
  have e : ∀ u : State, (configLimits p (configCal cal (configRegs (parts.getD 5 []) (configTopo t u)))).kt = u.kt := fun u =>
    (configLimits_kt p).trans ((configCal_kt cal).trans ((configRegs_kt hr).trans (configTopo_kt t)))
  exact ite_kt ((bootFail_kt ..).trans (e _)) ((linksBegin_kt ..).trans ((calStart_kt _).trans ((openContext_kt 0).trans (e _))))

theorem kindsOk_placeKinds (bs : List Byte) (s : State) : kindsOk (placeKinds bs s).kt.kinds = true := by
  unfold placeKinds
  cases h : loadKinds bs with
  | ok l => exact kindsOk_loadKinds h
  | error e =>
    dsimp only
    rw [logEvent_kt]
    exact kindsOk_nil

/-- The image's version is shown from CHECK on (18 R415). -/
def versioned (v : W32) (s : State) : State := modBoot (fun b => { b with imgver := v }) s

/-- What LOAD can come to: nothing where none is due, a failed start-up, or CONFIG on the kinds placed. -/
theorem loadImage_cases (cal : BitVec 2048) (parts : List (List Byte)) (s : State) :
    loadImage cal parts s = s ∨ (∃ e p v, loadImage cal parts s = bootFail e p (versioned v s)) ∨
      ∃ h t p, regsOk (parts.getD 5 []) = true ∧
        loadImage cal parts s = configure h t p cal parts (placeKinds (parts.getD 1 []) (versioned h.imgver s)) := by
  unfold loadImage
  cases s.boot.header with
  | none => exact .inl rfl
  | some h =>
    by_cases hp : s.boot.phase ≠ .load
    · exact .inl (if_pos hp)
    · simp only [if_neg hp]
      right
      cases digestBad h parts with
      | some i => exact .inl ⟨6, i, s.boot.imgver, rfl⟩
      | none =>
        cases loadTopo (parts.getD 0 []) with
        | none => exact .inl ⟨7, 0, h.imgver, rfl⟩
        | some t =>
          cases loadPolicy (parts.getD 2 []) with
          | none => exact .inl ⟨8, 0, h.imgver, rfl⟩
          | some p =>
            cases regsOk (parts.getD 5 []) with
            | false => exact .inl ⟨9, 5, h.imgver, rfl⟩
            | true => exact .inr ⟨h, t, p, rfl, rfl⟩

/-- LOAD leaves the kinds as they were, or those that its table's checks have let pass. -/
theorem kindsOk_loadImage (cal : BitVec 2048) (parts : List (List Byte)) (h : kindsOk s.kt.kinds = true) :
    kindsOk (loadImage cal parts s).kt.kinds = true := by
  obtain e | ⟨_, _, _, e⟩ | ⟨_, _, _, hr, e⟩ := loadImage_cases cal parts s
  · rwa [e]
  · rw [e, bootFail_kt]
    exact h
  · rw [e, configure_kt hr]
    exact kindsOk_placeKinds ..

end

/-! ## A step and the Kind Table -/

/-- What a command does: its effect in a cycle of its own, or a reset or LOAD, which alone may change the Kind Table. -/
theorem exec_cases {c : Instr} {s t : State} (h : exec c s = .next t) :
    (∃ f, t = inCycle f s) ∨ (∃ x, t = bootCycle (porst x) s) ∨ t = bootCycle (whenOn warmReset) s ∨ t = bootCycle supplyFails s ∨
      ∃ cal parts, t = bootCycle (whenOn (loadImage cal parts)) s := by
  cases c with
  | porstN x => exact .inr (.inl ⟨x, (Host.Outcome.next.inj h).symm⟩)
  | warmRstN => exact .inr (.inr (.inl (Host.Outcome.next.inj h).symm))
  | pdAonSupplyFails => exact .inr (.inr (.inr (.inl (Host.Outcome.next.inj h).symm)))
  | load cal parts => exact .inr (.inr (.inr (.inr ⟨cal, parts, (Host.Outcome.next.inj h).symm⟩)))
  | _ => exact .inl ⟨_, (Host.Outcome.next.inj h).symm⟩

theorem inCycle_kinds (f : State → State) (s : State) : (inCycle f s).kt.kinds = s.kt.kinds := by
  simp only [inCycle]

theorem bootCycle_kinds (f : State → State) (s : State) : (bootCycle f s).kt.kinds = (f (tick s)).kt.kinds := by
  simp only [bootCycle]

theorem whenOn_kinds {f : State → State} {s : State} (h : kindsOk s.kt.kinds = true) (hf : kindsOk (f s).kt.kinds = true) :
    kindsOk (whenOn f s).kt.kinds = true := by
  unfold whenOn
  split_ifs
  · exact hf
  · exact h

theorem kindsOk_exec {c : Instr} {s t : State} (hk : kindsOk s.kt.kinds = true) (h : exec c s = .next t) :
    kindsOk t.kt.kinds = true := by
  obtain ⟨f, rfl⟩ | ⟨x, rfl⟩ | rfl | rfl | ⟨cal, parts, rfl⟩ := exec_cases h
  · rwa [inCycle_kinds]
  all_goals rw [bootCycle_kinds]
  · exact kindsOk_nil
  · exact whenOn_kinds (s := tick s) hk kindsOk_nil
  · exact kindsOk_nil
  · exact whenOn_kinds (s := tick s) hk (kindsOk_loadImage (s := tick s) cal parts hk)

/-- Settles O59: of all that a step can be, a reset leaves no kind and LOAD those that its checks let pass; any other step keeps
the kinds that it finds. -/
theorem kindTableStaysChecked : Obligations.KindTableStaysChecked := by
  unfold Obligations.KindTableStaysChecked
  intro s t hk h
  unfold step at h
  split at h
  · obtain rfl := Host.Outcome.next.inj h
    rwa [idleCycle, inCycle_kinds]
  · next c cs _ => exact kindsOk_exec (s := { s with pending := cs }) hk h

end Sys2Proof.Proofs.KindTables
end

section
/-! LOAD (18 R415, R420): the statement about it breaks on what a sequencer's memory holds before. -/

namespace Sys2Proof.Proofs.KindTables

open Sys2Proof Sys2Proof.Machine Sys2Proof.Proofs.Messages

/-- LOAD of good partitions comes to CONFIG. -/
theorem loadImage_good {cal : BitVec 2048} {parts : List (List Byte)} {s : State} {h : Header} {t : Topo} {p : Policy}
    (hp : s.boot.phase = .load) (hh : s.boot.header = some h) (hd : digestBad h parts = none) (ht : loadTopo (parts.getD 0 []) = some t)
    (hl : loadPolicy (parts.getD 2 []) = some p) (hr : regsOk (parts.getD 5 []) = true) :
    loadImage cal parts s = configure h t p cal parts (placeKinds (parts.getD 1 []) (versioned h.imgver s)) := by
  simp only [loadImage, hh, hp, hd, ht, hl, hr]
  rfl

/-! ## LOAD onto a memory that is not empty (18 R420, R426) -/

/-- The topology table of a die alone. -/
def loneTopo : List Byte :=
  toBytes 64 (0x47545031 + 2 ^ 32 * 64 + 2 ^ 96 + 2 ^ 128 + 2 ^ 136 + 2 ^ 144 + 2 ^ 152 + 2 ^ 168 * 0xFF + 2 ^ 176 * 3)

/-- A security policy that allows 64 grants in its window. -/
def plainPolicy : List Byte := toBytes 128 (0x47504C31 + 2 ^ 64 * 0x50 + 2 ^ 72 * 0x60 + 2 ^ 80 * 64)

/-- Initial register values that give context 0 a table of one page. -/
def onePage : List Byte := toBytes 8 (0x190C + 2 ^ 32)

/-- The partitions of an image without kinds and without firmware. -/
def bareParts : List (List Byte) := [loneTopo, [], plainPolicy, [], [], onePage]

/-- Its header, whose directory holds each partition's length and digest. -/
def bareHeader : Header :=
  { sckDiv := 4, rolemap := false, length := 640, imgver := 7, linkwait := 1, caloff := 0
    parts := bareParts.map (fun b => { off := 0, len := b.length, digest := Config.sha384 b.length (leNat b) }) }

/-- A die whose LOAD is due, with a byte in the OUTBOX of sequencer 0, as SQ_SEND can leave it before LOAD. -/
def writtenDie : State :=
  { State.reset with
    boot := { State.reset.boot with phase := .load, header := some bareHeader }
    sq := { State.reset.sq with sq0 := { State.reset.sq.sq0 with mem := [(0x1BE00, 1)] } } }

theorem bareParts_digests : digestBad bareHeader bareParts = none := by
  simp [digestBad, bareHeader, bareParts, List.range_succ]

/-- The die in CONFIG. -/
def configuredDie : State :=
  configure bareHeader ((loadTopo loneTopo).getD {}) ((loadPolicy plainPolicy).getD {}) 0 bareParts
    (placeKinds [] (versioned 7 (tick writtenDie)))

theorem writtenDie_configured : whenOn (loadImage 0 bareParts) (tick writtenDie) = configuredDie := by
  have ha : alive (tick writtenDie) = true := by decide +kernel
  refine (if_pos ha).trans (loadImage_good ?_ ?_ bareParts_digests ?_ ?_ ?_)
  · decide +kernel
  · rfl
  · decide +kernel
  · decide +kernel
  · decide +kernel

/-- The rest of the cycle, LINKS included, leaves the byte where it was. -/
theorem configuredDie_keeps : (settle false configuredDie).sq.sq0.mem = [(0x1BE00, 1)] := by
  decide +kernel

theorem bootCycle_sq (f : State → State) (s : State) : (bootCycle f s).sq = (settle false (f (tick s))).sq := by
  simp only [bootCycle]

/-- Refutes O43, whose third clause has the firmware alone in a sequencer's memory but does not ask that the memory was empty: LOAD
writes the firmware from offset 0 on and keeps the rest, here a byte of OUTBOX. -/
theorem not_loadCompletes : ¬ Obligations.LoadCompletes := by
  unfold Obligations.LoadCompletes
  rintro ⟨-, -, h⟩
  have claim := h 0 bareParts writtenDie bareHeader ((loadTopo loneTopo).getD {}) ((loadPolicy plainPolicy).getD {}) 1
  iterate 3 specialize claim (by decide +kernel)
  specialize claim rfl bareParts_digests
  iterate 10 specialize claim (by decide +kernel)
  obtain ⟨u, hu, -, -, -, -, -, -, -, -, -, -, -, -, -, -, -, -, ⟨-, -, hm⟩, -⟩ := claim
  obtain rfl : bootCycle (whenOn (loadImage 0 bareParts)) writtenDie = u := Host.Outcome.next.inj hu
  rw [bootCycle_sq, writtenDie_configured, configuredDie_keeps] at hm
  exact absurd hm (by decide +kernel)

end Sys2Proof.Proofs.KindTables
end


section
/-! The events of a chain (04 R109-R111) and of a launch (10 R246) that no requester is answered for: what they come to at their slot,
and the cycle that grants them. -/

namespace Sys2Proof.Proofs.KindTables

open Sys2Proof Sys2Proof.Machine Sys2Proof.Laws Sys2Proof.Proofs.Organisation Sys2Proof.Proofs.Messages Sys2Proof.Proofs.Objects

/-! ## An event that nobody is answered (04 R109, R110; 10 R246) -/

section

variable {op : Op} {n : Nat} {s : State}

/-- A chained INVOKE or a post-operation, whose OK is not sent anywhere. -/
def silent : Src → Bool
  | .chained => true
  | .chainedPost => true
  | .post _ => true
  | _ => false

theorem answerD_silent (h : silent op.src = true) (a b : W64) (d : BitVec 512) : answerD op stOk a b d s = s := by
  unfold answerD
  cases hs : op.src <;> simp_all [silent, countStatus, stOk]

theorem setLastsig_nobody (x y : Obj) : setLastsig x y none = y := by simp [setLastsig]

/-- The pass of such an event that changes its object alone. -/
theorem silent_pass {q : Bool} (h : silent op.src = true) (ho : actsByKind op.opcode) (hk : kindUnknown s (objAt s n).kind = false)
    (hl : listAt s n = []) (hh : holdersOf s n = []) (p : Plain (answerOfKind s op n)) (hw : s.wt.walks = []) :
    endPass op n false (evalObj q none op n s).1 (evalObj q none op n s).2 = withObject n (objectAfter s op n) s := by
  obtain ⟨hwm, hdv⟩ := setLastsig_flags (objAt s n) (answerOfKind s op n).obj (whoOf op)
  obtain ⟨b, e⟩ := evalKind_plain (q := q) hl hh p
  obtain ⟨l, el⟩ := withObject_eq n (objectAfter s op n) s
  have ho' : objAt (withObject n (objectAfter s op n) s) n = objectAfter s op n := objAt_withObject ..
  have hd : (objAt (withObject n (objectAfter s op n) s) n).diverged = false := by rw [ho']; exact hdv.trans p.diverged
  have hm : (objAt (withObject n (objectAfter s op n) s) n).wmark = false := by rw [ho']; exact hwm.trans p.wmark
  have ht := testAll_empty (w := b) ((listAt_withObject ..).trans hl) hm (by rw [el]; exact hw)
  rw [evalObj_actsByKind ho (kindUnfit_ok hk p.status), e]
  simpa [endPass, answerPass, okOrDiverged_clear hd, answerD_silent h, finishPass, sendGrants, doOut] using ht

end

/-! ## A chained INVOKE (04 R109-R111) -/

/-- The operation of a chained INVOKE. -/
def chainedOp (c : Chain) : Op :=
  { opcode := opInvoke, agent := c.agent.getD 0, ctx := c.ctx, a := c.ecode.setWidth 64, b := c.x
    src := if c.agent = none then .chainedPost else .chained }

theorem whoOf_chainedOp (c : Chain) : whoOf (chainedOp c) = c.agent := by
  cases h : c.agent <;> simp [chainedOp, whoOf, h]

theorem silent_chainedOp (c : Chain) : silent (chainedOp c).src = true := by
  cases h : c.agent <;> simp [chainedOp, silent, h]

section

variable {c : Chain} {s : State}

/-- A chained INVOKE that reaches an object of a user kind of its context, and that no state gate refuses. -/
structure ChainReaches (c : Chain) (s : State) : Prop where
  free : blocked s (.slot c.target) = false
  alive : thirdDead s c.target = false
  clean : clean (slotAt s c.target) = true
  kind : (objAt s c.target).kind ≠ 0
  known : kindUnknown s (objAt s c.target).kind = false
  user : isBuiltin (objAt s c.target).kind = false
  owner : (objAt s c.target).owner = c.ctx
  gate : (if c.granted then c.gate else stateGate s opInvoke c.ctx) = none

theorem chainOp_reaches (h : ChainReaches c s) (he : s.couch.entering = []) :
    chainOp c s = endPass (chainedOp c) c.target false (evalObj false none (chainedOp c) c.target s).1
      (evalObj false none (chainedOp c) c.target s).2 := by
  have hop : ({ opcode := opInvoke, agent := c.agent.getD 0, ctx := c.ctx, a := c.ecode.setWidth 64, b := c.x
                src := if c.agent.isSome then .chained else .chainedPost } : Op) = chainedOp c := by
    cases hc : c.agent <;> simp [chainedOp, hc]
  have hm : ¬(isBuiltin (objAt s c.target).kind = true ∨ (objAt s c.target).kind = 0 ∨ kindUnknown s (objAt s c.target).kind = true ∨
      (objAt s c.target).owner ≠ c.ctx) := by
    have hk : (objAt s c.target).kind ≠ 0#8 := h.kind
    simp [hk, h.known, h.user, h.owner]
  have hg := h.gate
  unfold chainOp
  simp only [enterSlots_empty _ he]
  split at hg <;> simp_all [h.free, h.alive, resolve_clean h.clean]

/-- What a chained INVOKE comes to that changes its object alone. -/
theorem chainOp_acts (h : ChainReaches c s) (he : s.couch.entering = []) (hl : listAt s c.target = [])
    (hh : holdersOf s c.target = []) (p : Plain (answerOfKind s (chainedOp c) c.target)) (hw : s.wt.walks = []) :
    chainOp c s = withObject c.target (objectAfter s (chainedOp c) c.target) s :=
  (chainOp_reaches h he).trans (silent_pass (silent_chainedOp c) (by simp [actsByKind, chainedOp]) h.known hl hh p hw)

end

/-! ## A cycle that grants it in slot 0 (06 R161) -/

section

variable {c : Chain} {s : State}

/-- The state in which a lone chained INVOKE is carried out, the Headbox apart. -/
def unchained (s : State) : State := { s with hb := { s.hb with chains := [] } }

/-- What `stillArb` sees of the Headbox. -/
def steadyHb (h : Headbox) : Headbox :=
  { h with slot0 := false, granted := 0, grantedR := 0, counted := 0, arb := {}, window := [], rounds := 0, maxWait := 0 }

theorem stillArb_withHb {h : Headbox} {T : State} (e : steadyHb h = steadyHb T.hb) : stillArb (withHb h T) = stillArb T :=
  congrArg (fun b => withHb b (stillArb T)) e

/-- A command whose effect is `T` but for what `stillArb` does not see of the Headbox, with nothing waiting. -/
theorem cycle_leads {f : State → State} {hd : Headbox} {T : State} (hf : f (tick s) = withHb hd T) (hr : rest (withHb hd T) = true)
    (hp : T.pending = s.pending) (hk : T.kt.kinds = s.kt.kinds) (hh : stillArb (withHb hd T) = stillArb T) :
    Leads (.next (inCycle f s)) T := by
  have e := still_inCycle_same f s (by rwa [hf]) (by rwa [hf]) (by rwa [hf])
  exact ⟨_, rfl, (still_arb (e.trans (congrArg still hf))).trans hh⟩

/-- A chained INVOKE that alone waits, and that changes its object alone: the cycle that grants it leaves that change and the count of
the grant. -/
theorem chain_settles (hc : s.hb.chains = [c]) (hr : rest (unchained s) = true) (hg : canGrant (tick s) = true) (h : ChainReaches c s)
    (hl : listAt s c.target = []) (hh : holdersOf s c.target = []) (p : Plain (answerOfKind s (chainedOp c) c.target)) :
    Leads (exec .chainedInvoke s) (withObject c.target (objectAfter s (chainedOp c) c.target) (bumpAon 0x00 (unchained (tick s)))) := by
  have q := resting hr
  obtain ⟨B, hB⟩ : ∃ B, B = bumpAon 0x00 (unchained (tick s)) := ⟨_, rfl⟩
  obtain ⟨T, hT⟩ : ∃ T, T = withObject c.target (objectAfter s (chainedOp c) c.target) B := ⟨_, rfl⟩
  let hd : Headbox := { (tick s).hb with
    chains := [], slot0 := true, granted := 1, window := windowNow (tick s) ++ [(tick s).clk.cycle] }
  have hk : Kept (unchained (tick s)) T := by
    have h : Kept (unchained (tick s)) B := by
      rw [hB]
      exact ⟨⟨rfl, rfl, rfl⟩, rfl, rfl⟩
    rw [hT]
    exact h.withObject
  have hd' : T.hb = (unchained (tick s)).hb := hk.hb
  have hx : ChainReaches c (withHb hd B) := by
    rw [hB]
    exact ⟨h.free, h.alive, h.clean, h.kind, h.known, h.user, h.owner, h.gate⟩
  have hf : (if canGrant (tick s) then grantChain (tick s) else tick s) = withHb hd T := by
    have e : grantChain (tick s) = chainOp c (withHb hd B) := by
      unfold grantChain
      rw [show (tick s).hb.chains = [c] from hc, hB]
      rfl
    rw [if_pos hg, e, hT, withHb_withObject]
    subst hB
    exact chainOp_acts hx q.entering hl hh p q.walks
  have hv : rest (withHb hd T) = true := by
    refine (rest_withHb ?_).trans (hk.rest.trans hr)
    simp only [headEmpty, withHb, hd, hd']
    rfl
  rw [← hB, ← hT]
  refine cycle_leads hf hv hk.pending hk.kinds (stillArb_withHb ?_)
  rw [hd']
  rfl

end

/-! ## A post-operation at its slot (10 R246) -/

section

variable {op : Op} {n : Nat} {s : State}

/-- A post-operation whose object is of its context, and that no state gate refuses. -/
structure PostReaches (op : Op) (n : Nat) (s : State) : Prop where
  free : blocked s (.slot n) = false
  alive : thirdDead s n = false
  clean : clean (slotAt s n) = true
  kind : (objAt s n).kind ≠ 0
  known : kindUnknown s (objAt s n).kind = false
  owner : (objAt s n).owner = op.ctx
  gate : stateGate s op.opcode op.ctx = none

theorem postRun_reaches (h : PostReaches op n s) (he : s.couch.entering = []) :
    postRun op n s = endPass op n false (evalObj true none op n s).1 (evalObj true none op n s).2 := by
  have hm : ¬((objAt s n).kind = 0 ∨ (objAt s n).owner ≠ op.ctx) := by simpa [h.owner] using h.kind
  unfold postRun postPass
  simp only [h.gate, enterSlots_empty _ he, h.free, h.alive, resolve_clean h.clean, hm, Bool.false_eq_true, if_false]

/-- What a post-operation comes to that changes its object alone. -/
theorem postRun_acts (h : PostReaches op n s) (hs : silent op.src = true) (ho : actsByKind op.opcode) (he : s.couch.entering = [])
    (hl : listAt s n = []) (hh : holdersOf s n = []) (p : Plain (answerOfKind s op n)) (hw : s.wt.walks = []) :
    postRun op n s = withObject n (objectAfter s op n) s :=
  (postRun_reaches h he).trans (silent_pass hs ho h.known hl hh p hw)

theorem postOf_actsByKind (d : Desc) (k : Nat) : actsByKind (postOf d k).opcode := by
  unfold actsByKind postOf
  cases d.postGive <;> simp

end

section

variable {d : Desc} {k : Nat} {s : State}

/-- The state with another launcher. -/
def withLa (l : Launcher) (s : State) : State := { s with la := l }

theorem withLa_withObject (l : Launcher) (n : Nat) (o : Obj) (s : State) :
    withLa l (withObject n o s) = withObject n o (withLa l s) :=
  apply_ite (withLa l) ..

/-- The launcher after the post-operation of descriptor `k`: its launch is over, and is counted (14 R349). -/
def launchOver (k : Nat) (l : Launcher) : Launcher :=
  { l with runs := dropFirst (fun r => r.desc == k && r.stage == .post) l.runs, done := sat16 l.done }

/-- The end of a launch leaves a descriptor that is not to be freed. -/
theorem endLaunch_live (hd : tget s.la.descs k = some d) (hl : d.dead = false) :
    endLaunch k (fun r => r.desc == k && r.stage == .post) s = withLa (launchOver k s.la) s := by
  unfold endLaunch
  simp only [hd, hl, Bool.false_and, Bool.false_eq_true, if_false]
  rfl

theorem withObject_la (n : Nat) (o : Obj) (s : State) : (withObject n o s).la = s.la := by
  obtain ⟨l, e⟩ := withObject_eq n o s
  rw [e]

theorem objectAfter_nobody {op : Op} {n : Nat} (h : whoOf op = none) :
    objectAfter s op n = (kindStep (liveKinds s) (objAt s n) [] op none).obj := by
  rw [objectAfter, h, setLastsig_nobody, answerOfKind, h]

/-- A post-operation granted: its object's change, and the end of its launch. -/
theorem postGrant_acts (hd : tget s.la.descs k = some d) (hl : d.dead = false) (h : PostReaches (postOf d k) d.postSlot s)
    (he : s.couch.entering = []) (hq : listAt s d.postSlot = []) (hh : holdersOf s d.postSlot = [])
    (p : Plain (answerOfKind s (postOf d k) d.postSlot)) (hw : s.wt.walks = []) :
    postGrant k s =
      withLa (launchOver k s.la) (withObject d.postSlot (objectAfter s (postOf d k) d.postSlot) s) := by
  have e : slotOp (postOf d k) d.postSlot s = withObject d.postSlot (objectAfter s (postOf d k) d.postSlot) s :=
    postRun_acts h rfl (postOf_actsByKind d k) he hq hh p hw
  have hla := withObject_la d.postSlot (objectAfter s (postOf d k) d.postSlot) s
  unfold postGrant
  simp only [hd, e]
  rw [endLaunch_live (by rwa [hla]) hl, hla]

end

/-! ## A cycle that grants it to LINK (06 R160, R161) -/

section

variable {k : Nat} {s : State}

theorem dieChildren_post (hw : s.hb.waiting = []) (hl : s.hb.link = [.post k]) :
    dieChildren s = if 0 < s.hb.arb.linkD then [4] else [] := by
  simp [dieChildren, eligible, activeAgents, linkReady, hw, hl]

/-- With the post-operation alone to grant, a slot goes to it, in a new round where LINK's credit is spent. -/
theorem serveSlot_post (hw : s.hb.waiting = []) (hl : s.hb.link = [.post k]) :
    ∃ b n, serveSlot s = grantLink { s with hb := { s.hb with arb := b, rounds := n } } := by
  have hr : linkReady s = true := by simp [linkReady, hl]
  unfold serveSlot
  rw [if_neg (by simp [hr])]
  by_cases hc : 0 < s.hb.arb.linkD
  · have hd : dieChildren s = [4] := (dieChildren_post hw hl).trans (if_pos hc)
    refine ⟨s.hb.arb, s.hb.rounds, ?_⟩
    simp only [hd, List.isEmpty_cons, Bool.false_eq_true, if_false, nextAfter_single (by decide : 4 < 5), if_true]
  · have hd : dieChildren s = [] := (dieChildren_post hw hl).trans (if_neg hc)
    have hn : dieChildren (startRound s) = [4] := dieChildren_post (s := startRound s) hw hl
    refine ⟨(startRound s).hb.arb, (startRound s).hb.rounds, ?_⟩
    simp only [hd, List.isEmpty_nil, if_true, hn, nextAfter_single (by decide : 4 < 5)]
    rfl

/-- A slot of a cycle with the post-operation alone to grant. -/
theorem grantSlot_post {c : Bool} (hg : canGrant s = true) (h0 : s.hb.granted = 0) (hw : s.hb.waiting = []) (hc : s.hb.chains = [])
    (hq : s.hb.regq = []) (hl : s.hb.link = [.post k]) :
    ∃ b n, grantSlot c s = postGrant k (noteGrant { s with hb := { s.hb with link := [], arb := b, rounds := n } }) := by
  obtain ⟨b, n, e⟩ := serveSlot_post hw hl
  refine ⟨{ b with ptrDie := 4, linkD := b.linkD - 1 }, n, ?_⟩
  unfold grantSlot
  rw [if_neg (by simp [hg, h0]), if_neg (by simp [hc]), if_neg (by simp [hq]), e]
  unfold grantLink
  simp only [hl]

/-- The state in which the post-operation waits for its slot. -/
def postAsked (k : Nat) (s : State) : State :=
  { tick s with la := { s.la with posts := [] }, hb := { (tick s).hb with link := [.post k] } }

theorem postNext_asks (hp : s.la.posts = [k]) (hl : s.hb.link = []) : postNext (tick s) = postAsked k s := by
  unfold postNext
  rw [show (tick s).la.posts = [k] from hp]
  simp only [show (tick s).hb.link = [] from hl, List.nil_append]
  rfl

/-- The state in which the post-operation is carried out, the Headbox apart. -/
def postGranted (s : State) : State := withLa { s.la with posts := [] } (bumpAon 0x00 (tick s))

/-- What a post-operation leaves. -/
def postDone (k n : Nat) (o : Obj) (s : State) : State :=
  withLa (launchOver k { s.la with posts := [] }) (withObject n o (bumpAon 0x00 (tick s)))

theorem postDone_eq (k n : Nat) (o : Obj) (s : State) : postDone k n o s =
    withObject n o (withLa (launchOver k { s.la with posts := [] }) (bumpAon 0x00 (tick s))) := withLa_withObject ..

theorem kept_postDone (k n : Nat) (o : Obj) (s : State) : Kept (tick s) (postDone k n o s) := by
  have h : Kept (tick s) (withLa (launchOver k { s.la with posts := [] }) (bumpAon 0x00 (tick s))) := ⟨⟨rfl, rfl, rfl⟩, rfl, rfl⟩
  rw [postDone_eq]
  exact h.withObject

end

section

variable {d : Desc} {k : Nat} {s : State}

/-- A post-operation that changes its object alone: the cycle that grants it leaves that change, and the end of its launch. -/
theorem post_settles (hr : rest s = true) (hp : s.la.posts = [k]) (hd : tget s.la.descs k = some d) (hl : d.dead = false)
    (hg : canGrant (tick s) = true) (ha : s.pwr.st = .active) (h : PostReaches (postOf d k) d.postSlot s)
    (hq : listAt s d.postSlot = []) (hh : holdersOf s d.postSlot = []) (p : Plain (answerOfKind s (postOf d k) d.postSlot)) :
    Leads (exec .postOperation s) (postDone k d.postSlot (objectAfter s (postOf d k) d.postSlot) s) := by
  have r := resting hr
  have hk := kept_postDone k d.postSlot (objectAfter s (postOf d k) d.postSlot) s
  obtain ⟨T, hT⟩ : ∃ T, T = postDone k d.postSlot (objectAfter s (postOf d k) d.postSlot) s := ⟨_, rfl⟩
  rw [← hT] at hk ⊢
  obtain ⟨m, hm⟩ := countCycle_eq (postAsked k s)
  obtain ⟨b, n, hs⟩ := grantSlot_post (k := k) (c := !s.hb.chains.isEmpty)
    (s := { postAsked k s with hb := { (postAsked k s).hb with counted := m } }) hg rfl r.waiting r.chains r.regq rfl
  let hb : Headbox := { (tick s).hb with
    link := [], counted := m, granted := 1, window := windowNow (tick s) ++ [(tick s).clk.cycle], arb := b, rounds := n }
  have hx : PostReaches (postOf d k) d.postSlot (withHb hb (postGranted s)) :=
    ⟨h.free, h.alive, h.clean, h.kind, h.known, h.owner, h.gate⟩
  have hgr : grantSlot (!s.hb.chains.isEmpty) (countCycle (postAsked k s)) = withHb hb T := by
    have e := postGrant_acts (s := withHb hb (postGranted s)) hd hl hx r.entering hq hh p r.walks
    rw [hm, hs, hT, postDone_eq, withHb_withObject]
    refine Eq.trans e ?_
    rw [withLa_withObject]
    rfl
  have hb' : T.hb = (tick s).hb := hk.hb
  have hv : rest (withHb hb T) = true := by
    refine (rest_withHb ?_).trans (hk.rest.trans hr)
    simp only [headEmpty, withHb, hb, hb', show (tick s).hb.link = [] from r.link]
  have hf : (if canGrant (tick s) && (tick s).pwr.st != .doze then postNext (tick s) else tick s) = postAsked k s :=
    (if_pos (by simp [hg, show (tick s).pwr.st = .active from ha])).trans (postNext_asks hp r.link)
  refine inCycle_leads (hd := hb) hf rfl ?_ hk (stillArb_withHb ?_)
  · exact settle_from (s := postAsked k s) _ r.rx (acceptPorts_empty r.ports) r.loop r.returned r.inbox r.walks
      ((grantCycle_once hgr (spent_resting (resting hv))).trans (enterAll_empty (resting hv).entering)) hv
  · rw [hb']
    simp only [steadyHb, hb, show (tick s).hb.link = [] from r.link]

end

/-! ## The statement -/

/-- The object that a chained INVOKE leaves: LASTSIG is its agent's, and stays where it has none. -/
theorem objectAfter_chained (c : Chain) (s : State) : objectAfter s (chainedOp c) c.target =
    if c.agent = none then (kindStep (liveKinds s) (objAt s c.target) [] (chainedOp c) c.agent).obj
    else setLastsig (objAt s c.target) (kindStep (liveKinds s) (objAt s c.target) [] (chainedOp c) c.agent).obj c.agent := by
  rw [objectAfter, answerOfKind, whoOf_chainedOp]
  split_ifs with h
  · rw [h, setLastsig_nobody]
  · rfl

/-- Settles O16: neither event has a requester to answer, so that its pass ends with the change of its object; the cycle grants a
chained INVOKE in slot 0, and a post-operation as the one operation of LINK. -/
theorem chainAndPostComplete : Obligations.ChainAndPostComplete := by
  unfold Obligations.ChainAndPostComplete
  constructor
  · intro s c op r o' hc hr hg hb ha hcl hk hu hl hh hn ho hst p
    have hp : Plain (answerOfKind s (chainedOp c) c.target) := by
      rw [answerOfKind, whoOf_chainedOp]
      exact plain_parts p
    have h := chain_settles hc hr hg ⟨hb, ha, hcl, hk, hu, hn, ho, hst⟩ hl hh hp
    rwa [objectAfter_chained] at h
  · intro s k d op r v hr hp hd hdead hg ha hb hal hcl hk hu hl hh ho hst p
    have h := post_settles hr hp hd hdead hg ha ⟨hb, hal, hcl, hk, hu, ho, hst⟩ hl hh (plain_parts p)
    rw [objectAfter_nobody rfl] at h
    obtain ⟨u, hu, e⟩ := h
    refine ⟨u, hu, e.trans (congrArg stillArb ?_)⟩
    have hla : v.la = s.la := withObject_la ..
    simp only [hla]
    rfl

end Sys2Proof.Proofs.KindTables
end

section
/-! Watches and notification (05): the frames that keep watches with their agents, and two statements that a state of theirs breaks. First
what a sequenced frame brings about at the die that hears it, and what handing a frame to Felt comes to where it may leave at once. -/

namespace Sys2Proof.Proofs.Watches

open Sys2Proof Sys2Proof.Machine Sys2Proof.Laws Sys2Proof.Proofs.Organisation Sys2Proof.Proofs.Objects
open Sys2Proof.Proofs.Messages hiding streamTo

/-! ## Felt's streams -/

section

variable {d : DieId} {s : State} {f g : Stream → Stream}

/-- The state with another Felt. -/
def withFelt (l : Felt) (s : State) : State := { s with felt := l }

/-- Of Felt `rest` sees only what a cycle moves by itself. -/
theorem rest_withFelt {l : Felt} (hr : rest s = true) (e : feltEmpty (withFelt l s) = true) : rest (withFelt l s) = true := by
  simp only [rest, Bool.and_eq_true] at hr ⊢
  obtain ⟨⟨⟨⟨⟨⟨⟨⟨head, -⟩, step⟩, passes⟩, brace⟩, dump⟩, clearing⟩, flash⟩, links⟩ := hr
  exact ⟨⟨⟨⟨⟨⟨⟨⟨head, e⟩, step⟩, passes⟩, brace⟩, dump⟩, clearing⟩, flash⟩, links⟩

/-- Nothing waits for a stream that is changed, unless its close becomes due. -/
theorem rest_modStream (hr : rest s = true)
    (hf : ∀ t ∈ s.felt.streams, t.peer = d → ((f t).closeOwed && (f t).unacked.isEmpty) = false) :
    rest (modStream d f s) = true := by
  have q := resting hr
  have hn : ∀ t ∈ (modStream d f s).felt.streams, (t.closeOwed && t.unacked.isEmpty) = false := by
    intro t ht
    obtain ⟨u, hu, rfl⟩ := List.mem_map.mp ht
    split_ifs with hp
    · exact hf u hu hp
    · exact q.closes u hu
  refine rest_withFelt (l := (modStream d f s).felt) hr ?_
  simp only [feltEmpty, Bool.and_eq_true, List.all_eq_true, Bool.not_eq_true', List.isEmpty_iff, Option.isNone_iff_eq_none]
  exact ⟨⟨⟨⟨⟨q.rx, q.txq⟩, q.loop⟩, q.returned⟩, q.owed⟩, hn⟩

theorem peer_streamTo {t : Stream} (h : streamTo s d = some t) : t.peer = d := by
  simpa using List.find?_some h

theorem streamTo_modStream (hf : ∀ t, (f t).peer = t.peer) : streamTo (modStream d f s) d = (streamTo s d).map f := by
  have hp : ((fun t : Stream => t.peer == d) ∘ fun t => if t.peer = d then f t else t) = fun t => t.peer == d := by
    funext t
    simp only [Function.comp_apply]
    split_ifs with h <;> simp [hf, h]
  unfold streamTo modStream
  rw [List.find?_map, hp]
  cases h : List.find? (fun t : Stream => t.peer == d) s.felt.streams with
  | none => rfl
  | some t =>
    have ht : t.peer = d := peer_streamTo h
    simp [ht]

theorem modStream_modStream (hf : ∀ t, (f t).peer = t.peer) :
    modStream d g (modStream d f s) = modStream d (fun t => g (f t)) s := by
  unfold modStream
  simp only [List.map_map]
  congr 2
  apply List.map_congr_left
  intro t _
  simp only [Function.comp_apply]
  split_ifs <;> simp_all

end

/-! ## A frame received (12 R281, R289-R296) -/

section

variable {h : FHdr} {b : Body} {s : State}

/-- What `hears` says, `t` the stream of the sender. -/
structure Hears (h : FHdr) (b : Body) (s : State) (t : Stream) : Prop where
  rest : rest s = true
  on : gclkOn s = true
  run : s.boot.phase = .run
  ok : frameOk s h b = true
  noWake : b ≠ .wake
  noSync : isSync b = false
  fresh : staleRole s h.src b = false
  closes : ∀ t ∈ s.felt.streams, t.peer = h.src → t.closeOwed = false
  stream : streamTo s h.src = some t
  up : t.st = .up
  session : h.session = t.peerSession
  unacked : t.unacked = []
  held : t.held = []
  next : h.sq = true → h.seq = t.exp

theorem hears_parts (hh : hears h b s = true) : ∃ t, Hears h b s t := by
  unfold hears at hh
  cases ht : streamTo s h.src with
  | none => simp [ht] at hh
  | some t =>
    simp only [ht, Bool.and_eq_true, Bool.not_eq_true', beq_iff_eq, bne_iff_ne, ne_eq, List.all_eq_true, Bool.or_eq_true,
      List.isEmpty_iff] at hh
    obtain ⟨⟨⟨⟨⟨⟨⟨⟨hr, ho⟩, hp⟩, hk⟩, hw⟩, hs⟩, hf⟩, hc⟩, ⟨⟨⟨hu, hn⟩, ha⟩, hd⟩, hx⟩ := hh
    exact ⟨t, hr, ho, hp, hk, hw, hs, hf, fun t ht hp => (hc t ht).resolve_left (fun n => n hp), ht, hu, hn, ha, hd,
      fun hq => hx.resolve_left (by simp [hq])⟩

theorem rest_hears (hh : hears h b s = true) : rest s = true := by
  obtain ⟨t, x⟩ := hears_parts hh
  exact x.rest

theorem hears_tick : hears h b (tick s) = hears h b s := rfl

/-- A frame heard from its sender leaves nothing waiting, as before it. -/
theorem undisturbed_heard {t : Stream} (x : Hears h b s t) : Undisturbed s (heard h s) := by
  refine ⟨(rest_modStream x.rest fun t ht hp => ?_).trans x.rest.symm, rfl, rfl⟩
  exact Bool.and_eq_false_iff.mpr (.inl (x.closes t ht hp))

/-- A stream on which everything sent is acknowledged. -/
def acked (t : Stream) : Stream := { t with unacked := [] }

theorem takeAck_none {d : DieId} {a k : W32} {t : Stream} (ht : streamTo s d = some t) (hu : t.unacked = []) :
    takeAck d a k s = modStream d acked s := by
  unfold takeAck
  rw [ht]
  simp only [hu, List.filter_nil, List.foldl_nil]
  rfl

/-- A stream with what the header of a frame brings (12 R279, R293, R298). -/
def headed (h : FHdr) (s : State) (t : Stream) : Stream :=
  { t with
    lastRecv := now s, peerCwait := h.cwait, used := s.clk.cycle
    credit := if (h.credit - t.credit).toNat < 2 ^ 15 then h.credit else t.credit }

/-- The header of a frame from a peer that has everything this die sent. -/
theorem takeHdr_acked {t : Stream} (ht : streamTo s h.src = some t) (hu : t.unacked = []) :
    takeHdr h s = modStream h.src acked (modStream h.src (headed h s) s) := by
  have hp : ∀ t, (headed h s t).peer = t.peer := fun _ => rfl
  have e : streamTo (modStream h.src (headed h s) s) h.src = some (headed h s t) := by
    rw [streamTo_modStream hp, ht, Option.map_some]
  exact takeAck_none e hu

/-- A stream on which frame `q` has come, with no gap behind it (12 R290). -/
def advanced (q : W32) (t : Stream) : Stream := { t with exp := q + 1, held := [] }

/-- A stream that owes an acknowledgement (12 R292, R298). -/
def owing (s : State) (t : Stream) : Stream :=
  { t with ackOwed := true, beatFrom := if beatStream t then t.beatFrom else now s }

/-- A sequenced frame that its stream awaits next, and that ends no gap. -/
theorem seqRx_next {t : Stream} (hs : h.seq = t.exp) (hd : t.held = []) :
    seqRx h b t s = handOver h.src 0 b (modStream h.src (owing s) (modStream h.src (advanced h.seq) s)) := by
  simp only [seqRx, hs, hd, BitVec.sub_self, takeHeld, List.find?_nil, List.foldl_cons, List.foldl_nil, List.isEmpty_nil, if_true]
  rfl

/-- The header of a sequenced frame and its number are all that its stream learns. -/
theorem heard_sequenced (hq : h.sq = true) : heard h s =
    modStream h.src (owing s) (modStream h.src (advanced h.seq) (modStream h.src acked (modStream h.src (headed h s) s))) := by
  rw [modStream_modStream (f := headed h s) fun _ => rfl,
    modStream_modStream (f := fun t => acked (headed h s t)) fun _ => rfl,
    modStream_modStream (f := fun t => advanced h.seq (acked (headed h s t))) fun _ => rfl]
  unfold heard
  congr 1
  funext t
  have e : beatStream (advanced h.seq (acked (headed h s t))) = beatStream (acked t) := rfl
  cases hb : beatStream (acked t) <;> simp_all [owing, acked, advanced, headed]

/-- A sequenced frame heard is handed over. -/
theorem rxFrame_heard {t : Stream} (x : Hears h b s t) (hq : bodySq b = true) : rxFrame h b s = handOver h.src 0 b (heard h s) := by
  have hsq : h.sq = true := by
    have e := x.ok
    simp only [frameOk, Bool.and_eq_true, beq_iff_eq, hq] at e
    tauto
  have ho := x.on
  simp only [gclkOn, Bool.and_eq_true, bne_iff_ne, ne_eq, Bool.not_eq_true'] at ho
  obtain ⟨⟨⟨hdoze, hsleep⟩, hoff⟩, -⟩ := ho
  have hf : feltOn s = true := by simp [feltOn, x.run, hoff]
  calc rxFrame h b s
    _ = streamRx h b s := by simp [rxFrame, hf, x.ok, hsleep, x.noWake, wakeDoze, hdoze]
    _ = liveRx h b t s := by simp [streamRx, x.stream, x.up]
    _ = seqRx h b t (takeHdr h s) := by simp [liveRx, x.noSync, x.up, x.session, hsq]
    _ = handOver h.src 0 b _ := seqRx_next (x.next hsq) x.held
    _ = handOver h.src 0 b (heard h s) := by rw [heard_sequenced hsq, takeHdr_acked x.stream x.unacked]; rfl

/-- A sequenced frame heard, whose handing over comes to `T`. -/
theorem frame_settles {T : State} (hh : hears h b s = true) (hq : bodySq b = true)
    (hT : handOver h.src 0 b (heard h (tick s)) = T) (hu : rest (heard h (tick s)) = true → Undisturbed (heard h (tick s)) T) :
    ∃ u, frameRow h b s = .next u ∧ still u = still T := by
  obtain ⟨t, x⟩ := hears_parts (hears_tick.trans hh)
  have v := undisturbed_heard x
  exact cycle_settles ((rxFrame_heard x hq).trans hT) x.rest (v.trans (hu (v.rest.trans x.rest)))

end

/-! ## A frame sent (12 R289, R292-R294) -/

section

variable {d : DieId} {b : Body} {s : State}

/-- What `leaves` says, `t` the stream to the peer. -/
structure Leaves (d : DieId) (b : Body) (s : State) (t : Stream) : Prop where
  far : d ≠ myDie s
  alone : waitsFor s d = false
  stream : streamTo s d = some t
  can : canSend s t b = true

theorem leaves_parts (h : leaves d b s = true) : ∃ t, Leaves d b s t := by
  unfold leaves at h
  cases ht : streamTo s d with
  | none => simp [ht] at h
  | some t =>
    simp only [ht, Bool.and_eq_true, bne_iff_ne, ne_eq, Bool.not_eq_true'] at h
    obtain ⟨⟨hd, hw⟩, hc⟩ := h
    exact ⟨t, hd, hw, ht, hc⟩

theorem canSend_up {t : Stream} (h : canSend s t b = true) : t.st = .up := by
  simp only [canSend, Bool.and_eq_true, beq_iff_eq] at h
  tauto

theorem seekStream_up {t : Stream} (ht : streamTo s d = some t) (hu : t.st = .up) : seekStream d s = (true, s) := by
  simp [seekStream, ht, hu]

/-- The first transmission of the next frame. -/
theorem txFirst_sent {t : Stream} (ht : streamTo s d = some t) :
    txFirst t { fid := s.felt.fid, dst := d, body := b } { s with felt := { s.felt with fid := s.felt.fid + 1 } } = sent d b s := by
  obtain rfl := peer_streamTo ht
  unfold txFirst wireOut
  simp only
  refine (modStream_modStream ?_).trans ?_
  · exact fun _ => rfl
  unfold sent
  rw [ht]
  rfl

/-- A frame that may leave is sent. -/
theorem sendFrame_leaves (h : leaves d b s = true) : sendFrame d b s = sent d b s := by
  obtain ⟨t, x⟩ := leaves_parts h
  let v : State := { s with felt := { s.felt with fid := s.felt.fid + 1 } }
  have hd : d ≠ myDie v := x.far
  have hv : streamTo v d = some t := x.stream
  have hw : waitsFor v d = false := x.alone
  have hc : canSend v t b = true := x.can
  have hs : (if seeks v d b then (seekStream d v).2 else v) = v := by rw [seekStream_up hv (canSend_up x.can), ite_self]
  have e := txFirst_sent (b := b) x.stream
  unfold sendFrame sendFrameId
  simp only [hd, if_false, show ({ s with felt := { s.felt with fid := s.felt.fid + 1 } } : State) = v from rfl, hs, hv, hw, hc,
    canSend_up x.can]
  exact e

/-- A frame sent changes Felt alone. -/
theorem sent_eq (d : DieId) (b : Body) (s : State) : sent d b s = withFelt (sent d b s).felt s := by
  unfold sent
  split <;> rfl

theorem rest_sent (h : rest s = true) : rest (sent d b s) = true := by
  unfold sent
  split
  · exact h
  · exact rest_modStream (s := withFelt _ s) h (fun t _ _ => by simp)

theorem undisturbed_sent (h : rest s = true) : Undisturbed s (sent d b s) := by
  refine ⟨(rest_sent h).trans h.symm, ?_, ?_⟩ <;> rw [sent_eq] <;> rfl

end

/-! ## A watch freed at its object, its target on another die (05 R131) -/

section

variable {n ix : Nat} {idx : BitVec 16} {d : DieId} {b : Body} {s : State} {w : Watch}

/-- An entry unlinked, with no list being tested: what of the state is written. -/
theorem unlink_eq (n ix : Nat) (h : s.wt.walks = []) : ∃ slots entries, unlink n ix s =
    { s with vat := { s.vat with slots }, wt := { s.wt with entries } } := by
  unfold unlink freeEntry unwalk putList putSlot
  simp only [h, List.map_nil]
  split_ifs <;> (rw [← h]; exact ⟨_, _, rfl⟩)

theorem undisturbed_unlink (h : s.wt.walks = []) : Undisturbed s (unlink n ix s) := by
  obtain ⟨l, e, hu⟩ := unlink_eq n ix h
  rw [hu]
  exact ⟨rfl, rfl, rfl⟩

/-- Whether a frame may leave shows in neither the slots nor the watch table. -/
theorem leaves_unlink (h : s.wt.walks = []) : leaves d b (unlink n ix s) = leaves d b s := by
  obtain ⟨l, e, hu⟩ := unlink_eq n ix h
  rw [hu]
  rfl

theorem withFelt_bumpIf (l : Felt) (n : Nat) (x : Obj × Nat) (s : State) :
    withFelt l (bumpIf n x s) = bumpIf n x (withFelt l s) :=
  apply_ite (withFelt l) ..

theorem sent_bumpIf (x : Obj × Nat) : sent d b (bumpIf n x s) = bumpIf n x (sent d b s) := by
  have e : (sent d b (bumpIf n x s)).felt = (sent d b s).felt := by
    obtain ⟨l, hl⟩ := bumpIf_eq n x s
    have hs : streamTo { s with vat := { s.vat with slots := l } } d = streamTo s d := rfl
    rw [hl]
    unfold sent
    rw [hs]
    cases streamTo s d <;> rfl
  rw [sent_eq d b (bumpIf n x s), e, withFelt_bumpIf, ← sent_eq]

/-- The state in which the watch of entry `idx` is freed and the die of its target told. -/
def unwatched (idx : BitVec 16) (w : Watch) (s : State) : State :=
  sent (dieOf w.target) (.freed idx w.target) (bumpIf w.slot (bytesAt s w.slot) (unlink w.slot idx.toNat s))

theorem freeWatch_far (he : tget s.wt.entries idx.toNat = some (.watch w)) (hw : s.wt.walks = [])
    (hl : leaves (dieOf w.target) (.freed idx w.target) s = true) :
    freeWatch idx.toNat w s = sent (dieOf w.target) (.freed idx w.target) (unlink w.slot idx.toNat s) := by
  have hl' := (leaves_unlink (n := w.slot) (ix := idx.toNat) hw).trans hl
  obtain ⟨t, x⟩ := leaves_parts hl'
  have hi : freedIndex s idx.toNat = idx := by simp [freedIndex, he]
  unfold freeWatch sendFreed
  rw [if_neg x.far, hi, sendFrame_leaves hl']

theorem holdersOf_unwatched (hw : s.wt.walks = []) : holdersOf (unwatched idx w s) n = holdersOf s n := by
  obtain ⟨l, e, hu⟩ := unlink_eq w.slot idx.toNat hw
  obtain ⟨k, hb⟩ := bumpIf_eq w.slot (bytesAt s w.slot) (unlink w.slot idx.toNat s)
  rw [unwatched, sent_eq, hb, hu]
  rfl

/-- A watch freed of an object of which no other die holds a copy. -/
theorem dropWatch_far (he : tget s.wt.entries idx.toNat = some (.watch w)) (hw : s.wt.walks = []) (hh : holdersOf s w.slot = [])
    (hl : leaves (dieOf w.target) (.freed idx w.target) s = true) : dropWatch idx.toNat w s = unwatched idx w s := by
  have hn : holdersOf (unwatched idx w s) w.slot = [] := (holdersOf_unwatched hw).trans hh
  have e : bumpIf w.slot (bytesAt s w.slot) (freeWatch idx.toNat w s) = unwatched idx w s := by
    rw [freeWatch_far he hw hl, ← sent_bumpIf, unwatched]
  unfold dropWatch
  simp only [e, shadowSend_none hn]

theorem undisturbed_unwatched (hr : rest s = true) : Undisturbed s (unwatched idx w s) := by
  have hu : Undisturbed s (bumpIf w.slot (bytesAt s w.slot) (unlink w.slot idx.toNat s)) :=
    (undisturbed_unlink (resting hr).walks).trans (kept_bumpIf (Kept.refl _)).toUndisturbed
  exact hu.trans (undisturbed_sent (hu.rest.trans hr))

end

/-! ## The frames at the home (05 R140, R144) -/

section

variable {src : DieId} {idx : BitVec 16} {s : State} {w : Watch}

theorem homeWatch_watch {p : Watch → Bool} (he : tget s.wt.entries idx.toNat = some (.watch w)) (hp : p w = true) :
    homeWatch s idx p = some (idx.toNat, w, .watch) := by
  simp [homeWatch, he, hp]

/-- A watch still aimed at the old target is aimed at the new one. -/
theorem retargetHere_found {o n : Byte} {x y : AgentId} (he : tget s.wt.entries idx.toNat = some (.watch w)) (hx : w.target = x)
    (ho : w.tinc = o) (hl : leaves src (.wack idx true false) s = true) : retargetHere src idx o n x y s =
      sent src (.wack idx true false) (putEntry idx.toNat (.watch { w with target := y, tinc := n }) s) := by
  have hw := homeWatch_watch (p := fun w => w.target == x && w.tinc == o) he (by simp [hx, ho])
  unfold retargetHere
  rw [hw]
  exact sendFrame_leaves hl

theorem retargetHere_none {o n : Byte} {x y : AgentId} (hw : homeWatch s idx (fun w => w.target == x && w.tinc == o) = none)
    (hl : leaves src (.wack idx false false) s = true) : retargetHere src idx o n x y s = sent src (.wack idx false false) s := by
  unfold retargetHere
  rw [hw]
  exact sendFrame_leaves hl

/-- A watch still aimed at the reset incarnation is freed, and its target's die told. -/
theorem unwatchHere_found (he : tget s.wt.entries idx.toNat = some (.watch w)) (hd : dieOf w.target = src) (hw : s.wt.walks = [])
    (hh : holdersOf s w.slot = []) (hf : leaves src (.freed idx w.target) s = true)
    (hl : leaves src (.wack idx true true) (unwatched idx w s) = true) :
    unwatchHere src idx w.tinc w.target s = sent src (.wack idx true true) (unwatched idx w s) := by
  have hx := homeWatch_watch (p := fun v => v.target == w.target && v.tinc == w.tinc) he (by simp)
  have e := dropWatch_far he hw hh (by rw [hd]; exact hf)
  unfold unwatchHere
  rw [hx]
  simp only [e]
  exact sendFrame_leaves hl

end

/-! ## The last acknowledgement (05 R140, R144) -/

section

variable {op : Op} {src : DieId} {idx : BitVec 16} {s : State}

/-- An OK to a request of the mesh that has no place in the order of responses, none of its line there. -/
theorem answerD_unplaced (hm : op.src = .mesh) (h : OutOfLine op s.hb.order) (a b : W64) (d : BitVec 512) :
    answerD op stOk a b d s = withResp op stOk a b d s := by
  have hn := answersReq_outOfLine h stOk a b d
  have hl : leaveOrder op s = s := by
    unfold leaveOrder
    simp only [hm, dropFirst_none (answersReq_outOfLine h stOk 0 0 0)]
    exact flushLine_none h
  have hr : respond .mesh (respFlit op stOk a b d) s = push 2 (respFlit op stOk a b d) none s := by
    have e : s.hb.order.any (fun u => answersReq .mesh (respFlit op stOk a b d) u && u.resp.isNone) = false :=
      List.any_eq_false.mpr fun u hu => by simp [hn u hu]
    unfold respond
    simp only [e, Bool.false_eq_true, if_false]
    rfl
  unfold answerD withResp
  simp only [hm, countStatus]
  by_cases hq : op.noresp = true
  · simp only [hq, beq_self_eq_true, Bool.and_self, if_true]
    exact hl
  · simp only [hq, Bool.false_and, Bool.false_eq_true, if_false]
    unfold offerResp
    exact (if_pos (Or.inl rfl)).trans hr

/-- The last acknowledgement that the one MOVE waits for. -/
theorem wackHere_move {m : Mv} (hm : s.ag.moves = [m]) (hw : m.wait = [(src, idx)]) (hr : s.ag.resets = [])
    (hu : unanswered s m.x m.xi = false) : wackHere src idx false s = answerZ m.op stOk { s with ag := { s.ag with
      moves := []
      stubs := s.ag.stubs.map (fun b => if b.live ∧ b.x = m.x ∧ b.xi = m.xi then { b with started := true } else b) } } := by
  let v : State := { s with ag := { s.ag with moves := [{ m with wait := [] }] } }
  have e : wackHere src idx false s = movesDone v := by simp [wackHere, hm, hw, dropFirst, v]
  refine e.trans ((movesDone_single (s := v) rfl hr rfl hu).trans ?_)
  simp only [v, hr]

/-- The last acknowledgement that the one reset waits for. -/
theorem wackHere_reset {r : RstWait} (hm : s.ag.moves = []) (hr : s.ag.resets = [r]) (hw : r.wait = [(src, idx)])
    (hu : unanswered s r.agent r.inc = false) : wackHere src idx true s = { s with ag := { s.ag with resets := [] } } := by
  let v : State := { s with ag := { s.ag with resets := [{ r with wait := [] }] } }
  have e : wackHere src idx true s = movesDone v := by simp [wackHere, hr, hw, dropFirst, v]
  refine e.trans ((movesDone_reset (s := v) hm rfl rfl hu).trans ?_)
  simp only [v, hm]

end

/-! ## RETARGET, UNWATCH_RST and WACK -/

/-- Settles O47: the stream takes the frame's header and number and hands it over; the rest is the frame's effect at the home or at the
target's die, whose own frames leave at once. -/
theorem watchFramesComplete : Obligations.WatchFramesComplete := by
  unfold Obligations.WatchFramesComplete
  refine ⟨?_, ?_, ?_, ?_, ?_⟩
  · intro h idx o n x y s w b v ans hh he hx ho hl
    have hl' : leaves h.src ans (putEntry idx.toNat (.watch { w with target := y, tinc := n }) v) = true := hl
    refine frame_settles (b := b) hh rfl (retargetHere_found he hx ho hl') fun hr => ?_
    exact (kept_putEntry ..).toUndisturbed.trans (undisturbed_sent hr)
  · intro h idx o n x y s b v ans hh hn hl
    exact frame_settles (b := b) hh rfl (retargetHere_none (s := v) hn hl) undisturbed_sent
  · intro h idx o x s w b v gone ans w2 hh he hx ho hd hn hlg hla
    subst hx ho
    have hw : v.wt.walks = [] := (resting (rest_hears hh)).walks
    have e : w2 = unwatched idx w v := by rw [unwatched, hd]; rfl
    rw [e] at hla ⊢
    refine frame_settles (b := b) hh rfl (unwatchHere_found (s := v) he hd hw hn hlg hla) fun hr => ?_
    have hu := undisturbed_unwatched (idx := idx) (w := w) hr
    exact hu.trans (undisturbed_sent (hu.rest.trans hr))
  · intro h idx done rst s m b v hh hrst hm hw hu hs hf hr
    subst hrst
    refine frame_settles (b := b) hh rfl ?_ fun _ => (Kept.withResp (s := v) ?_).toUndisturbed
    · refine (wackHere_move (s := v) hm hw hr hu).trans (answerD_unplaced hs ?_ 0 0 0)
      exact firstInLine_outOfLine (s := s) hs hf
    · exact ⟨⟨rfl, rfl, rfl⟩, rfl, rfl⟩
  · intro h idx done rst s a inc b v hh hrst hm hr hu
    subst hrst
    exact frame_settles (b := b) hh rfl (wackHere_reset (s := v) hm hr rfl hu) fun _ => ⟨rfl, rfl, rfl⟩

/-! ## Statements that a state of theirs breaks -/

/-- A WATCH whose condition is VALUE not below 9. -/
def watchFlit : Flit := { a := 9 }

/-- A running die with an object of slot 5 in a STATE that its kind has not, and no burst open. -/
def unfitWatchDie : State := { unfitDie with hb := runningDie.hb }

/-- No watch is registered. -/
theorem unfitWatchDie_registersNone : shown (·.wt.entries.length) (exec (.watch 0 watchFlit) unfitWatchDie) = some 0 := by
  decide +kernel

/-- Refutes O9, whose first clause asks that the object's kind is defined but not that the kind has the object's STATE: a WATCH on an
object in a STATE that it has not, which a fault can leave, is answered KIND_REJECT (04 R107). -/
theorem not_watchUnwatchComplete : ¬ Obligations.WatchUnwatchComplete := by
  unfold Obligations.WatchUnwatchComplete
  rintro ⟨h, -⟩
  have claim := h 0 watchFlit unfitWatchDie 5 false 0
  iterate 8 specialize claim (by decide +kernel)
  exact absurd (refuted_by_shown claim (fun _ => rfl) unfitWatchDie_registersNone) (by decide +kernel)

/-- The write of a dump's record. -/
def dumpWrite : MReq := { use := .dump 0, wr := true, size := 2, addr := 0 }

/-- The write of a Reel record. -/
def reelRecordWrite : MReq := { use := .reel 1, wr := true, size := 1, addr := 0 }

/-- A running die with a dump that comes to the MIRRORs next and has its 32 writes under way, one of them listed under the tag of the
Reel's write, as no step leaves it: the table of outstanding requests is not in canonical form. -/
def twiceTaggedDie : State :=
  { runningDie with
    memp := { runningDie.memp with outst := (2, reelRecordWrite) :: (List.range 32).map (fun i => (2 + i, dumpWrite)) }
    dump := { runningDie.dump with busy := true, todo := [.mirrors] } }

/-- The dump goes on in the cycle of the Reel's response, and comes to its end. -/
theorem twiceTaggedDie_endsDump : shown (·.dump.ended) (exec (.reelWriteResponse 2 0) twiceTaggedDie) = some true := by
  decide +kernel

/-- Refutes O21, whose second clause does not ask that the outstanding requests have tags of their own: where the tag of the Reel's
write is also that of a dump's, the response takes both off the table, and the dump has room for its next write. -/
theorem not_reelAndTimersComplete : ¬ Obligations.ReelAndTimersComplete := by
  unfold Obligations.ReelAndTimersComplete
  rintro ⟨-, h, -⟩
  have claim := h twiceTaggedDie 2 0 reelRecordWrite 1
  iterate 4 specialize claim (by decide +kernel)
  exact absurd (refuted_by_shown claim (fun _ => rfl) twiceTaggedDie_endsDump) (by decide +kernel)

end Sys2Proof.Proofs.Watches
end

section
/-! Watermarks (08): the commands on their records. First a REGP command granted in slot 0 of the cycle that writes it. -/

namespace Sys2Proof.Proofs.Watermarks

open Sys2Proof Sys2Proof.Machine Sys2Proof.Laws Sys2Proof.Proofs.Organisation Sys2Proof.Proofs.Messages Sys2Proof.Proofs.Objects
open Sys2Proof.Proofs.KindTables

/-! ## A REGP command granted in slot 0 (06 R161) -/

/-- What the grant of a REGP command carries out. -/
def runReg : RegCmd → State → State
  | .obj c => runObjCmd c
  | .wm c => runWmCmd c

section

variable {c : RegCmd} {f : State → State} {s B T : State}

/-- A REGP command in line for slot 0 takes it, and is carried out. -/
theorem grantSlot_reg {h : Bool} (hg : canGrant s = true) (h0 : s.hb.granted = 0) (h1 : s.hb.slot0 = false) (hc : s.hb.chains = [])
    (hq : s.hb.regq = [c]) (he : s.couch.entering = []) :
    grantSlot h s = runReg c (noteGrant { s with hb := { s.hb with regq := [], slot0 := true } }) := by
  have e := enterAll_empty (s := noteGrant { s with hb := { s.hb with regq := [], slot0 := true } }) he
  unfold grantSlot grantReg
  rw [if_neg (by simp [hg, h0]), if_neg (by simp [hc]), if_pos (by simp [h0, h1, hq])]
  simp only [hq, e]
  cases c <;> rfl

/-- A command of the cycle that leaves `B` with one REGP command in line: where carrying that out comes to `T`, that is what the
cycle leaves. -/
theorem reg_leads (hr : rest s = true) (hf : f (tick s) = withHb { (tick s).hb with regq := [c] } B) (hg : canGrant B = true)
    (hB : Kept (tick s) B) (hT : Kept (tick s) T) (hc : ∀ h : Headbox, runReg c (withHb h (bumpAon 0x00 B)) = withHb h T) :
    Leads (.next (inCycle f s)) T := by
  have r := resting hr
  have q := resting (hB.rest.trans hr)
  have hb : B.hb = (tick s).hb := hB.hb
  have ht : T.hb = (tick s).hb := hT.hb
  obtain ⟨A, hA⟩ : ∃ A, A = withHb { (tick s).hb with regq := [c] } B := ⟨_, rfl⟩
  obtain ⟨n, hn⟩ := countCycle_eq A
  let hd : Headbox := { (tick s).hb with
    regq := [], counted := n, slot0 := true, granted := 1, window := windowNow A ++ [B.clk.cycle] }
  have hgA : canGrant A = true := by
    rw [← hg, hA]
    simp only [canGrant, windowNow, hb]
    rfl
  have hgr : grantSlot (!s.hb.chains.isEmpty) (countCycle A) = withHb hd T := by
    rw [hn, ← hc hd]
    subst hA
    exact grantSlot_reg hgA rfl rfl r.chains rfl q.entering
  have hv : rest (withHb hd T) = true := by
    refine (rest_withHb ?_).trans (hT.rest.trans hr)
    simp only [headEmpty, withHb, hd, ht, show (tick s).hb.regq = [] from r.regq]
  refine inCycle_leads (hd := hd) (hf.trans hA.symm) ?_ ?_ hT (stillArb_withHb ?_)
  · rw [hA]
    exact hB.map
  · refine settle_from (u := A) _ ?_ (acceptPorts_empty ?_) ?_ ?_ ?_ ?_
      ((grantCycle_once hgr (spent_resting (resting hv))).trans (enterAll_empty (resting hv).entering)) hv <;> rw [hA]
    · exact q.rx
    · exact r.ports
    · exact q.loop
    · exact q.returned
    · exact q.inbox
    · exact q.walks
  · rw [ht]
    simp only [steadyHb, hd, show (tick s).hb.regq = [] from r.regq]

end

/-! ## A Watermark command in its cycle (08 R208) -/

/-- The state with other Watermarks. -/
def withWm (w : Watermarks) (s : State) : State := { s with wm := w }

theorem withWm_withObject (w : Watermarks) (n : Nat) (o : Obj) (s : State) :
    withWm w (withObject n o s) = withObject n o (withWm w s) :=
  apply_ite (withWm w) ..

theorem withObject_wm (n : Nat) (o : Obj) (s : State) : (withObject n o s).wm = s.wm := by
  obtain ⟨l, e⟩ := withObject_eq n o s
  rw [e]

theorem kept_withWm {s t : State} (w : Watermarks) (h : Kept s t) : Kept s (withWm w t) :=
  h.trans ⟨⟨rfl, rfl, rfl⟩, rfl, rfl⟩

/-- The Watermark command that a write of GS_WM_CMD starts. -/
def wmCommandOf (cmd : BitVec 3) (i : BitVec 13) (s : State) : WmCmd := { cmd, idx := i.toNat, image := s.wm.w }

/-- The Watermarks with a command begun: BUSY, and its index shown. -/
def wmBusy (i : BitVec 13) (w : Watermarks) : Watermarks := { w with cmdBusy := true, index := i }

/-- The state in which a Watermark command is carried out. -/
def wmBegun (i : BitVec 13) (s : State) : State := withWm (wmBusy i s.wm) (slotGranted s)

/-- A word written to GS_WM_CMD. -/
def wmWord (cmd : BitVec 3) (i : BitVec 13) : Nat := 2 ^ 3 * i.toNat + cmd.toNat

section

variable {acc : Acc} {cmd : BitVec 3} {i : BitVec 13} {s : State}

theorem regPut_wmCommand (c : Acc) (cmd : BitVec 3) (i : BitVec 13) (s : State) :
    regPut c 0x1620 (BitVec.ofNat 32 (wmWord cmd i)) s = wmCommand cmd i s := by
  have ec : (BitVec.ofNat 32 (wmWord cmd i)).setWidth 3 = cmd := by
    unfold wmWord
    bv_omega
  have ei : (BitVec.ofNat 32 (wmWord cmd i)).extractLsb' 3 13 = i := by
    apply BitVec.eq_of_toNat_eq
    simp only [wmWord, BitVec.extractLsb'_toNat, BitVec.toNat_ofNat, Nat.shiftRight_eq_div_pow]
    omega
  exact congrArg₂ (wmCommand · · s) ec ei

theorem wmCommand_starts (hb : s.wm.cmdBusy = false) (h0 : cmd ≠ 0) (h5 : cmd.toNat < 5) :
    wmCommand cmd i s =
      withHb { s.hb with regq := s.hb.regq ++ [.wm (wmCommandOf cmd i s)] } (withWm (wmBusy i s.wm) s) := by
  unfold wmCommand
  rw [if_neg (by simp [hb])]
  simp only [h0, if_false]
  rw [if_neg (by omega)]
  rfl

/-- The write starts the command. -/
theorem write_wmCommand (h : served acc s = true) (hb : s.wm.cmdBusy = false) (h0 : cmd ≠ 0) (h5 : cmd.toNat < 5) :
    whenPower (regWrite acc 0x1620 (wmWord cmd i)) (tick s) =
      withHb { (tick s).hb with regq := [.wm (wmCommandOf cmd i s)] } (withWm (wmBusy i s.wm) (wrote (tick s))) := by
  have r := resting (served_parts h).rest
  let x : RegAcc := { acc, wr := true, addr := BitVec.ofNat 23 (0x1620 / 4), data := BitVec.ofNat 32 (wmWord cmd i) }
  have e := write_runs (x := x) h rfl rfl
    (v := BitVec.ofNat 32 (2 ^ 31 * bit s.wm.cmdBusy + 2 ^ 28 * s.wm.cmdErr.toNat + 2 ^ 3 * s.wm.index.toNat)) rfl
  refine (access_runs h).trans (e.trans ((congrArg wrote (regPut_wmCommand acc cmd i (tick s))).trans ?_))
  rw [wmCommand_starts (s := tick s) hb h0 h5, show (tick s).hb.regq = [] from r.regq]
  rfl

/-- What a command that ends with ERR 0 leaves of the Watermarks. -/
def wmDone (w : Watermarks) : Watermarks := { w with cmdBusy := false, cmdErr := 0 }

/-- A Watermark command granted in its cycle: where carrying it out ends with ERR 0 the Watermarks `w` of a state `V`, that is what
the cycle leaves. -/
theorem wmCommand_settles {w : Watermarks} {V : State} (h : slotServed acc s = true) (hb : s.wm.cmdBusy = false) (h0 : cmd ≠ 0)
    (h5 : cmd.toNat < 5) (hw : w.cmdBusy = s.wm.cmdBusy) (hk : Kept (slotGranted s) V)
    (hc : ∀ x : Headbox, runWmCmd (wmCommandOf cmd i s) (withHb x (wmBegun i s)) = withHb x (withWm (wmDone w) V)) :
    Leads (.next (inCycle (whenPower (regWrite acc 0x1620 (wmWord cmd i))) s)) { V with wm := { w with cmdErr := 0 } } := by
  obtain ⟨hs, hg⟩ : served acc s = true ∧ canGrant (tick s) = true := by simpa [slotServed] using h
  have e : wmDone w = { w with cmdErr := 0 } := by simp only [wmDone, ← hb, ← hw]
  rw [e] at hc
  refine reg_leads (served_parts hs).rest (write_wmCommand hs hb h0 h5) hg ⟨⟨rfl, rfl, rfl⟩, rfl, rfl⟩ ?_ hc
  exact kept_withWm _ (kept_slotGranted.trans hk)

end

/-! ## What each Watermark command does (08 R196, R201, R204, R207-R209) -/

section

variable {c : WmCmd} {s : State} {w : BitVec 256} {n i : Nat} {r : WmRec}

/-- An object written while a command runs. -/
theorem withWm_begun (x : Headbox) (w : Watermarks) (j : BitVec 13) (n : Nat) (o : Obj) (s : State) :
    withWm w (withObject n o (withHb x (wmBegun j s))) = withHb x (withWm w (withObject n o (slotGranted s))) := by
  rw [← withHb_withObject, wmBegun, ← withWm_withObject]
  rfl

theorem runWmCmd_attach (hc : c.cmd = 1) (h : Ready s (wmOfImage c.image 0).slot) :
    runWmCmd c s = wmAttach c.image (wmOfImage c.image 0).slot false s := by
  simp [runWmCmd, hc, h.free, resolve_clean h.clean]

/-- A command on a record that is there, of an object that nothing holds. -/
structure OnRecord (s : State) (c : WmCmd) (r : WmRec) : Prop where
  found : tget s.wm.recs c.idx = some r
  free : blocked s (.slot r.slot) = false

theorem runWmCmd_detach (hc : c.cmd = 2) (h : OnRecord s c r) : runWmCmd c s = endWmCmd 0 (wmDetach c.idx r.slot s) := by
  simp [runWmCmd, hc, h.found, h.free]

theorem runWmCmd_read (hc : c.cmd = 3) (h : OnRecord s c r) :
    runWmCmd c s = endWmCmd 0 (withWm { s.wm with w := wmState r } s) := by
  simp [runWmCmd, hc, h.found, h.free, withWm]

theorem runWmCmd_retarget (hc : c.cmd = 4) (h : OnRecord s c r) : runWmCmd c s = wmRetarget c.image c.idx r s := by
  simp [runWmCmd, hc, h.found, h.free]

/-- An ATTACH that passes its checks at a level between the bounds writes its record and the object's WMARK, without a notice. -/
theorem wmAttach_between (he : wmAttachErr s w (wmOfImage w 0) = 0) (hi : storeFree s = some i)
    (hs : (wmOfImage w (wmLevel s n (wmOfImage w 0).src)).side = .between) :
    wmAttach w n false s =
      withWm (wmDone { s.wm with
          recs := tset s.wm.recs i (wmOfImage w (wmLevel s n (wmOfImage w 0).src)), index := BitVec.ofNat 13 i })
        (withObject n { objAt s n with wmark := true } s) := by
  have hw := withObject_wm n { objAt s n with wmark := true } s
  simp only [withObject] at hw ⊢
  simp only [wmAttach, he, hi, hs, ne_eq, not_true_eq_false, if_false, if_true, Bool.false_eq_true, putRec, hw]
  rfl

/-- The object of a slot that reads clean, changed in both copies. -/
theorem modObj_clean (f : Obj → Obj) (h : clean (slotAt s n) = true) : modObj n f s = putObj n (f (objAt s n)) s := by
  have hx := clean_mirrored h
  have e : (slotAt s n).b.obj = (slotAt s n).a.obj := congrArg (·.b.obj) hx
  simp only [modObj, putObj, objAt, e]

/-- A record freed while no list is being tested. -/
theorem wmFree_alone (i : Nat) (h : s.wt.walks = []) : wmFree i s = withWm { s.wm with recs := terase s.wm.recs i } s := by
  unfold wmFree unwalk
  simp only [h, List.map_nil]
  rw [← h]
  rfl

/-- WMARK of an object clears where none of the records is its own (08 R204). -/
def unmarked (n : Nat) (l : Tbl WmRec) (s : State) : State :=
  if l.any (fun e => e.2.slot == n) then s else withObject n { objAt s n with wmark := false } s

theorem kept_unmarked (n : Nat) (l : Tbl WmRec) (s : State) : Kept s (unmarked n l s) := by
  unfold unmarked
  split_ifs
  · exact Kept.refl s
  · exact (Kept.refl s).withObject

theorem unmarked_begun (x : Headbox) (w : Watermarks) (j : BitVec 13) (n : Nat) (l : Tbl WmRec) (s : State) :
    withWm w (unmarked n l (withHb x (wmBegun j s))) = withHb x (withWm w (unmarked n l (slotGranted s))) := by
  unfold unmarked
  split_ifs
  · rfl
  · exact withWm_begun ..

/-- A DETACH frees its record, and WMARK is cleared when the object has no other. -/
theorem wmDetach_clean (i : Nat) (h : clean (slotAt s n) = true) (hw : s.wt.walks = []) :
    wmDetach i n s = withWm { s.wm with recs := terase s.wm.recs i } (unmarked n (terase s.wm.recs i) s) := by
  obtain ⟨t, ht⟩ : ∃ t, t = withWm { s.wm with recs := terase s.wm.recs i } s := ⟨_, rfl⟩
  have hc : clean (slotAt t n) = true := by rwa [ht]
  unfold wmDetach unmarked
  rw [wmFree_alone i hw, ← ht, apply_ite (withWm _), withWm_withObject, ← ht]
  simp only [readSlot_clean hc, modObj_clean _ hc]
  rw [ht]
  rfl

theorem wmRetarget_ok (i : Nat) (h : wmTargetOk s w = true) :
    wmRetarget w i r s = withWm (wmDone { s.wm with recs := tset s.wm.recs i { r with
      target := w.extractLsb' 160 30, tinc := w.extractLsb' 192 8, cookie := w.extractLsb' 200 16
      hold := w.extractLsb' 216 8 } }) s := by
  simp only [wmRetarget, h]
  rfl

end

/-- Settles O25: the write starts the command, slot 0 grants it in the same cycle, and the command ends with ERR 0. -/
theorem watermarkCommandsComplete : Obligations.WatermarkCommandsComplete := by
  unfold Obligations.WatermarkCommandsComplete
  refine ⟨?_, ?_, ?_, ?_⟩
  · intro acc s i n r v h hb hf hc he hi hs
    let w : Watermarks := { s.wm with recs := tset s.wm.recs i r, index := BitVec.ofNat 13 i }
    refine wmCommand_settles (cmd := 1) (i := 0) (w := w) (V := v) h hb (by decide) (by decide) rfl (Kept.refl _).withObject
      (fun x => ?_)
    exact (runWmCmd_attach (c := wmCommandOf 1 0 s) (s := withHb x (wmBegun 0 s)) rfl ⟨hf, hc⟩).trans
      ((wmAttach_between (s := withHb x (wmBegun 0 s)) he hi hs).trans (withWm_begun ..))
  · intro acc i s r l v h hb hr hf hc
    refine wmCommand_settles (cmd := 2) (i := i) (w := { s.wm with recs := l, index := i })
      (V := unmarked r.slot l (slotGranted s)) h hb (by decide) (by decide) rfl (kept_unmarked ..) (fun x => ?_)
    have e := wmDetach_clean (s := withHb x (wmBegun i s)) i.toNat hc (walks_slotServed (s := s) h)
    exact (runWmCmd_detach (c := wmCommandOf 2 i s) (s := withHb x (wmBegun i s)) rfl ⟨hr, hf⟩).trans
      ((congrArg (endWmCmd 0) e).trans (unmarked_begun ..))
  · intro acc i s r h hb hr hf
    refine wmCommand_settles (cmd := 3) (i := i) (w := { s.wm with w := wmState r, index := i }) (V := slotGranted s)
      h hb (by decide) (by decide) rfl (Kept.refl _) (fun x => ?_)
    exact runWmCmd_read (c := wmCommandOf 3 i s) rfl ⟨hr, hf⟩
  · intro acc i s r h hb hr hf ht
    refine wmCommand_settles (cmd := 4) (i := i) (w := { s.wm with index := i, recs := _ }) (V := slotGranted s)
      h hb (by decide) (by decide) rfl (Kept.refl _) (fun x => ?_)
    exact (runWmCmd_retarget (c := wmCommandOf 4 i s) (s := withHb x (wmBegun i s)) rfl ⟨hr, hf⟩).trans (wmRetarget_ok _ ht)

end Sys2Proof.Proofs.Watermarks
end

section
/-! The step unit (08 R194; 16 R387-R391). First a cycle in which requests wait and none may be granted. -/

namespace Sys2Proof.Proofs.StepUnit

open Sys2Proof Sys2Proof.Machine Sys2Proof.Laws Sys2Proof.Proofs.Organisation Sys2Proof.Proofs.Messages

/-! ## A cycle that may grant nothing (06 R161) -/

section

variable {s T : State} {h : Headbox}

theorem grantSlot_barred (c : Bool) (hg : canGrant s = false) : grantSlot c s = s := if_pos (by simp [hg])

/-- Where the Headbox may not grant, what waits in it stays. -/
theorem grantCycle_barred (c : Bool) (hg : canGrant s = false) (he : s.couch.entering = []) : grantCycle c s = s := by
  have hc : countCycle s = s := if_neg (by simp [hg])
  simp only [grantCycle, hc, List.range_succ, List.range_zero, List.nil_append, List.foldl_append, List.foldl_cons, List.foldl_nil,
    grantSlot_barred c hg, enterAll_empty he]

/-- The rest of a cycle in which requests alone wait, none of which may be granted, shows in nothing that `still` keeps. -/
theorem still_settle_barred (c : Bool) (hr : rest (withHb h s) = true) (hp : s.hb.ports = []) (hg : canGrant s = false) :
    still (settle c s) = still s := by
  have r := resting hr
  have hd := drain_empty (s := s) 256 r.loop r.returned r.inbox
  have hx := raiseGrants_eq s
  rw [settle_eq (s := s) c r.rx (acceptPorts_empty hp) r.loop r.returned r.inbox r.walks, grantCycle_barred c hg r.entering, hd,
    payOwed_empty (s := s) r.owed, clearGo_none (s := s) r.clearing, braceGo_idle (s := s) r.brace, dumpResume_idle (s := s) r.dump,
    stepTry_idle (s := s) r.due r.trip, hd, answerCloses_none (s := s) r.closes, seekWaiting_empty (s := s) r.txq]
  have hs := still_granted hx
  obtain ⟨_, _, _, e⟩ := hx
  generalize raiseGrants s = u at e hs ⊢
  have hb : u.boot = s.boot := by rw [e]
  have hf : flashIdle u = true := (flashIdle_congr hb (by rw [e]) (by rw [e])).trans r.flash
  rw [flashNext_idle hf, pumpTx_empty (by rw [e]; exact r.txq), linksCheck_other (by rw [hb]; exact r.links), still_emit,
    still_qwmAll, hs]

/-- A command that leaves requests waiting alone, none of which may be granted. -/
theorem barred_settles {f : State → State} (hf : f (tick s) = T) (hr : rest s = true) (hk : Kept (tick s) (withHb (tick s).hb T))
    (hp : T.hb.ports = []) (hg : canGrant T = false) :
    ∃ u, (.next (inCycle f s) : Host.Outcome State Fault Refusal) = .next u ∧ still u = still T := by
  refine ⟨_, rfl, ?_⟩
  have hm : T.regp.meshMap = s.regp.meshMap := hk.map
  have hq : T.pending = s.pending := hk.pending
  have hx : T.kt.kinds = s.kt.kinds := hk.kinds
  have e : still (inCycle f s) =
      { still (withMap T.regp.meshMap T) with pending := s.pending, kt := { T.kt with kinds := s.kt.kinds } } := by
    unfold inCycle
    apply still_putBack (u := withMap T.regp.meshMap T)
    rw [hf, ← hm, still_withMap, still_withMap]
    exact congrArg (withMap _) (still_settle_barred _ (hk.rest.trans hr) hp hg)
  rw [e, ← hq, ← hx]
  rfl

end

/-! ## Its ticks and its grant (08 R194; 16 R388-R391) -/

section

variable {q : BitVec 6} {e : W32} {r : Nat} {s : State}

/-- STEP_REQ recorded with the cycle of its tick (16 R389). -/
def ticked (q : BitVec 6) (s : State) : State := { s with step := { s.step with stepReq := q, reqAt := s.clk.cycle } }

/-- The state in which a tick waits to be met. -/
def due (s : State) : State := { s with step := { s.step with due := true } }

theorem stepTick_disabled (q : BitVec 6) (h : s.step.en = false) : stepTick q s = ticked q s := if_pos (by simp [modStep, h])

theorem stepTick_enabled (q : BitVec 6) (h : s.step.en = true) (ha : s.pwr.st ≠ .doze) :
    stepTick q s = stepTry (due (ticked q s)) := by
  have hw : wakeDoze (ticked q s) = ticked q s := if_neg ha
  have e : stepTick q s = stepTry (due (wakeDoze (ticked q s))) := if_neg (by simp [modStep, h])
  rw [e, hw]

/-- A tick that waits is met by a unit that is free, with no trip and no grant presented. -/
theorem stepTry_due (hf : stepFree s = true) (hr : s.step.tripDue = false) (hp : s.step.presented = false)
    (hd : s.step.due = false) : stepTry (due s) = stepArrive false s := by
  have hb : modStep (fun t => { t with due := false }) (due s) = s := by
    unfold modStep due
    simp only [← hd]
  have hf' : stepFree (due s) = true := hf
  have hr' : (due s).step.tripDue = false := hr
  unfold stepTry
  rw [if_neg (by simp [hf']), if_neg (by simp [hr']), if_pos ⟨rfl, by simp [due, hp]⟩, hb]

/-- A request of `r` that no limit raises. -/
structure Unraised (q : BitVec 6) (r : Nat) (s : State) : Prop where
  asked : max q.toNat s.step.fwReq.toNat = r
  floor : s.pwr.floor.toNat ≤ r
  maxup : s.pwr.maxup.toNat = 63

theorem stepRequest_unraised (h : Unraised q r s) : stepRequest q false s = (r, r, false, false, false) := by
  simp [stepRequest, h.asked, h.maxup, h.floor]

/-- The ARRIVE_R of weight 1 that carries a request (08 R194). -/
def stepArrival (e : W32) (r : Nat) (s : State) : Op :=
  { opcode := opArriveR, agent := stepAgent s, ctx := 0, handle := s.step.handle
    inc := (Config.unstated s.clk.free).setWidth 8, seq := (Config.unstated (s.clk.free + 1)).setWidth 16, a := 1
    b := BitVec.ofNat 64 (e.toNat + 2 ^ 32 * 5), data := BitVec.ofNat 512 r, src := .stepUnit }

/-- The unit with its arrival alone at LINK, whose release it awaits. -/
def stepArrived (e : W32) (r : Nat) (s : State) : State :=
  { s with
    step := { s.step with sent := BitVec.ofNat 6 r, pend := true }
    clk := { s.clk with free := s.clk.free + 2 }
    hb := { s.hb with link := [.step (stepArrival e r s)] } }

theorem stepArrive_unraised (hl : s.hb.link = []) (he : s.step.epoch = some e) (hq : s.step.reqAt = s.clk.cycle)
    (ht : tripped s = false) (h : Unraised s.step.stepReq r s) : stepArrive false s = stepArrived e r s := by
  simp only [stepArrive, he, stepSample, hq, if_true, ht, Bool.or_self, stepRequest_unraised h, lt_irrefl, if_false]
  exact congrArg (fun l => { stepArrived e r s with hb := { s.hb with link := l ++ [LinkOp.step (stepArrival e r s)] } }) hl

/-- A tick of a unit that is free to arrive and waits for no grant. -/
theorem stepTick_arrives (hl : s.hb.link = []) (hf : stepFree s = true) (ha : s.pwr.st ≠ .doze) (he : s.step.epoch = some e)
    (hp : s.step.presented = false) (hd : s.step.due = false) (hr : s.step.tripDue = false) (ht : tripped s = false)
    (h : Unraised q r s) : stepTick q s = stepArrived e r (ticked q s) := by
  have hen : s.step.en = true := by
    simp only [stepFree, Bool.and_eq_true] at hf
    tauto
  rw [stepTick_enabled q hen ha, stepTry_due (s := ticked q s) hf hr hp hd]
  exact stepArrive_unraised (s := ticked q s) hl he rfl ht ⟨h.asked, h.floor, h.maxup⟩

theorem stepGrantRise_due (h : s.step.presented = true) (ht : s.step.at_.toNat ≤ (now s).toNat) : stepGrantRise s = grantUp s :=
  if_pos ⟨h, ht⟩

end

/-- Settles O39: a tick of a free unit leaves its arrival waiting at LINK, where the cycle may grant nothing; the others leave
nothing waiting. -/
theorem stepUnitCompletes : Obligations.StepUnitCompletes := by
  unfold Obligations.StepUnitCompletes
  refine ⟨?_, ?_, ?_, ?_⟩
  · intro q s hr hl he
    exact cycle_settles ((whenOn_alive _ hl).trans (stepTick_disabled (s := tick s) q he)) hr ⟨rfl, rfl, rfl⟩
  · intro q s e r hr hrun hf he hp ht hg hfl hm
    have x := resting hr
    have k := running_parts hrun
    have ha : (tick s).pwr.st ≠ .doze := by simp [show (tick s).pwr.st = .active from k.active]
    have harr := stepTick_arrives (s := tick s) x.link hf ha he hp x.due x.trip ht (r := r) ⟨rfl, hfl, hm⟩
    exact barred_settles ((whenOn_alive _ (alive_of_running hrun)).trans harr) hr ⟨⟨rfl, rfl, rfl⟩, rfl, rfl⟩ x.ports hg
  · intro s hr hl hp ht
    exact cycle_settles ((whenOn_alive _ hl).trans (stepGrantRise_due (s := tick s) hp ht)) hr ⟨rfl, rfl, rfl⟩
  · intro s hr hl
    exact cycle_settles (whenOn_alive _ hl) hr ⟨rfl, rfl, rfl⟩

end Sys2Proof.Proofs.StepUnit
end

section
/-! Quires (09): the two-phase frames at a die's only coordinator record, at the home of a quire of one member and at its origin; then
three statements of this family that a state of theirs breaks. -/

namespace Sys2Proof.Proofs.Quires

open Sys2Proof Sys2Proof.Machine Sys2Proof.Laws Sys2Proof.Proofs.Organisation Sys2Proof.Proofs.Objects
open Sys2Proof.Proofs.Watches Sys2Proof.Proofs.KindTables
open Sys2Proof.Proofs.Messages hiding streamTo

/-! ## A frame sent, and the record of a quire (12 R289; 09 R231) -/

section

variable {d : DieId} {b : Body} {s : State}

/-- The state with other quires. -/
def withQu (q : Machine.Quires) (s : State) : State := { s with qu := q }

theorem sendFrameId_fst (d : DieId) (b : Body) (s : State) : (sendFrameId d b s).1 = s.felt.fid := by
  unfold sendFrameId
  extract_lets n v f w
  split
  · rfl
  · split
    · split
      · rfl
      · split <;> rfl
    · rfl

/-- A frame that may leave is sent, under the next identity. -/
theorem sendFrameId_leaves (h : leaves d b s = true) : sendFrameId d b s = (s.felt.fid, sent d b s) :=
  Prod.ext (sendFrameId_fst d b s) (sendFrame_leaves h)

/-- What is sent shows in Felt alone, not in the quires. -/
theorem withQu_sent (q : Machine.Quires) : withQu q (sent d b s) = sent d b (withQu q s) := by
  unfold sent
  rw [show streamTo (withQu q s) d = streamTo s d from rfl]
  cases streamTo s d <;> rfl

theorem qu_sent : (sent d b s).qu = s.qu := by rw [sent_eq]; rfl

/-- Of the quires a frame that leaves sees only how much of the pool they hold (01 R20). -/
theorem leaves_withQu {q : Machine.Quires} (hc : q.coords.length = s.qu.coords.length) (hr : q.recs = s.qu.recs)
    (hh : q.held = s.qu.held) : leaves d b (withQu q s) = leaves d b s := by
  have hf : poolFelt (withQu q s) = poolFelt s := by
    simp only [poolFelt, chainOrigins, allChains, withQu, hc, hh]
    rfl
  have hm : memberCount (withQu q s) = memberCount s := by simp only [memberCount, withQu, hr]
  have hp : poolMesh (withQu q s) = poolMesh s := by
    simp only [poolMesh, chainOrigins, allChains, withQu, hh]
    rfl
  have hk : creditHeld (withQu q s) = creditHeld s := by
    simp only [creditHeld, grantHeld, feltBusy, withQu, hh]
  have hs : feltSpace (withQu q s) = feltSpace s := by simp only [feltSpace, hf, hm, hp, hk]
  have e : entryFor (withQu q s) b = entryFor s b := by
    unfold entryFor
    rw [hs]
  unfold leaves canSend
  rw [e]
  rfl

end

/-! ## A die's only coordinator record (09 R231, R233) -/

/-- The state with other coordinator records. -/
def withCoords (l : List Coord) (s : State) : State := withQu { s.qu with coords := l } s

section

variable {key : QKey} {src : DieId} {c : Coord} {s : State}

theorem withCoords_sent {d : DieId} {b : Body} (l : List Coord) (s : State) :
    withCoords l (sent d b s) = sent d b (withCoords l s) := by
  unfold withCoords
  rw [qu_sent, withQu_sent]

theorem leaves_withCoords {d : DieId} {b : Body} {l : List Coord} (h : l.length = s.qu.coords.length) :
    leaves d b (withCoords l s) = leaves d b s :=
  leaves_withQu (q := { s.qu with coords := l }) h rfl rfl

theorem kept_withCoords (l : List Coord) (s : State) : Kept s (withCoords l s) := ⟨⟨rfl, rfl, rfl⟩, rfl, rfl⟩

theorem coordAt_alone (h : s.qu.coords = [c]) (hk : c.key = key) : coordAt s key = some c := by simp [coordAt, h, hk]

theorem modCoord_alone (f : Coord → Coord) (h : s.qu.coords = [c]) (hk : c.key = key) :
    modCoord key f s = withCoords [f c] s := by
  simp [modCoord, withCoords, withQu, h, hk]

/-- A frame for a record that is there opens none. -/
theorem coordOpen_alone (h : s.qu.coords = [c]) (hk : c.key = key) : coordOpen key src s = s :=
  if_pos (by simp [coordAt_alone h hk])

/-- A decision sent at once waits to be received (09 R231). -/
theorem sendDecision_leaves {e : Coord} {d : DieId} {abort : Bool} {cause : BitVec 4} (h : s.qu.coords = [e]) (hk : e.key = c.key)
    (hl : leaves d (.qdecide c.key abort (cause.setWidth 8) c.votes) s = true) :
    sendDecision c abort cause d s = sent d (.qdecide c.key abort (cause.setWidth 8) c.votes)
      (withCoords [{ e with sent := e.sent ++ [(s.felt.fid, d)] }] s) := by
  obtain ⟨t, x⟩ := leaves_parts hl
  have hd : ¬d = myDie (sent d (.qdecide c.key abort (cause.setWidth 8) c.votes) s) := by
    rw [sent_eq]
    exact x.far
  unfold sendDecision
  simp only [sendFrameId_leaves hl, hd, if_false]
  rw [modCoord_alone _ (by rw [qu_sent]; exact h) hk, withCoords_sent]

/-- A decision of which only the origin is told: the record keeps it, with the frame's identity. -/
theorem coordDecide_alone {abort : Bool} {cause : BitVec 4} (h : s.qu.coords = [c])
    (hs : coordShadows s c.key (c.homes.getD c.votes) = []) (hv : (c.votes ++ [c.key.die]).eraseDups = [c.key.die])
    (hl : leaves c.key.die (.qdecide c.key abort (cause.setWidth 8) c.votes) s = true) :
    coordDecide c abort cause s = sent c.key.die (.qdecide c.key abort (cause.setWidth 8) c.votes)
      (withCoords [{ c with decision := some abort, cause, sent := c.sent ++ [(s.felt.fid, c.key.die)] }] s) := by
  let w : State := withCoords [{ c with decision := some abort, cause }] s
  have hw : modCoord c.key (fun c => { c with decision := some abort, cause }) s = w := modCoord_alone _ h rfl
  have hlw : leaves c.key.die (.qdecide c.key abort (cause.setWidth 8) c.votes) w = true :=
    (leaves_withCoords (by simp [h])).trans hl
  have hsw : coordShadows w c.key (c.homes.getD c.votes) = [] := hs
  unfold coordDecide
  simp only [hw, hsw, sendAll, hv, List.foldl_cons, List.foldl_nil]
  exact sendDecision_leaves (e := { c with decision := some abort, cause }) rfl rfl hlw

/-- A record that is undecided, or one of whose homes is still to be told, stays (09 R231). -/
theorem coordFree_kept (h : s.qu.coords = [c])
    (hn : c.decision = none ∨ ∀ hs, c.homes = some hs → ∃ d ∈ hs, d ∉ c.answered) : coordFree key s = s := by
  unfold coordFree
  rw [List.filter_eq_self.mpr]
  intro x hx
  obtain rfl : x = c := by simpa [h] using hx
  rcases hn with hd | hw
  · simp [hd]
  · cases hh : x.homes with
    | none => simp
    | some hs => simpa using .inr (hw hs hh)

/-- A record with no NO, and without the YES of one of its homes, decides nothing. -/
theorem coordJudge_waits (h : s.qu.coords = [c]) (hk : c.key = key) (hn : c.no = none)
    (hy : ∀ hs, c.homes = some hs → ∃ d ∈ hs, d ∉ c.yes) : coordJudge key s = s := by
  unfold coordJudge
  simp only [coordAt_alone h hk, hn]
  split_ifs
  · rfl
  · cases hh : c.homes with
    | none => rfl
    | some hs =>
      obtain ⟨d, hd, ha⟩ := hy hs hh
      exact if_neg (by simpa using ⟨d, hd, ha⟩)

/-- The first frame for a key is its QSTART. -/
theorem qstart_first {homes : List DieId} (h : s.qu.coords = []) (hn : homes ≠ []) :
    qstart key src homes s = withCoords [{ key, shadow := !coordServes s key homes, homes := some homes }] s := by
  obtain ⟨d, l, rfl⟩ := List.exists_cons_of_ne_nil hn
  let c : Coord := { key, shadow := !coordServes s key (d :: l), homes := some (d :: l) }
  have hy : ∃ x ∈ d :: l, x ∉ c.yes := ⟨d, by simp, by simp [c]⟩
  have e : qstart key src (d :: l) s = coordFree key (coordJudge key (withCoords [c] s)) := by
    unfold qstart coordOpen
    simp only [h, List.filter_nil, coordAt, List.find?_nil, Option.isSome_none, Bool.false_eq_true, if_false, List.nil_append]
    rw [modCoord_alone (key := key) _ rfl rfl]
    rfl
  rw [e, coordJudge_waits (c := c) rfl rfl rfl (by rintro hs ⟨⟩; exact hy), coordFree_kept (c := c) rfl (.inl rfl)]

/-- A YES before QSTART is recorded. -/
theorem qvote_early {cause : BitVec 4} (h : s.qu.coords = [{ key, shadow := false }]) :
    qvote key src false cause s = withCoords [{ key, shadow := false, votes := [src], yes := [src] }] s := by
  unfold qvote
  simp only [coordOpen_alone h rfl, coordAt_alone h rfl]
  rw [modCoord_alone _ h rfl]
  exact coordJudge_waits (c := { key, shadow := false, votes := [src], yes := [src] }) rfl rfl rfl (by rintro hs ⟨⟩)

/-- Of a quire that only its origin is told, the coordinator decides and keeps the record (09 R231). -/
theorem decision_kept {abort : Bool} {cause : BitVec 4} (h : s.qu.coords = [c])
    (hs : coordShadows s c.key (c.homes.getD c.votes) = []) (hv : (c.votes ++ [c.key.die]).eraseDups = [c.key.die])
    (hl : leaves c.key.die (.qdecide c.key abort (cause.setWidth 8) c.votes) s = true)
    (hn : ∀ hs, c.homes = some hs → ∃ d ∈ hs, d ∉ c.answered) :
    coordFree key (coordDecide c abort cause s) = sent c.key.die (.qdecide c.key abort (cause.setWidth 8) c.votes)
      (withCoords [{ c with decision := some abort, cause, sent := c.sent ++ [(s.felt.fid, c.key.die)] }] s) := by
  rw [coordDecide_alone h hs hv hl]
  exact coordFree_kept (c := { c with decision := some abort, cause, sent := c.sent ++ [(s.felt.fid, c.key.die)] })
    (by rw [qu_sent]; rfl) (.inr hn)

theorem eraseDups_single (d : DieId) : [d].eraseDups = [d] := by simp [List.eraseDups, List.eraseDupsBy, List.eraseDupsBy.loop]

theorem eraseDups_pair (d : DieId) : [d, d].eraseDups = [d] := by simp [List.eraseDups, List.eraseDupsBy, List.eraseDupsBy.loop]

/-- The YES of the only home, the origin, decides COMMIT. -/
theorem qvote_last {cause : BitVec 4} (h : s.qu.coords = [{ key, shadow := false, homes := some [key.die] }])
    (hs : coordShadows s key [key.die] = []) (hl : leaves key.die (.qdecide key false 0 [key.die]) s = true) :
    qvote key key.die false cause s = sent key.die (.qdecide key false 0 [key.die]) (withCoords [{
      key, shadow := false, homes := some [key.die], votes := [key.die], yes := [key.die], decision := some false
      sent := [(s.felt.fid, key.die)] }] s) := by
  let c : Coord := { key, shadow := false, homes := some [key.die], votes := [key.die], yes := [key.die] }
  have hj : coordJudge key (withCoords [c] s) = coordFree key (coordDecide c false 0 (withCoords [c] s)) := by
    unfold coordJudge
    rw [coordAt_alone (c := c) (s := withCoords [c] s) rfl rfl]
    simp [c]
  unfold qvote
  simp only [coordOpen_alone h rfl, coordAt_alone h rfl]
  rw [modCoord_alone _ h rfl]
  refine hj.trans (decision_kept (c := c) (s := withCoords [c] s) rfl hs (eraseDups_pair _) ?_ ?_)
  · exact (leaves_withCoords (by simp [h])).trans hl
  · rintro hs ⟨⟩
    exact ⟨key.die, by simp, by simp [c]⟩

/-- A wound of an undecided quire aborts it. -/
theorem qwound_alone (h : s.qu.coords = [{ key, shadow := false }]) (hs : coordShadows s key [] = [])
    (hl : leaves key.die (.qdecide key true 7 []) s = true) :
    qwound key src s = sent key.die (.qdecide key true 7 []) (withCoords [{
      key, shadow := false, no := some 7, decision := some true, cause := 7, sent := [(s.felt.fid, key.die)] }] s) := by
  let c : Coord := { key, shadow := false, no := some 7 }
  have hj : coordJudge key (withCoords [c] s) = coordFree key (coordDecide c true 7 (withCoords [c] s)) := by
    unfold coordJudge
    rw [coordAt_alone (c := c) (s := withCoords [c] s) rfl rfl]
    simp [c]
  unfold qwound
  rw [coordOpen_alone h rfl]
  dsimp only
  rw [modCoord_alone (key := key) _ h rfl]
  refine hj.trans (decision_kept (c := c) (s := withCoords [c] s) rfl hs (eraseDups_single _) ?_ ?_)
  · exact (leaves_withCoords (by simp [h])).trans hl
  · rintro hs ⟨⟩

end

/-! ## A quire ends at its home (09 R234) -/

section

variable {key : QKey} {h : HomeQ} {s : State}

/-- The state with other quires of this home. -/
def withHomes (l : List HomeQ) (s : State) : State := withQu { s.qu with homes := l } s

theorem homeAt_alone (hq : s.qu.homes = [h]) (hk : h.key = key) : homeAt s key = some h := by simp [homeAt, hq, hk]

theorem modHome_alone (f : HomeQ → HomeQ) (hq : s.qu.homes = [h]) (hk : h.key = key) : modHome key f s = withHomes [f h] s := by
  simp [modHome, withHomes, withQu, hq, hk]

/-- Where no coordinator record is, and this die shadows no role for it, a decision is recorded for none. -/
theorem qdecideShadow_none {src : DieId} {abort : Bool} {cause : BitVec 4} {voted : List DieId} (hc : s.qu.coords = [])
    (hs : shadowsRole s = false) (hp : (pkgHosts s (myPkg s)).drop 1 ≠ [myDie s] ∨ servesPkg s = true) :
    qdecideShadow key src abort cause voted s = s := by
  have ho : ((pkgHosts s (myPkg s)).drop 1 == [myDie s] && !servesPkg s) = false := by
    rcases hp with h | h
    · simp only [beq_eq_false_iff_ne.mpr h, Bool.false_and]
    · simp [h]
  have e : withCoords [] s = s := by
    unfold withCoords withQu
    rw [← hc]
  unfold qdecideShadow modCoord
  simp only [hs, ho, Bool.or_self, Bool.and_false, Bool.false_and, Bool.false_eq_true, if_false, hc, List.map_nil]
  exact e

/-- A decision that another die's quire brings to its home, and that this die's shadow roles keep no record of. -/
theorem handOver_qdecide {src : DieId} {abort : Bool} {cause : Byte} {voted : List DieId}
    (hf : staleRole s src (.qdecide key abort cause voted) = false) (hd : key.die ≠ myDie s)
    (hs : qdecideShadow key src abort (cause.setWidth 4) voted s = s) :
    handOver src 0 (.qdecide key abort cause voted) s = homeDecide key abort (cause.setWidth 4) s := by
  unfold handOver qdecideHere
  simp only [hf, Bool.false_eq_true, if_false, hs, hd]

/-- The quires without the one of this home: its locks and waiting passes go with it. -/
def unhomed (key : QKey) (q : Machine.Quires) : Machine.Quires :=
  { q with
    homes := [], locks := q.locks.filter (fun l => l.key != key), parked := q.parked.filter (fun p => p.key != key) }

/-- The only quire of a home that has reserved no entry and waits for no grant: its end is its QDONE. -/
theorem homeEnd_alone (hq : s.qu.homes = [h]) (hk : h.key = key) (he : s.wt.entries = []) (hl : s.hb.link = [])
    (hd : key.die ≠ myDie s) :
    homeEnd key s = sendFrame key.die (.qdone key (homeAnswers h)) (withQu (unhomed key s.qu) s) := by
  have ew : { s.wt with entries := [] } = s.wt := by rw [← he]
  have eh : { s.hb with link := [] } = s.hb := by rw [← hl]
  unfold homeEnd
  rw [homeAt_alone hq hk]
  simp only [hq, he, hl, hk, List.filter_nil, List.filter_cons, bne_self_eq_false, Bool.false_eq_true, if_false, ew, eh]
  exact if_neg hd

/-- An ABORT at a home that has sent no NO: its one member is answered QUIRE_ABORTED. -/
theorem homeAnswers_aborted {c : BitVec 4} {m : HMember} (hd : h.decision = some (true, c)) (hn : h.no = none) (hm : h.members = [m]) :
    homeAnswers h = [{ pos := BitVec.ofNat 4 m.pos, status := stQuireAborted, a := 0, b := 0 }] := by
  simp [homeAnswers, hd, hn, hm]

/-- An ABORT ends the only quire of this home. -/
theorem homeDecide_aborts {cause : BitVec 4} {m : HMember} (hq : s.qu.homes = [h]) (hk : h.key = key) (hd : h.decision = none)
    (hn : h.no = none) (hm : h.members = [m]) (he : s.wt.entries = []) (hl : s.hb.link = [])
    (hf : leaves key.die (.qdone key [{ pos := BitVec.ofNat 4 m.pos, status := stQuireAborted, a := 0, b := 0 }]) s = true) :
    homeDecide key true cause s =
      sent key.die (.qdone key [{ pos := BitVec.ofNat 4 m.pos, status := stQuireAborted, a := 0, b := 0 }])
        (withQu (unhomed key s.qu) s) := by
  let g : HomeQ := { h with decision := some (true, cause) }
  obtain ⟨t, x⟩ := leaves_parts hf
  have e : homeDecide key true cause s = homeEnd key (withHomes [g] s) := by
    unfold homeDecide
    simp only [homeAt_alone hq hk, hd, Option.isSome_none, Bool.false_eq_true, if_false, if_true]
    rw [modHome_alone _ hq hk]
  rw [e, homeEnd_alone (s := withHomes [g] s) (h := g) rfl hk he hl x.far, homeAnswers_aborted (h := g) rfl hn hm]
  exact sendFrame_leaves ((leaves_withQu (q := unhomed key s.qu) rfl rfl rfl).trans hf)

end

/-! ## A quire ends at its origin (09 R215, R234) -/

section

variable {n : Nat} {r : QRec} {s : State}

/-- The quires once that of record `n` has committed: the record is free, and the commit counted. -/
def recCommitted (n : Nat) (q : Machine.Quires) : Machine.Quires := { q with recs := terase q.recs n, commits := sat16 q.commits }

/-- Where no MOVE and no watch release runs, none ends. -/
theorem movesDone_idle (hm : s.ag.moves = []) (hr : s.ag.resets = []) : movesDone s = s := by
  have e : { s with ag := { s.ag with resets := [] } } = s := by rw [← hr]
  simpa [movesDone, hm, hr] using e

theorem terase_tmod {α : Type} (t : Tbl α) (k : Nat) (f : α → α) : terase (tmod t k f) k = terase t k := by
  induction t with
  | nil => rfl
  | cons e l ih =>
    unfold terase tmod at ih ⊢
    by_cases he : e.1 = k <;> simp [he, ih]

theorem withResp_withQu (q : Machine.Quires) (op : Op) (st : Status) (a b : W64) (d : BitVec 512) :
    withResp op st a b d (withQu q s) = withQu q (withResp op st a b d s) := by
  unfold withResp
  split_ifs <;> rfl

theorem withResp_qu {op : Op} {st : Status} {a b : W64} {d : BitVec 512} : (withResp op st a b d s).qu = s.qu := by
  unfold withResp
  split_ifs <;> rfl

theorem withResp_eq (op : Op) (st : Status) (a b : W64) (d : BitVec 512) (s : State) :
    withResp op st a b d s = { s with eg := (withResp op st a b d s).eg } := by
  unfold withResp
  split_ifs <;> rfl

/-- Quire `n` of this die is committed: of member `m`, its QCOMMIT `cop`. Nothing else of this die is to end with it. -/
structure Committed (n : Nat) (r : QRec) (m : Member) (cop : Op) (s : State) : Prop where
  found : tget s.qu.recs n = some r
  state : r.state = .committed
  members : r.members = [m]
  commit : r.commit = some cop
  mirror : m.mirror = none
  memberMesh : m.op.src = .mesh
  commitMesh : cop.src = .mesh
  memberFirst : firstInLine m.op s = true
  commitFirst : firstInLine cop s = true
  moves : s.ag.moves = []
  resets : s.ag.resets = []
  brace : s.pwr.bphase = .none
  ticket : tget s.ag.hold (localIx r.agent) ≠ some r.ticket

section

variable {m : Member} {cop : Op} {a : QAnswer}

theorem Committed.withResp {op : Op} {st : Status} {x y : W64} {d : BitVec 512} (c : Committed n r m cop s) :
    Committed n r m cop (withResp op st x y d s) := by
  rw [withResp_eq]
  exact { c with }

/-- The end of a committed quire frees its record and counts the commit; no MOVE ends with it. -/
theorem Committed.ends (c : Committed n r m cop s) (p : Nat) : movesDone (endRec n r 0 p s) = withQu (recCommitted n s.qu) s := by
  have et : ticketEnd r 0 s = s := by
    unfold ticketEnd
    rw [if_neg (by decide), if_neg c.ticket]
  have eb : braceCount r 0 s = s := if_pos (by rw [c.brace]; decide)
  have e : endRec n r 0 p s = withQu (recCommitted n s.qu) s := by
    unfold endRec
    rw [et, eb]
    rfl
  rw [e]
  exact movesDone_idle c.moves c.resets

/-- A committed quire that waits for no more QDONE: its member is answered, and then its QCOMMIT. -/
theorem finishRec_committed (c : Committed n r m cop s) (hw : r.wait = []) (hn : m.ans = some a) (ha : a.status = stOk) :
    finishRec n s = withQu (recCommitted n s.qu) (withResp cop stOk 0 0 0 (withResp m.op stOk a.a a.b 0 s)) := by
  have em : memberAnswer s r m = (stOk, a.a, a.b) := by simp [memberAnswer, hn, c.state, ha]
  have c1 : Committed n r m cop (withResp m.op stOk a.a a.b 0 s) := c.withResp
  have c2 : Committed n r m cop (withResp cop stOk 0 0 0 (withResp m.op stOk a.a a.b 0 s)) := c1.withResp
  have e1 : answer m.op stOk a.a a.b s = withResp m.op stOk a.a a.b 0 s :=
    answerD_unplaced c.memberMesh (firstInLine_outOfLine c.memberMesh c.memberFirst) a.a a.b 0
  have e2 := answerD_unplaced c.commitMesh (firstInLine_outOfLine c1.commitMesh c1.commitFirst) 0 0 0
  unfold finishRec
  simp only [c.found, c.state, hw, true_or, List.isEmpty_nil, and_self, if_true, c.members, List.foldl_cons, List.foldl_nil, em,
    c.mirror, e1, c.commit]
  refine (congrArg (fun t => movesDone (endRec n r 0 _ t)) e2).trans ((c2.ends _).trans ?_)
  rw [withResp_qu, withResp_qu]

/-- The last QDONE of a committed quire whose one member is homed on its sender. -/
theorem recDone_last {src : DieId} (c : Committed n r m cop s) (hw : r.wait = [src]) (hg : r.got = []) (hh : m.home = src)
    (hp : a.pos.toNat = m.pos) (ha : a.status = stOk) :
    recDone n src [a] s = withResp cop stOk 0 0 0 (withResp m.op stOk a.a a.b 0 (withQu (recCommitted n s.qu) s)) := by
  let m' : Member := { m with ans := some a }
  let r' : QRec := { r with members := [m'], got := [src], wait := [] }
  let f : QRec → QRec := fun r => { r with members := [m'], got := r.got ++ [src], wait := r.wait.filter (· != src) }
  have hf : f r = r' := by simp [f, r', hg, hw]
  have e : recDone n src [a] s = finishRec n (modQRec n f s) := by
    unfold recDone
    simp [c.found, c.state, hg, c.members, hh, hp, c.mirror, f, m']
  have c' : Committed n r' m' cop (modQRec n f s) :=
    { c with
      found := by simp [tget_tmod, c.found, hf]
      members := rfl }
  rw [e, finishRec_committed c' rfl rfl ha]
  have hq : recCommitted n (modQRec n f s).qu = recCommitted n s.qu := by
    unfold recCommitted
    rw [modQRec_qu, terase_tmod]
  rw [hq, ← withResp_withQu, ← withResp_withQu]
  rfl

end

end

/-! ## A prepare pass (09 R217, R218, R222, R230) -/

section

variable {d : DieId} {b : Body} {h : Headbox} {s : State}

/-- What a frame that leaves sees of the Headbox is steady. -/
theorem leaves_withHb (e : steadyHb h = steadyHb s.hb) : leaves d b (withHb h s) = leaves d b s := by
  show leaves d b (withHb (steadyHb h) s) = leaves d b (withHb (steadyHb s.hb) s)
  rw [e]

theorem withHb_sent (h : Headbox) : withHb h (sent d b s) = sent d b (withHb h s) := by
  unfold sent
  rw [show streamTo (withHb h s) d = streamTo s d from rfl]
  cases streamTo s d <;> rfl

end

section

variable {op : Op} {n : Nat} {s : State}

/-- A kind's answer that neither queues nor refuses is the pass's. -/
theorem evalKind_accepted {q : Bool} (hs : op.opcode = opSignal) (hl : listAt s n = []) (p : Plain (answerOfKind s op n)) :
    (evalKind q op n s).1.status = stOk := by
  unfold evalKind
  simp only [queueAt_empty hl]
  simp only [show kindStep (liveKinds s) (objAt s n) [] op (whoOf op) = answerOfKind s op n from rfl, p.status, p.queue, hs,
    show opSignal ≠ opSet by decide, Bool.false_and, Bool.false_eq_true, ne_eq, not_true_eq_false, if_false]

/-- The SIGNAL of a quire at a slot of this die, whose kind accepts it at once. -/
structure Accepts (op : Op) (n : Nat) (s : State) : Prop where
  signal : op.opcode = opSignal
  unfetched : fetching s n = false
  alive : thirdDead s n = false
  clean : clean (slotAt s n) = true
  kind : (objAt s n).kind ≠ 0
  owner : ownerOk (objAt s n) op.ctx = true
  known : kindUnknown s (objAt s n).kind = false
  list : listAt s n = []
  plain : Plain (answerOfKind s op n)

theorem evalObj_accepted (x : Accepts op n s) : (evalObj true none op n s).1.status = stOk := by
  rw [evalObj_actsByKind (.inl x.signal) (kindUnfit_ok x.known x.plain.status)]
  exact evalKind_accepted x.signal x.list x.plain

/-- The checks of a member that its kind accepts, with none prepared before it. -/
theorem prepSlot_accepted {g : HomeQ} {m : HMember} (x : Accepts m.op n s) (hn : scratchOf g s = s) :
    prepSlot g m n s = (.yes none, s) := by
  have ha : isArrival s m = false := by simp [isArrival, x.signal, opSignal, opArrive]
  have hk : ¬(thirdDead s n = true ∨ (objAt s n).kind = 0) := by simpa [x.alive] using x.kind
  unfold prepSlot
  simp only [x.unfetched, Bool.false_eq_true, if_false, resolve_clean x.clean, hk, x.owner, Bool.not_true, hn, x.signal,
    show opSignal ≠ opWatch by decide, show opSignal ≠ opCas by decide, ha, evalObj_accepted x, ne_eq, not_true_eq_false, false_and]

end

section

variable {q : HomeQ} {m : HMember} {n : Nat} {coord : DieId} {s : State}

/-- The one quire of this home, of which member `m` alone waits for its prepare pass at slot `n`. -/
structure Prepares (q : HomeQ) (m : HMember) (n : Nat) (s : State) : Prop where
  home : s.qu.homes = [q]
  locks : s.qu.locks = []
  members : q.members = [m]
  target : m.target = .slot n
  todo : m.done = false
  no : q.no = none
  undecided : q.decision = none
  veto : homeVeto s m.op.ctx = none
  far : q.key.die ≠ myDie s
  entering : s.couch.entering = []
  accepts : Accepts m.op n s

/-- The quires once the home has voted YES. -/
def votedYes (q : HomeQ) (m : HMember) (n : Nat) (u : Machine.Quires) : Machine.Quires :=
  { u with
    locks := [{ target := .slot n, key := q.key, ticket := q.ticket }]
    homes := [{ q with members := [{ m with done := true, entry := none }], voted := true }] }

/-- The state once the member holds its lock. -/
def lockedFor (q : HomeQ) (n : Nat) (s : State) : State :=
  withQu { s.qu with locks := [{ target := .slot n, key := q.key, ticket := q.ticket }] } s

/-- With no lock about, the pass takes its own, and its checks hold. -/
theorem prepOne_free (x : Prepares q m n s) : prepOne q m s = (.yes none, lockedFor q n s) := by
  have hn : scratchOf q (lockedFor q n s) = lockedFor q n s := by simp [scratchOf, x.members, x.todo]
  have a : Accepts m.op n (lockedFor q n s) := { x.accepts with }
  unfold prepOne prepBody
  simp only [x.veto, lockOn, x.locks, List.find?_nil, List.length_nil, show ¬1024 ≤ 0 by decide, if_false, List.nil_append, x.target]
  exact prepSlot_accepted a hn

/-- The vote of a home that has sent no NO. -/
theorem castVote_yes (hq : s.qu.homes = [q]) (hn : q.no = none) (hf : q.key.die ≠ myDie s)
    (hv : voteHosts s q.level q.coord = [coord]) (hl : leaves coord (.qvote q.key false 0 0 0) s = true) :
    castVote q.key s = sent coord (.qvote q.key false 0 0 0) (withHomes [{ q with voted := true }] s) := by
  let w : State := withHomes [{ q with voted := true }] s
  have hw : modHome q.key (fun h => { h with voted := true }) s = w := modHome_alone _ hq rfl
  have hd : isDieLevel w q.key = false := by simp [isDieLevel, show q.key.die ≠ myDie w from hf]
  have hf' : ¬q.key.die = myDie w := hf
  have hv' : voteHosts w q.level q.coord = [coord] := hv
  have e : castVote q.key s = sendFrame coord (.qvote q.key false 0 0 0) w := by
    unfold castVote
    simp only [homeAt_alone hq rfl, hw, hf', if_false, hn, Option.getD_none, hd, Bool.false_eq_true, hv', sendAll, List.foldl_cons,
      List.foldl_nil]
    rfl
  rw [e]
  exact sendFrame_leaves ((leaves_withQu (q := { s.qu with homes := [{ q with voted := true }] }) rfl rfl rfl).trans hl)

/-- The pass of the only member, which its kind accepts: the home takes the lock and votes YES. -/
theorem quirePass_votes (x : Prepares q m n s) (hv : voteHosts s q.level q.coord = [coord])
    (hl : leaves coord (.qvote q.key false 0 0 0) s = true) :
    quirePass q.key m.pos s = sent coord (.qvote q.key false 0 0 0) (withQu (votedYes q m n s.qu) s) := by
  let g : HomeQ := { q with members := [{ m with done := true, entry := none }] }
  let w : State := withHomes [g] (lockedFor q n s)
  have hb : behindMember q m = false := by simp [behindMember, x.members]
  have hw : modMember q.key m.pos (fun m => { m with done := true, entry := none }) (lockedFor q n s) = w :=
    (modHome_alone (s := lockedFor q n s) _ x.home rfl).trans (by simp [w, g, x.members])
  have hp : prepPass q m s = castVote q.key w := by
    unfold prepPass
    simp only [prepOne_free x, hw]
    unfold prepEnd
    rw [homeAt_alone (s := w) (h := g) rfl rfl]
    rfl
  have e : quirePass q.key m.pos s = prepPass q m s := by
    unfold quirePass
    simp [homeAt_alone x.home rfl, x.members, enterSlots_empty _ x.entering, hb, x.undecided, x.todo]
  rw [e, hp]
  exact castVote_yes (s := w) (q := g) rfl x.no x.far hv
    ((leaves_withQu (q := w.qu) (s := s) rfl rfl rfl).trans hl)

end

/-! ## A cycle that grants it to LINK (06 R160) -/

section

variable {key : QKey} {pos : Nat} {f : State → State} {s B T : State}

theorem dieChildren_link (hw : s.hb.waiting = []) (hr : linkReady s = true) :
    dieChildren s = if 0 < s.hb.arb.linkD then [4] else [] := by
  simp [dieChildren, eligible, activeAgents, hw, hr]

/-- With LINK alone to grant, a slot goes to it, in a new round where its credit is spent. -/
theorem serveSlot_link (hw : s.hb.waiting = []) (hr : linkReady s = true) :
    ∃ b n, serveSlot s = grantLink { s with hb := { s.hb with arb := b, rounds := n } } := by
  unfold serveSlot
  rw [if_neg (by simp [hr])]
  by_cases hc : 0 < s.hb.arb.linkD
  · have hd : dieChildren s = [4] := (dieChildren_link hw hr).trans (if_pos hc)
    refine ⟨s.hb.arb, s.hb.rounds, ?_⟩
    simp only [hd, List.isEmpty_cons, Bool.false_eq_true, if_false, nextAfter_single (by decide : 4 < 5), if_true]
  · have hd : dieChildren s = [] := (dieChildren_link hw hr).trans (if_neg hc)
    have hn : dieChildren (startRound s) = [4] := dieChildren_link (s := startRound s) hw hr
    refine ⟨(startRound s).hb.arb, (startRound s).hb.rounds, ?_⟩
    simp only [hd, List.isEmpty_nil, if_true, hn, nextAfter_single (by decide : 4 < 5)]
    rfl

/-- A slot of a cycle with the pass alone to grant. -/
theorem grantSlot_pass {c : Bool} (hg : canGrant s = true) (h0 : s.hb.granted = 0) (hw : s.hb.waiting = []) (hc : s.hb.chains = [])
    (hq : s.hb.regq = []) (hl : s.hb.link = [.quire key pos]) :
    ∃ b n, grantSlot c s =
      quirePass key pos (noteGrant { s with hb := { s.hb with link := [], arb := b, rounds := n } }) := by
  obtain ⟨b, n, e⟩ := serveSlot_link hw (by simp [linkReady, hl])
  refine ⟨{ b with ptrDie := 4, linkD := b.linkD - 1 }, n, ?_⟩
  unfold grantSlot
  rw [if_neg (by simp [hg, h0]), if_neg (by simp [hc]), if_neg (by simp [hq]), e]
  unfold grantLink
  simp only [hl]

/-- A command of the cycle that leaves `B` with one pass of a quire for LINK: where running that comes to `T`, that is what the cycle
leaves. -/
theorem pass_leads (hr : rest s = true) (hf : f (tick s) = withHb { (tick s).hb with link := [.quire key pos] } B)
    (hg : canGrant B = true) (hB : Kept (tick s) B) (hT : Kept (tick s) T)
    (hc : ∀ h : Headbox, steadyHb h = steadyHb (tick s).hb → quirePass key pos (withHb h (bumpAon 0x00 B)) = withHb h T) :
    Leads (.next (inCycle f s)) T := by
  have r := resting hr
  have q := resting (hB.rest.trans hr)
  have hl : (tick s).hb.link = [] := r.link
  have hb : B.hb = (tick s).hb := hB.hb
  have ht : T.hb = (tick s).hb := hT.hb
  obtain ⟨A, hA⟩ : ∃ A, A = withHb { (tick s).hb with link := [.quire key pos] } B := ⟨_, rfl⟩
  have hgA : canGrant A = true := by
    rw [← hg, hA]
    simp only [canGrant, windowNow, hb]
    rfl
  obtain ⟨n, hn⟩ := countCycle_eq A
  obtain ⟨b, k, hs⟩ := grantSlot_pass (c := !s.hb.chains.isEmpty) (s := { A with hb := { A.hb with counted := n } }) hgA
    (by rw [hA]; rfl) (by rw [hA]; exact r.waiting) (by rw [hA]; exact r.chains) (by rw [hA]; exact r.regq) (by rw [hA]; rfl)
  let hd : Headbox := { (tick s).hb with
    link := [], counted := n, granted := 1, window := windowNow A ++ [B.clk.cycle], arb := b, rounds := k }
  have hsd : steadyHb hd = steadyHb (tick s).hb := by simp only [steadyHb, hd, hl]
  have hgr : grantSlot (!s.hb.chains.isEmpty) (countCycle A) = withHb hd T := by
    rw [hn, ← hc hd hsd, hs]
    subst hA
    rfl
  have hv : rest (withHb hd T) = true := by
    refine (rest_withHb ?_).trans (hT.rest.trans hr)
    simp only [headEmpty, withHb, hd, ht, hl]
  refine inCycle_leads (hd := hd) (hf.trans hA.symm) ?_ ?_ hT (stillArb_withHb ?_)
  · rw [hA]
    exact hB.map
  · refine settle_from (u := A) _ ?_ (acceptPorts_empty ?_) ?_ ?_ ?_ ?_
      ((grantCycle_once hgr (spent_resting (resting hv))).trans (enterAll_empty (resting hv).entering)) hv <;> rw [hA]
    · exact q.rx
    · exact r.ports
    · exact q.loop
    · exact q.returned
    · exact q.inbox
    · exact q.walks
  · rw [ht]
    exact hsd

end

/-! ## A QPREP (09 R217, R230) -/

/-- The state with another count of free values. -/
def withFree (k : Nat) (s : State) : State := { s with clk := { s.clk with free := k } }

/-- The level of a quire costs a free value at most. -/
theorem prepLevel_eq (key : QKey) (c : DieId) (s : State) : ∃ k, (prepLevel key c s).2 = withFree k s := by
  unfold prepLevel
  split_ifs
  · exact ⟨s.clk.free, rfl⟩
  · exact ⟨s.clk.free + 1, rfl⟩
  · exact ⟨s.clk.free, rfl⟩

/-- The operation of a QPREP's member, its HANDLE and SEQ free values (log entry 35). -/
def prepOp (key : QKey) (inc : Byte) (agent : AgentId) (ctx : CtxId) (m : QMember) (k : Nat) : Op :=
  { opcode := m.inner, agent, inc, ctx, handle := (Config.unstated k).setWidth 32, seq := (Config.unstated (k + 1)).setWidth 16
    a := m.a, b := m.b, src := .felt key.die }

/-- That member as its home keeps it. -/
def prepMember (key : QKey) (inc : Byte) (agent : AgentId) (ctx : CtxId) (m : QMember) (k : Nat) : HMember :=
  { pos := m.pos.toNat, target := .slot m.slot.toNat, slot := m.slot.toNat, x := { w0 := 0 }, op := prepOp key inc agent ctx m k }

section

variable {h : FHdr} {key : QKey} {inc : Byte} {agent : AgentId} {coord : DieId} {time : W64} {ctx : CtxId} {m : QMember} {k lv : Nat}
  {s w : State}

/-- The quire that a QPREP of one member opens at its home. -/
def prepHome (key : QKey) (inc : Byte) (agent : AgentId) (coord : DieId) (time : W64) (ctx : CtxId) (m : QMember) (k lv : Nat) : HomeQ :=
  { key, ticket := { time, agent }, inc, ctx, coord, level := lv, members := [prepMember key inc agent ctx m k] }

/-- The only quire of this home, of one member: its pass waits for LINK. -/
theorem qprep_alone (hq : s.qu.homes = []) (hl : s.hb.link = [])
    (hp : prepLevel key coord (withFree (s.clk.free + 2) s) = (lv, withFree k s)) :
    qprep key inc agent coord time ctx [m] s = withHb { s.hb with link := [.quire key m.pos.toNat] }
      (withHomes [prepHome key inc agent coord time ctx m s.clk.free lv] (withFree k s)) := by
  have e : qprep key inc agent coord time ctx [m] s =
      homeOpen (prepHome key inc agent coord time ctx m s.clk.free lv) (withFree k s) :=
    congrArg (fun p : Nat × State => homeOpen (prepHome key inc agent coord time ctx m s.clk.free p.1) p.2) hp
  rw [e]
  unfold homeOpen presentPasses
  simp only [show (withFree k s).qu.homes = [] from hq, show (withFree k s).hb.link = [] from hl, List.filter_nil, List.nil_append]
  rfl

/-- What the member's pass finds in the state in which it is granted. -/
theorem prepares_granted (d : Headbox) (hk : s.qu.locks = []) (hf : key.die ≠ myDie s) (hv : homeVeto s ctx = none)
    (he : s.couch.entering = []) {j : Nat} (x : Accepts (prepOp key inc agent ctx m j) m.slot.toNat s) :
    Prepares (prepHome key inc agent coord time ctx m j lv) (prepMember key inc agent ctx m j) m.slot.toNat
      (withHb d (bumpAon 0x00 (withHomes [prepHome key inc agent coord time ctx m j lv] (withFree k s)))) :=
  ⟨rfl, hk, rfl, rfl, rfl, rfl, rfl, hv, hf, he, { x with }⟩

/-- A QPREP of one SIGNAL that this home's object accepts: in the cycle that brings it, its pass takes the lock and the home votes. -/
theorem qprep_leads (hh : hears h (.qprep key inc agent coord time ctx [m]) s = true) (hq : s.qu.homes = []) (hk : s.qu.locks = [])
    (hf : key.die ≠ myDie s) (hv : homeVeto s ctx = none) (hg : canGrant (heard h (tick s)) = true)
    (x : Accepts (prepOp key inc agent ctx m s.clk.free) m.slot.toNat s)
    (hp : prepLevel key coord (withFree (s.clk.free + 2) (heard h (tick s))) = (lv, w)) (hc : voteHosts s lv coord = [coord])
    (hl : leaves coord (.qvote key false 0 0 0) (heard h (tick s)) = true) :
    Leads (frameRow h (.qprep key inc agent coord time ctx [m]) s) (sent coord (.qvote key false 0 0 0)
      (withQu (votedYes (prepHome key inc agent coord time ctx m s.clk.free lv) (prepMember key inc agent ctx m s.clk.free)
        m.slot.toNat s.qu) (bumpAon 0x00 w))) := by
  obtain ⟨t, y⟩ := hears_parts (hears_tick.trans hh)
  have r := resting y.rest
  have hu := undisturbed_heard y
  obtain ⟨k, rfl⟩ : ∃ k, w = withFree k (heard h (tick s)) := by
    have e := prepLevel_eq key coord (withFree (s.clk.free + 2) (heard h (tick s)))
    rwa [hp] at e
  let q : HomeQ := prepHome key inc agent coord time ctx m s.clk.free lv
  let B : State := withHomes [q] (withFree k (heard h (tick s)))
  let T : State := withQu (votedYes q (prepMember key inc agent ctx m s.clk.free) m.slot.toNat s.qu)
    (bumpAon 0x00 (withFree k (heard h (tick s))))
  have hB : Kept (tick s) B := ⟨hu.trans ⟨rfl, rfl, rfl⟩, rfl, rfl⟩
  have hT : Kept (tick s) T := ⟨hu.trans ⟨rfl, rfl, rfl⟩, rfl, rfl⟩
  have hsent : Kept (tick s) (sent coord (.qvote key false 0 0 0) T) := by
    refine ⟨hT.toUndisturbed.trans (undisturbed_sent (hT.rest.trans y.rest)), ?_, ?_⟩ <;> rw [sent_eq]
    · exact hT.hb
    · exact hT.map
  refine pass_leads (B := B) (key := key) (pos := m.pos.toNat) y.rest ?_ hg hB hsent fun d hd => ?_
  · exact (rxFrame_heard y rfl).trans (qprep_alone hq r.link hp)
  · have hlB : leaves coord (.qvote key false 0 0 0) (withHb d (bumpAon 0x00 B)) = true :=
      (leaves_withHb (s := bumpAon 0x00 B) hd).trans
        ((leaves_withQu (q := B.qu) (s := bumpAon 0x00 (withFree k (heard h (tick s)))) rfl rfl rfl).trans hl)
    have px := prepares_granted (s := heard h (tick s)) (coord := coord) (time := time) (lv := lv) (k := k) d hk hf hv r.entering
      { x with }
    rw [withHb_sent]
    exact quirePass_votes px hc hlB

end

/-! ## The statement on the two-phase frames -/

theorem undisturbed_withQu {q : Machine.Quires} {s : State} (h : q.recs = s.qu.recs ∨ s.pwr.bphase = .none) :
    Undisturbed s (withQu q s) := by
  have e : braceIdle (withQu q s) = braceIdle s := by
    unfold braceIdle
    rcases h with h | h
    · rw [show (withQu q s).qu.recs = s.qu.recs from h]
      rfl
    · rw [show (withQu q s).pwr.bphase = _ from h, h]
      rfl
  refine ⟨?_, rfl, rfl⟩
  exact congrArg (fun b => headEmpty s && feltEmpty s && stepEmpty s && passesDone s && b && !dumpDue s && s.ctx.clearing.isNone &&
    flashIdle s && s.boot.phase != .links) e

/-- A QSTART that comes in names a home. -/
theorem homes_of_hears {h : FHdr} {key : QKey} {agent : AgentId} {time : W64} {homes : List DieId} {s : State}
    (hh : hears h (.qstart key agent time homes) s = true) : homes ≠ [] := by
  obtain ⟨t, x⟩ := hears_parts hh
  have e := x.ok
  rintro rfl
  simp [frameOk, bodyOk] at e

theorem fetching_of_blocked {n : Nat} {s : State} (h : blocked s (.slot n) = false) : fetching s n = false := by
  simp only [blocked, Bool.or_eq_false_iff] at h
  exact h.2

/-- Settles O49: the stream hands each frame over. At the coordinator it opens or changes the one record, whose decision leaves at once;
at the home a QPREP's pass waits for LINK, takes the lock in the same cycle and votes, and an ABORT ends the quire; at the origin the last
QDONE answers the member and the QCOMMIT. -/
theorem quireFramesComplete : Obligations.QuireFramesComplete := by
  unfold Obligations.QuireFramesComplete
  refine ⟨?_, ?_, ?_, ?_, ?_, ?_, ?_⟩
  · intro h key agent time homes s b v hh hc
    exact frame_settles (b := b) hh rfl (qstart_first (s := v) hc (homes_of_hears hh)) fun _ => (kept_withCoords _ v).toUndisturbed
  · intro h key no cause pos status s c b v hh hno hq hc
    subst hno hc
    exact frame_settles (b := b) hh rfl (qvote_early (s := v) hq) fun _ => (kept_withCoords _ v).toUndisturbed
  · intro h key no cause pos status s c b v ans hh hno hk hq hc hs hl
    obtain ⟨d, i⟩ := key
    obtain rfl : h.src = d := hk
    subst hno hc
    refine frame_settles (b := b) hh rfl (qvote_last (s := v) hq hs hl) fun hr => ?_
    exact (kept_withCoords _ v).toUndisturbed.trans (undisturbed_sent hr)
  · intro h key s c b v ans hh hk hq hc hs hl
    obtain ⟨d, i⟩ := key
    obtain rfl : h.src = d := hk
    subst hc
    refine frame_settles (b := b) hh rfl (qwound_alone (s := v) hq hs hl) fun hr => ?_
    exact (kept_withCoords _ v).toUndisturbed.trans (undisturbed_sent hr)
  · intro h key inc agent coord time ctx members s m b v n op hm r ans lv w hh hms hi hk hq hlk hv hb ht hc hkd ho hu hl hp hg hvh hlv
    subst hms
    have x : Accepts (prepOp key inc agent ctx m s.clk.free) n s :=
      ⟨hi, fetching_of_blocked hb, ht, hc, hkd, ho, hu, hl, plain_parts hp⟩
    exact qprep_leads (time := time) hh hq hlk hk hv hg x rfl hvh hlv
  · intro h key abort cause voted s q m b v ans hh hab hk hsh hp hc hq hqk hd hn hm he hl
    obtain ⟨d, i⟩ := key
    obtain rfl : h.src = d := hk
    subst hab
    have hlk : v.hb.link = [] := (resting (rest_hears hh)).link
    obtain ⟨t, x⟩ := leaves_parts hl
    obtain ⟨_, y⟩ := hears_parts hh
    have e : handOver h.src 0 b v = sent h.src ans (withQu (unhomed ⟨h.src, i⟩ v.qu) v) := by
      refine (handOver_qdecide (s := v) y.fresh x.far (qdecideShadow_none (s := v) hc hsh hp)).trans ?_
      exact homeDecide_aborts hq hqk hd hn hm he hlk hl
    refine frame_settles (b := b) hh rfl e fun hr => ?_
    have hu : Undisturbed v (withQu (unhomed ⟨h.src, i⟩ v.qu) v) := undisturbed_withQu (.inl rfl)
    exact hu.trans (undisturbed_sent (hu.rest.trans hr))
  · intro h key answers s a r m cop b v hh hk ha hst hp hr hs hw hg hm hc hmh hi hms hcs hml hcl hv hx hb ht
    subst ha
    have c : Committed key.qid.toNat r m cop v := ⟨hr, hs, hm, hc, hi, hms, hcs, hml, hcl, hv, hx, hb, ht⟩
    refine frame_settles (b := b) hh rfl ((if_pos hk).trans (recDone_last c hw hg hmh hp hst)) fun _ => ?_
    have hu : Undisturbed v (withQu (recCommitted key.qid.toNat v.qu) v) := undisturbed_withQu (.inr hb)
    exact hu.trans (Kept.refl _).withResp.withResp.toUndisturbed

/-! ## Statements that a state of theirs breaks -/

/-- A QOP that records, at position 0, an ARRIVE at a barrier of package scope. -/
def arriveQop : Flit := { handle := 0x30000000, a := BitVec.ofNat 64 (2 ^ 16 * opArrive.toNat), payload := 1 }

/-- The translation of that barrier, homed on die 1, whose arrivals this die combines: COMB = 1. -/
def combinedXl : Xl := { w0 := BitVec.ofNat 64 (1 + 2 + 0xFC + 2 ^ 25 + 2 ^ 51 * 3), w1 := 1 }

/-- A quire of one member, held open, nothing recorded. -/
def openRec : QRec := { preparingRec with members := [], state := .opened, commit := none }

/-- A running die with the quire open and the translation cached. -/
def combiningDie : State :=
  { runningDie with
    xl := { runningDie.xl with cache := [{ ctx := 0, handle := 0x30000000, x := combinedXl }] }
    qu := { runningDie.qu with recs := [(0, openRec)] } }

/-- Which of the members recorded at a die go to its own combining records. -/
def combinedMembers (s : State) : List Bool := s.qu.recs.flatMap (fun e => e.2.members.map (·.combined))

/-- The member recorded is one for this die's combining record (06 R149). -/
theorem combiningDie_combines : shown combinedMembers (exec (.qop 0 arriveQop) combiningDie) = some [true] := by decide +kernel

/-- Refutes O13, whose second clause records every member as one for the object's slot: an ARRIVE whose translation has COMB = 1 is
recorded for this die's combining record, where its pass counts it (09 R221). -/
theorem not_quireBeginsAndRecords : ¬ Obligations.QuireBeginsAndRecords := by
  unfold Obligations.QuireBeginsAndRecords
  rintro ⟨-, h, -⟩
  have claim := h 0 arriveQop combiningDie 0 openRec combinedXl
  iterate 6 specialize claim (by decide +kernel)
  exact absurd (refuted_by_shown claim (fun _ => rfl) combiningDie_combines) (by decide +kernel)

/-- A SIGNAL recorded for this die's combining record, as no QOP records it: only an arrival is. -/
def combinedSignal : Member := { signalMember with combined := true }

/-- A running die with a SEMAPHORE of 3 in slot 5, and the quire of that member held open. -/
def combinedSignalDie : State :=
  { runningDie with
    vat := refusingDie.vat
    qu := { runningDie.qu with recs := [(0, { openRec with members := [combinedSignal] })] } }

/-- The quire does not commit. -/
theorem combinedSignalDie_commitsNone : shown (·.qu.commits) (exec (.qcommit 0 {}) combinedSignalDie) = some 0 := by decide +kernel

/-- Refutes O14, which does not ask that the member is recorded for its slot: where it is recorded for this die's combining record, its
prepare pass looks there and not at the object (09 R221), and the quire aborts. -/
theorem not_quireCommits : ¬ Obligations.QuireCommits := by
  unfold Obligations.QuireCommits
  intro h
  have claim := h 0 {} combinedSignalDie 0 5 { openRec with members := [combinedSignal] } combinedSignal
  iterate 30 specialize claim (by decide +kernel)
  exact absurd (refuted_by_shown claim (fun _ => rfl) combinedSignalDie_commitsNone) (by decide +kernel)

/-- A FETCH of slot 5, neither copy of which was good: die 1 has not answered it. -/
def lateFetch : FetchWait := { slot := 5, from_ := [1], got := [], both := true }

/-- A running die whose dump has come to slot 5 and waits for its third copy. -/
def dumpingDie : State :=
  { runningDie with
    vat := { runningDie.vat with
      slots := [(5, { a := { err := { ue := true } }, b := { err := { ue := true } } })], fetch := [lateFetch] }
    dump := { busy := true, all := true, lim := 64, todo := [.obj 5] } }

/-- The dump issues its last two records. -/
theorem dumpingDie_dumps : shown (·.dump.recs) (exec (.thirdCopyTimeout 5) dumpingDie) = some 2 := by decide +kernel

/-- Refutes O54, whose third clause leaves everything outside the slot as it was: a dump that waited for the third copy of the slot goes
on in the cycle that gives the copy up (13 R307, 14 R353). -/
theorem not_failoverTimersComplete : ¬ Obligations.FailoverTimersComplete := by
  unfold Obligations.FailoverTimersComplete
  rintro ⟨-, -, h, -, -⟩
  have claim := h 5 dumpingDie lateFetch
  iterate 6 specialize claim (by decide +kernel)
  exact absurd (refuted_by_shown claim (fun _ => rfl) dumpingDie_dumps) (by decide +kernel)

end Sys2Proof.Proofs.Quires
end

section
/-! The launcher (10): what its three statements leave out. A launch whose entry write failed waits at its ring index to be written again
(10 R252): a DISARM discards it with the pending ones, and the queue enabled anew keeps it. Then a response under a tag that two requests
share. -/

namespace Sys2Proof.Proofs.Launcher

open Sys2Proof Sys2Proof.Machine Sys2Proof.Proofs.Organisation Sys2Proof.Proofs.Messages Sys2Proof.Proofs.Watches

/-! ## A launch whose entry write failed (10 R252) -/

/-- A descriptor of launch queue 0, armed on slot 5 by entry 3, without doorbell or post-operation. -/
def armedDesc : Desc :=
  { queue := 0, dbEn := false, dbProd := false, postEn := false, postGive := false, noq := false, tag := 0, postSlot := 0, dbValue := 0
    postAmount := 0, body := 0, ctx := 0, slot := 5, entry := 3, cond := 0, comparand := 9 }

/-- A launch queue of 16 entries, whose first entry write, for descriptor 7, failed. -/
def failedQueue : LQueue := { en := true, logsize := 4, prod := 1, fault := true, gaps := [(0, some 7)] }

/-- A running die with that descriptor in store slot 7, its object in slot 5, and launch queue 0 as given. -/
def dieWithQueue (l : LQueue) : State :=
  { runningDie with
    vat := { runningDie.vat with slots := [(5, mirrored { kind := kSemaphore, value := 3, armed := true } 0 [3])] }
    wt := { runningDie.wt with entries := [(3, .armed 5 7)] }
    la := { runningDie.la with descs := [(7, armedDesc)], queues := runningDie.la.queues.set 0 l } }

/-- The DISARM counts the launch in DROP. -/
theorem failedQueue_disarmDrops : shown (·.la.drop) (exec (.disarm 0 { a := 7 }) (dieWithQueue failedQueue)) = some 1 := by
  decide +kernel

/-- Refutes O15, whose first clause counts the descriptor's PEND alone: a launch whose entry write failed has gone back to the pending
ones (10 R252), and the DISARM discards and counts it with them (10 R249). -/
theorem not_disarmAndMarkComplete : ¬ Obligations.DisarmAndMarkComplete := by
  unfold Obligations.DisarmAndMarkComplete
  rintro ⟨h, -, -⟩
  have claim := h 0 { a := 7 } (dieWithQueue failedQueue) armedDesc
  iterate 5 specialize claim (by decide +kernel)
  exact absurd (refuted_by_shown claim (fun _ => rfl) failedQueue_disarmDrops) (by decide +kernel)

/-- GS_LQ_CFG with EN and LOGSIZE 4. -/
def enableWord : W32 := 0x80000004

/-- The die with the queue disabled after the failure. -/
def disabledQueueDie : State := dieWithQueue { failedQueue with en := false }

/-- The queue enabled anew keeps a ring index for the failed launch. -/
theorem disabledQueue_keepsFailed :
    shown (fun s => (lqAt s 0).gaps) (exec (.lqEnable {} enableWord) disabledQueueDie) = some [(0, some 7)] := by
  decide +kernel

/-- Refutes O27, whose second clause leaves the enabled ring empty: no launch is lost by a fault (10 R252), and one whose entry write
failed is given the first index of the new ring. -/
theorem not_ringCommandsComplete : ¬ Obligations.RingCommandsComplete := by
  unfold Obligations.RingCommandsComplete
  rintro ⟨-, h, -⟩
  have claim := h {} enableWord disabledQueueDie
  iterate 4 specialize claim (by decide +kernel)
  exact absurd (refuted_by_shown claim (fun _ => rfl) disabledQueue_keepsFailed) (by decide +kernel)

/-! ## A response under a tag that two requests share (19 R439) -/

/-- The read of launch queue 0's CONS. -/
def consRead : MReq := { use := .cons 0, wr := false, size := 0, addr := 0 }

/-- The die whose dump waits for one of its 32 writes to end, with the CONS read under the tag of one of them, as no step leaves it. -/
def consTaggedDie : State :=
  { twiceTaggedDie with memp := { twiceTaggedDie.memp with outst := (2, consRead) :: twiceTaggedDie.memp.outst } }

/-- The dump goes on in the cycle of the CONS read's response, and comes to its end. -/
theorem consTaggedDie_endsDump : shown (·.dump.ended) (exec (.consReadResponse 2 0 0) consTaggedDie) = some true := by
  decide +kernel

/-- Refutes O20, whose third clause does not ask that the outstanding requests have tags of their own: where the tag of the CONS read is
also that of a dump's write, the response takes both off the table, and the dump has room for its next write. -/
theorem not_launcherGoesOn : ¬ Obligations.LauncherGoesOn := by
  unfold Obligations.LauncherGoesOn
  rintro ⟨-, -, h, -, -⟩
  have claim := h consTaggedDie 2 0 consRead 0
  iterate 4 specialize claim (by decide +kernel)
  exact absurd (refuted_by_shown claim (fun _ => rfl) consTaggedDie_endsDump) (by decide +kernel)

end Sys2Proof.Proofs.Launcher
end

section
/-! Contexts and translation (11), and the register accesses that they limit (11 R273; 21): what an access does in its cycle. Then the
statements on walks and on the commands of a context, which a state of theirs breaks. -/

namespace Sys2Proof.Proofs.Contexts

open Sys2Proof Sys2Proof.Machine Sys2Proof.Laws Sys2Proof.Proofs.Scope Sys2Proof.Proofs.Organisation Sys2Proof.Proofs.Messages
  Sys2Proof.Proofs.Watches Sys2Proof.Proofs.Quires

section

variable {s t : State} {acc : Acc} {a : Nat} {v : W32}

/-! ## Bits of a register word -/

theorem toNat_and_low (v : W32) (k : Nat) (hk : k ≤ 32) : (v &&& BitVec.ofNat 32 (2 ^ k - 1)).toNat = v.toNat % 2 ^ k := by
  have h : 2 ^ k ≤ 2 ^ 32 := Nat.pow_le_pow_right (by omega) hk
  rw [BitVec.toNat_and, BitVec.toNat_ofNat, Nat.mod_eq_of_lt (by omega), Nat.and_two_pow_sub_one_eq_mod]

theorem toNat_and_not (v m : W32) : (v &&& ~~~m).toNat = v.toNat - (v &&& m).toNat := by
  have hd : (v &&& ~~~m) + (v &&& m) = v := by
    rw [BitVec.add_eq_or_of_and_eq_zero _ _ (by grind)]
    grind
  have hl : v &&& m ≤ v := by rw [BitVec.le_def, BitVec.toNat_and]; exact Nat.and_le_left
  rw [← BitVec.toNat_sub_of_le hl, ← BitVec.eq_sub_iff_add_eq.mpr hd]

/-- The bits above the low 6. -/
theorem toNat_and_address (v : W32) : (v &&& 0xFFFFFFC0).toNat = v.toNat / 64 * 64 := by
  have high : (v &&& 0xFFFFFFC0).toNat = v.toNat - (v &&& 0x3F).toNat := toNat_and_not v 0x3F
  have low : (v &&& 0x3F).toNat = v.toNat % 64 := toNat_and_low v 6 (by decide)
  omega

/-- All bits but 24 to 29. -/
theorem toNat_and_calCfg (v : W32) : (v &&& 0xC0FFFFFF).toNat = v.toNat / 2 ^ 30 * 2 ^ 30 + v.toNat % 2 ^ 24 := by
  have out : (v &&& 0xC0FFFFFF).toNat = v.toNat - (v &&& 0x3F000000).toNat := toNat_and_not v 0x3F000000
  have low : (v &&& 0x3FFFFFFF).toNat = v.toNat % 2 ^ 30 := toNat_and_low v 30 (by decide)
  have mid : (v &&& 0x3FFFFFFF &&& 0xFF000000).toNat = (v &&& 0x3FFFFFFF).toNat - (v &&& 0x3FFFFFFF &&& 0xFFFFFF).toNat :=
    toNat_and_not _ 0xFFFFFF
  have least : (v &&& 0x3FFFFFFF &&& 0xFFFFFF).toNat = (v &&& 0x3FFFFFFF).toNat % 2 ^ 24 := toNat_and_low _ 24 (by decide)
  have field : v &&& 0x3FFFFFFF &&& 0xFF000000 = v &&& 0x3F000000 := BitVec.and_assoc v _ _
  rw [field] at mid
  omega

theorem bit_getLsbD (v : W32) (i : Nat) : bit (v.getLsbD i) = v.toNat / 2 ^ i % 2 := by
  rw [← Nat.toNat_testBit, BitVec.getLsbD]
  cases v.toNat.testBit i <;> rfl

theorem some_whole (v : W32) : some v = some (v &&& 0xFFFFFFFF) := congrArg some BitVec.and_allOnes.symm

/-- A field of the low `k` bits. -/
theorem rw_low (k : Nat) (hk : k ≤ 32) (v : W32) : rw (v.setWidth k).toNat = some (v &&& BitVec.ofNat 32 (2 ^ k - 1)) := by
  refine congrArg some (BitVec.eq_of_toNat_eq ?_)
  rw [toNat_and_low v k hk, BitVec.toNat_ofNat, BitVec.toNat_setWidth]
  exact Nat.mod_eq_of_lt ((Nat.mod_le _ _).trans_lt v.isLt)

/-- LO of an address of 64 bytes. -/
theorem loWord_putLo (x : BitVec 58) (v : W32) : loWord 6 (putLo 6 x v) = some (v &&& 0xFFFFFFC0) := by
  refine congrArg some (BitVec.eq_of_toNat_eq ?_)
  have hx := x.isLt
  have hv := v.isLt
  rw [toNat_and_address, putLo, BitVec.toNat_ofNat, BitVec.toNat_ofNat]
  omega

/-- HI of an address of 64 bytes. -/
theorem hiWord_putHi (x : BitVec 58) (v : W32) : hiWord 6 (putHi 6 x v) = some (v &&& 0xFFFFFFFF) := by
  rw [← some_whole]
  refine congrArg some (BitVec.eq_of_toNat_eq ?_)
  have hx := x.isLt
  have hv := v.isLt
  rw [putHi, BitVec.toNat_ofNat, BitVec.toNat_ofNat]
  omega

/-- GS_DUMP_LIM, in units of 64 bytes. -/
theorem loWord_limit (v : W32) : loWord 6 (v.extractLsb' 6 26) = some (v &&& 0xFFFFFFC0) := by
  refine congrArg some (BitVec.eq_of_toNat_eq ?_)
  have hv := v.isLt
  rw [toNat_and_address, BitVec.toNat_ofNat, BitVec.extractLsb'_toNat, Nat.shiftRight_eq_div_pow]
  omega

/-- GS_CAL_CFG: two enables and two fields of 12 bits. -/
theorem rw_calCfg (v : W32) :
    rw (2 ^ 31 * bit (v.getLsbD 31) + 2 ^ 30 * bit (v.getLsbD 30) + 2 ^ 12 * (v.extractLsb' 12 12).toNat + (v.setWidth 12).toNat) =
      some (v &&& 0xC0FFFFFF) := by
  refine congrArg some (BitVec.eq_of_toNat_eq ?_)
  have hv := v.isLt
  rw [toNat_and_calCfg, BitVec.toNat_ofNat, BitVec.extractLsb'_toNat, BitVec.toNat_setWidth, Nat.shiftRight_eq_div_pow, bit_getLsbD,
    bit_getLsbD]
  omega

/-! ## What each register shows and takes (21 R461, R470) -/

theorem plainRegs_addr : ∀ e ∈ plainRegs, 4 * (BitVec.ofNat 23 (e.1 / 4)).toNat = e.1 := by decide

theorem readOnlyRegs_addr : ∀ a ∈ readOnlyRegs, 4 * (BitVec.ofNat 23 (a / 4)).toNat = a := by decide

theorem readPeer_isSome (s : State) (cnt : Bool) : (readPeer s cnt).isSome = true := by
  unfold readPeer
  split
  · rfl
  · cases cnt <;> rfl

theorem regVal_readOnly (s : State) (q : Requester) : ∀ a ∈ readOnlyRegs, (regVal s q a).isSome = true := by
  have h : readOnlyRegs.all (fun a => (regVal s q a).isSome) =
      ((readPeer s false).isSome && ((readPeer s true).isSome && true)) := rfl
  simpa [readPeer_isSome] using h

/-- No write reaches a register of RO and RC fields. -/
theorem regPut_readOnly (c : Acc) (v : W32) (s : State) (h : a ∈ readOnlyRegs) : regPut c a v s = s := by
  fin_cases h <;> rfl

theorem regVal_plain (s : State) (q : Requester) : ∀ e ∈ plainRegs, (regVal s q e.1).isSome = true :=
  List.all_eq_true.mp (rfl : plainRegs.all (fun e => (regVal s q e.1).isSome) = true)

/-- What the registers of `plainRegs` show, in their order. -/
def plainFields (s : State) : List (Option W32) :=
  [rw s.ag.incSel.toNat, rw s.vat.objSlot.toNat, rw s.la.sel.toNat, rw s.ctx.sel.toNat, some s.xl.tcHandle, rw s.xl.dwSel.toNat,
    rw s.felt.peerSel.toNat, rw s.res.sel.toNat, readCal s 0x1C0C, rw s.ag.paSel.toNat, loWord 6 s.dump.base, hiWord 6 s.dump.base,
    loWord 6 s.dump.lim, rw s.irq.sel.toNat, loWord 6 s.pwr.braceBase, hiWord 6 s.pwr.braceBase, rw s.step.fwReq.toNat,
    loWord 6 s.boot.calwAddr, hiWord 6 s.boot.calwAddr]

theorem regVal_plainFields (s : State) : plainRegs.map (fun e => regVal s .regp e.1) = plainFields s := rfl

/-- They show nothing that `still` leaves out. -/
theorem regVal_still (s : State) : ∀ e ∈ plainRegs, regVal (still s) .regp e.1 = regVal s .regp e.1 :=
  List.map_inj_left.mp ((regVal_plainFields (still s)).trans (regVal_plainFields s).symm)

theorem undisturbed_dumpRange (x : BitVec 58) (l : BitVec 26) (s : State) :
    Undisturbed s { s with dump := { s.dump with base := x, lim := l } } := ⟨rfl, rfl, rfl⟩

theorem undisturbed_braceBase (x : BitVec 58) (s : State) : Undisturbed s { s with pwr := { s.pwr with braceBase := x } } :=
  ⟨rfl, rfl, rfl⟩

theorem undisturbed_calwAddr (x : BitVec 58) (s : State) : Undisturbed s { s with boot := { s.boot with calwAddr := x } } :=
  ⟨rfl, rfl, rfl⟩

/-- A write of any of them leaves nothing waiting: the registers from GS_AGENT_INC_SEL to GS_PA_SEL, then the dump's range,
GS_IRQ_SEL, the base of the BRACE summary, GS_STEP_FW and the address of the calibration buffer. -/
theorem undisturbed_plainWrite (c : Acc) (v : W32) (s : State) : ∀ e ∈ plainRegs, Undisturbed s (regPut c e.1 v s) := by
  intro e h
  fin_cases h
  iterate 10 exact ⟨rfl, rfl, rfl⟩
  iterate 3 exact undisturbed_dumpRange _ _ s
  · exact ⟨rfl, rfl, rfl⟩
  iterate 2 exact undisturbed_braceBase _ s
  · exact ⟨rfl, rfl, rfl⟩
  iterate 2 exact undisturbed_calwAddr _ s

/-- Read after it is written, each of these registers shows the bits that it keeps: those of a field, a whole word, a word of an
address or GS_CAL_CFG. -/
theorem regVal_plainWrite (c : Acc) (v : W32) (s : State) :
    ∀ e ∈ plainRegs, regVal (wrote (regPut c e.1 v s)) .regp e.1 = some (v &&& e.2) := by
  simp only [plainRegs, List.forall_mem_cons]
  have field : ∀ k, k ≤ 32 → rw (v.setWidth k).toNat = some (v &&& BitVec.ofNat 32 (2 ^ k - 1)) := fun k hk => rw_low k hk v
  exact ⟨field 10 (by decide), field 17 (by decide), field 4 (by decide), field 12 (by decide), some_whole v, field 3 (by decide),
    field 9 (by decide), field 9 (by decide), rw_calCfg v, field 10 (by decide), loWord_putLo _ v, hiWord_putHi _ v, loWord_limit v,
    field 8 (by decide), loWord_putLo _ v, hiWord_putHi _ v, field 6 (by decide), loWord_putLo _ v, hiWord_putHi _ v,
    fun _ h => absurd h List.not_mem_nil⟩

theorem regVal_scratch (s : State) (q : Requester) (i : Fin 4) :
    (regVal s q (4 * (BitVec.ofNat 23 (12 + i.val)).toNat)).isSome = true := by
  fin_cases i <;> rfl

theorem regPut_scratch (c : Acc) (v : W32) (s : State) (i : Fin 4) :
    regPut c (4 * (BitVec.ofNat 23 (12 + i.val)).toNat) v s =
      { s with regp := { s.regp with scratch := putWord s.regp.scratch i.val v } } := by
  fin_cases i <;> rfl

/-! ## An access in its cycle (11 R273; 19 R442; 21 R460) -/

/-- Nothing waits for the port of the register accesses. -/
theorem undisturbed_regp (r : Regp) (s : State) : Undisturbed s { s with regp := r } := ⟨rfl, rfl, rfl⟩

/-- A write of a register that is read at its address. -/
theorem write_settles {addr : BitVec 23} (h : served acc s = true) (hv : (regVal (tick s) acc.rq (4 * addr.toNat)).isSome = true)
    (ht : regPut acc (4 * addr.toNat) v (tick s) = t) (hu : Undisturbed (tick s) t) :
    ∃ u, exec (.registerWrite acc addr v) s = .next u ∧ still u = still (wrote t) := by
  obtain ⟨w, hw⟩ := Option.isSome_iff_exists.mp hv
  refine cycle_settles ?_ (served_parts h).rest (hu.trans (undisturbed_regp _ t))
  rw [access_runs (x := { acc, wr := true, addr, data := v }) h, write_runs h rfl rfl hw, ht]

theorem regRun_denied {x : RegAcc} (ha : Machine.admitted x.acc (4 * x.addr.toNat) = false) (hb : x.acc.rq ≠ .regacc) :
    regRun x s = wrote { s with regp := { s.regp with deny := sat16 s.regp.deny } } := by
  simp [regRun, regServe, ha, regDone_port hb, wrote]

/-- With GCLK running and REGP ready an access runs, whatever its context. -/
theorem regOffer_runs {x : RegAcc} (hg : gclkOn s = true) (hr : regpHeld s = false) :
    whenPower (regOffer x) (tick s) = regRun x (tick s) := by
  simp only [gclkOn, Bool.and_eq_true, bne_iff_ne, Bool.not_eq_true'] at hg
  obtain ⟨⟨⟨awake, -⟩, on⟩, -⟩ := hg
  have ho : (tick s).pwr.off = false := on
  have hh : regpHeld (tick s) = false := hr
  have hw : wakeDoze (tick s) = tick s := if_neg awake
  simp [whenPower, regOffer, ho, hh, hw]

theorem regOffer_waits {x : RegAcc} (ho : s.pwr.off = false) (hr : regpHeld s = true) :
    whenPower (regOffer x) (tick s) = { tick s with regp := { s.regp with stalled := s.regp.stalled ++ [x] } } := by
  have ho' : (tick s).pwr.off = false := ho
  have hr' : regpHeld (tick s) = true := hr
  simp only [whenPower, regOffer, ho', hr']
  rfl

/-- GS_OBJ_REJECT is a count that its read clears. -/
theorem rejectRead_settles (h : served acc s = true) :
    ∃ u, exec (.rcRegisterRead acc 0x44A) s = .next u ∧ still u = still
      { tick s with vat := { s.vat with reject := 0 }, regp := { s.regp with rdata := BitVec.ofNat 32 s.vat.reject } } := by
  refine cycle_settles ?_ (served_parts h).rest ⟨rfl, rfl, rfl⟩
  have e : readEffect acc.rq 0x1128 (tick s) = { tick s with vat := { s.vat with reject := 0 } } := if_neg (served_parts h).bus
  rw [access_runs (x := { acc, wr := false, addr := 0x44A, data := 0 }) h, read_runs h rfl rfl rfl, regDone_port (served_parts h).bus]
  exact congrArg (fun t : State => { t with regp := { t.regp with rdata := BitVec.ofNat 32 s.vat.reject } }) e

end

/-- Settles O22: what an access does once it runs is the register's own effect, and every register written here is read at its
address; the value read back is the one that `still` shows. -/
theorem registerAccessesComplete : Obligations.RegisterAccessesComplete := by
  unfold Obligations.RegisterAccessesComplete
  refine ⟨?_, ?_, ?_, fun _ _ => rejectRead_settles, ?_, ?_, ?_⟩
  · intro acc i v s h
    exact write_settles h (regVal_scratch _ _ i) (regPut_scratch acc v (tick s) i) (undisturbed_regp _ _)
  · intro acc a m v s h ha
    have hv := regVal_plain (tick s) acc.rq _ ha
    have hu := undisturbed_plainWrite acc v (tick s) _ ha
    have hw := regVal_plainWrite acc v (tick s) _ ha
    have addr := plainRegs_addr _ ha
    obtain ⟨u, hn, hs⟩ := write_settles (addr := BitVec.ofNat 23 (a / 4)) h (by rwa [addr]) (by rw [addr]) hu
    exact ⟨u, hn, by rw [← regVal_still u _ ha, hs, regVal_still _ _ ha, hw]⟩
  · intro acc a v s h ha
    have addr := readOnlyRegs_addr a ha
    exact write_settles h (by rw [addr]; exact regVal_readOnly _ _ a ha) (by rw [addr]; exact regPut_readOnly acc v _ ha) ⟨rfl, rfl, rfl⟩
  · intro acc wr addr data s h hv
    refine cycle_settles ?_ (served_parts h).rest (undisturbed_regp _ (tick s))
    rw [access_runs (x := { acc, wr, addr, data }) h, reserved_runs h hv, regDone_port (served_parts h).bus]
    rfl
  · intro acc wr addr data s hr hg hh hq _ ha
    refine cycle_settles ?_ hr (undisturbed_regp _ (tick s))
    rw [regOffer_runs (x := { acc, wr, addr, data }) hg hh, regRun_denied ha (by simp [hq])]
    rfl
  · intro acc addr data s hr ho hh
    exact cycle_settles (regOffer_waits ho hh) hr (undisturbed_regp _ (tick s))

/-! ## A walk read under a tag that two requests share (11 R258; 19 R439) -/

/-- The walk of handle 5 in context 0, at its L1 read. -/
def walkAtL1 : Walk := { ctx := 0, handle := 5 }

/-- The read of its L1 entry. -/
def walkRequest : MReq := { use := .walk 0 5, wr := false, size := 1, addr := 0 }

/-- A block whose first word is a valid L1 entry. -/
def l1Block : BitVec 512 := 0x5001

/-- The die whose dump waits for one of its 32 writes to end, with the L1 read under the tag of one of them, as no step leaves it. -/
def walkTaggedDie : State :=
  { twiceTaggedDie with
    xl := { twiceTaggedDie.xl with walks := [walkAtL1] }
    memp := { twiceTaggedDie.memp with outst := (2, walkRequest) :: twiceTaggedDie.memp.outst } }

/-- The dump goes on in the cycle of the L1 entry's response, and comes to its end. -/
theorem walkTaggedDie_endsDump : shown (·.dump.ended) (exec (.walkReadResponse 2 0 l1Block) walkTaggedDie) = some true := by
  decide +kernel

/-- Refutes O18, whose second clause does not ask that the outstanding requests have tags of their own: where the tag of the L1 read is
also that of a dump's write, the response takes both off the table, and the dump has room for its next write. -/
theorem not_walksGoOn : ¬ Obligations.WalksGoOn := by
  unfold Obligations.WalksGoOn
  rintro ⟨-, h, -⟩
  have claim := h walkTaggedDie 2 l1Block walkRequest 0 5 walkAtL1
  iterate 12 specialize claim (by decide +kernel)
  exact absurd (refuted_by_shown claim (fun _ => rfl) walkTaggedDie_endsDump) (by decide +kernel)

/-! ## CLEAR of a context with a completed epoch (11 R270; 13 R319) -/

/-- The latest epoch that a package record of context 3 completed, kept for the resend of a takeover. -/
def keptEpoch : Completed :=
  { slot := none, ctx := 3, handle := 0x30000000, epoch := 7, lanes := false, word := 0, data := 0, x := combinedXl }

/-- A running die with context 3 LIVE and selected, a SEMAPHORE of it in slot 9, and that epoch kept. -/
def keptEpochDie : State :=
  { runningDie with
    ctx := { runningDie.ctx with sel := 3, tab := [(3, { state := .live, l1len := 1, chain := [9] })] }
    vat := { runningDie.vat with slots := [(9, mirrored { kind := kSemaphore, owner := 3 } 0 [])] }
    couch := { runningDie.couch with done := [keptEpoch] } }

/-- The CLEAR forgets it. -/
theorem keptEpochDie_forgets : shown (·.couch.done.length) (exec (.deckleClear {}) keptEpochDie) = some 0 := by
  decide +kernel

/-- Refutes O26, whose second clause leaves the Couch's completed epochs as they are but for those of the slot: the CLEAR closes the
context's combining records and removes all that it holds on the die (11 R270), so that the epochs which those records completed are
forgotten too. -/
theorem not_contextCommandsComplete : ¬ Obligations.ContextCommandsComplete := by
  unfold Obligations.ContextCommandsComplete
  rintro ⟨-, h, -⟩
  have claim := h {} keptEpochDie 9
  iterate 17 specialize claim (by decide +kernel)
  exact absurd (refuted_by_shown claim (fun _ => rfl) keptEpochDie_forgets) (by decide +kernel)

end Sys2Proof.Proofs.Contexts
end

section
/-! Felt's streams (12): frames that its peers send outside the sequence, the opening of a stream, what carries the frames, the commands
of its registers and those of the units that its frames halt and wake, an operation that a frame brings to LINK, and its timers. First
what an unsequenced frame brings about at the die that hears it. -/

namespace Sys2Proof.Proofs.Streams

open Sys2Proof Sys2Proof.Machine Sys2Proof.Laws Sys2Proof.Proofs.Organisation Sys2Proof.Proofs.Watches
open Sys2Proof.Proofs.Messages hiding streamTo
open Sys2Proof.Proofs.Objects Sys2Proof.Proofs.KindTables
open Sys2Proof.Proofs.Contexts (write_settles)
open Sys2Proof.Proofs.StepUnit (barred_settles)

/-! ## An unsequenced frame received (12 R281, R292, R298) -/

section

variable {h : FHdr} {b : Body} {s T : State} {t : Stream}

/-- With GCLK running the die does not doze, so that nothing has to wake it. -/
theorem wakeDoze_on (hg : gclkOn s = true) : wakeDoze s = s := by
  refine if_neg ?_
  simp only [gclkOn, Bool.and_eq_true, bne_iff_ne] at hg
  tauto

/-- Felt receives in RUN while GCLK runs. -/
theorem feltOn_run (hg : gclkOn s = true) (hp : s.boot.phase = .run) : feltOn s = true := by
  simp only [gclkOn, Bool.and_eq_true, Bool.not_eq_true'] at hg
  simp [feltOn, hp, hg.1.2]

/-- A frame that passes its checks goes by the state of its stream. -/
theorem rxFrame_awake (hg : gclkOn s = true) (hp : s.boot.phase = .run) (hk : frameOk s h b = true) (hw : b ≠ .wake) :
    rxFrame h b s = streamRx h b s := by
  have hsleep : s.pwr.st ≠ .sleep := by
    simp only [gclkOn, Bool.and_eq_true, bne_iff_ne] at hg
    tauto
  simp [rxFrame, feltOn_run hg hp, hk, hw, hsleep, wakeDoze_on hg]

/-- SQ of a frame that passes its checks is its type's. -/
theorem sq_frameOk (hk : frameOk s h b = true) : h.sq = bodySq b := by
  simp only [frameOk, Bool.and_eq_true, beq_iff_eq] at hk
  tauto

/-- The header of an unsequenced frame is all that its stream learns. -/
theorem heard_unsequenced (hq : h.sq = false) : heard h s = modStream h.src acked (modStream h.src (headed h s) s) := by
  rw [modStream_modStream (f := headed h s) fun _ => rfl]
  unfold heard
  simp only [hq, Bool.false_eq_true, if_false, Bool.false_and, Bool.false_or]
  rfl

/-- An unsequenced frame on an UP stream of its session. -/
theorem streamRx_unsequenced (ht : streamTo s h.src = some t) (hu : t.st = .up) (hs : h.session = t.peerSession) (hq : h.sq = false)
    (hn : isSync b = false) : streamRx h b s = unseqRx h t b (takeHdr h s) := by
  simp [streamRx, ht, hu, liveRx, hn, hs, hq]

/-- An unsequenced frame heard. -/
theorem rxFrame_unsequenced (x : Hears h b s t) (hq : bodySq b = false) : rxFrame h b s = unseqRx h t b (heard h s) := by
  have hsq := (sq_frameOk x.ok).trans hq
  rw [rxFrame_awake x.on x.run x.ok x.noWake, streamRx_unsequenced x.stream x.up x.session hsq x.noSync, heard_unsequenced hsq,
    takeHdr_acked x.stream x.unacked]

/-- The stream of the sender after a frame is heard is UP, as before it, with the same power state and copies of HALT to send. -/
theorem streamTo_heard (x : Hears h b s t) : ∃ v, streamTo (heard h s) h.src = some v ∧ v.st = .up ∧ v.peerPower = t.peerPower ∧
    v.haltCopies = t.haltCopies := by
  unfold heard
  rw [streamTo_modStream, x.stream]
  · exact ⟨_, rfl, x.up, rfl, rfl⟩
  · exact fun _ => rfl

/-- A stream found after streams were changed that kept their peers. -/
theorem streamTo_changed {f : Stream → Stream} {d : DieId} (hf : ∀ t, (f t).peer = t.peer) (e : DieId) :
    streamTo (modStream d f s) e = (streamTo s e).map (fun t => if t.peer = d then f t else t) := by
  have hp : ((fun t : Stream => t.peer == e) ∘ fun t => if t.peer = d then f t else t) = fun t => t.peer == e := by
    funext t
    simp only [Function.comp_apply]
    split_ifs <;> simp only [hf]
  unfold streamTo modStream
  rw [List.find?_map, hp]

/-- A change that keeps the states of its streams brings none UP, and none out of it. -/
theorem up_changed {f : Stream → Stream} {d : DieId} (hf : ∀ t, (f t).peer = t.peer) (hu : ∀ t, (f t).st = t.st) (e : DieId) :
    (streamTo (modStream d f s) e).any (fun t => t.st == .up) = (streamTo s e).any (fun t => t.st == .up) := by
  rw [streamTo_changed hf]
  cases streamTo s e with
  | none => rfl
  | some t =>
    simp only [Option.map_some, Option.any_some]
    split_ifs <;> simp only [hu]

theorem up_heard (d : DieId) : (streamTo (heard h s) d).any (fun t => t.st == .up) = (streamTo s d).any (fun t => t.st == .up) := by
  refine up_changed ?_ ?_ d <;> exact fun _ => rfl

/-- An unsequenced frame heard, whose effect on the state comes to `T`. -/
theorem unsequenced_settles (hh : hears h b s = true) (hq : bodySq b = false)
    (hT : ∀ t, Hears h b (tick s) t → unseqRx h t b (heard h (tick s)) = T)
    (hu : rest (heard h (tick s)) = true → Undisturbed (heard h (tick s)) T) :
    ∃ u, frameRow h b s = .next u ∧ still u = still T := by
  obtain ⟨t, x⟩ := hears_parts (hears_tick.trans hh)
  have v := undisturbed_heard x
  exact cycle_settles ((rxFrame_unsequenced x hq).trans (hT t x)) x.rest (v.trans (hu (v.rest.trans x.rest)))

end

/-! ## An unsequenced frame sent (12 R289, R292) -/

section

variable {d : DieId} {b : Body} {s : State}

theorem sendUnseq_told (h : txAllowed s = true) : sendUnseq d b s = told d b s := by
  unfold sendUnseq told
  cases ht : streamTo s d with
  | none => rfl
  | some t =>
    obtain rfl := peer_streamTo ht
    exact if_pos h

theorem txAllowed_run (hf : s.res.fatal = false) (hp : s.boot.phase = .run) : txAllowed s = true := by
  simp [txAllowed, hf, hp]

/-- A frame told changes Felt alone. -/
theorem told_eq (d : DieId) (b : Body) (s : State) : told d b s = withFelt (told d b s).felt s := by
  unfold told
  split <;> rfl

theorem rest_told (h : rest s = true) : rest (told d b s) = true := by
  unfold told
  split
  · exact h
  · exact rest_modStream (s := withFelt _ s) h fun t ht _ => (resting h).closes t ht

theorem undisturbed_told (h : rest s = true) : Undisturbed s (told d b s) := by
  refine ⟨(rest_told h).trans h.symm, ?_, ?_⟩ <;> rw [told_eq] <;> rfl

/-- Changing a stream, but not whether its close is due, leaves nothing waiting. -/
theorem undisturbed_modStream {f : Stream → Stream} (h : rest s = true)
    (hf : ∀ t ∈ s.felt.streams, t.peer = d → ((f t).closeOwed && (f t).unacked.isEmpty) = false) :
    Undisturbed s (modStream d f s) :=
  ⟨(rest_modStream h hf).trans h.symm, rfl, rfl⟩

/-- The same where the change keeps what a close waits for. -/
theorem undisturbed_modStream_same {f : Stream → Stream} (h : rest s = true) (hc : ∀ t, (f t).closeOwed = t.closeOwed)
    (hu : ∀ t, (f t).unacked = t.unacked) : Undisturbed s (modStream d f s) :=
  undisturbed_modStream h fun t ht _ => by rw [hc, hu]; exact (resting h).closes t ht

end

/-! ## HEARTBEAT, ACK and TSYNC frames (12 R292, R298; 14 R338) -/

section

variable {h : FHdr} {s : State} {t : Stream}

/-- A HEARTBEAT that brings no taker and no change to or from SLEEP that this die has to act on. -/
theorem beatRx_steady {d : DieId} {p : BitVec 3} {halted : Bool} (ht : streamTo s d = some t) (hp : t.peerPower ≠ 2)
    (hc : p ≠ 2 ∨ t.haltCopies = []) :
    beatRx d p halted false s = modStream d (fun t => { t with peerPower := p, peerHalted := halted }) s := by
  have hn : ¬(p = 2 ∧ (!t.haltCopies.isEmpty) = true) := by
    rintro ⟨h2, hn⟩
    simp [hc.resolve_left (not_not_intro h2)] at hn
  unfold beatRx
  simp only [ht, hp, hn, false_and, and_false, if_false, Bool.false_eq_true]

/-- What no answer and no quire record waits for, an acknowledgement ends without more. -/
theorem ackedFrame_plain {m : Unacked} (hb : bodyType m.body ≠ 0x90) (hr : s.vat.heldResp = []) (hc : s.qu.coords = [])
    (hh : s.qu.homes = []) : ackedFrame m s = s := by
  have hv : ({ s with vat := { s.vat with heldResp := [] } } : State) = s := by rw [← hr]
  have e : ackFid m.fid s = s := by simp [ackFid, homesAcked, coordAcked, hr, hc, hh, hv]
  unfold ackedFrame
  cases hm : m.body <;> simp_all [bodyType]

/-- The header of a frame that acknowledges all that this die has sent and nothing else waits for. -/
theorem takeHdr_acks {m : Unacked} (ht : streamTo s h.src = some t) (hu : t.unacked = [m]) (ha : isAcked h.ack h.sack m.seq = true)
    (hb : bodyType m.body ≠ 0x90) (hr : s.vat.heldResp = []) (hc : s.qu.coords = []) (hh : s.qu.homes = []) :
    takeHdr h s = modStream h.src acked (modStream h.src (headed h s) s) := by
  have e : streamTo (modStream h.src (headed h s) s) h.src = some (headed h s t) := by
    have hp : ∀ t, (headed h s t).peer = t.peer := fun _ => rfl
    rw [streamTo_modStream hp, ht, Option.map_some]
  have hu' : (headed h s t).unacked = [m] := hu
  have e' : takeAck h.src h.ack h.sack (modStream h.src (headed h s) s) = modStream h.src acked (modStream h.src (headed h s) s) := by
    unfold takeAck
    rw [e]
    simp only [hu', List.filter_cons, List.filter_nil, ha, Bool.not_true, Bool.false_eq_true, if_true, if_false, List.foldl_cons,
      List.foldl_nil]
    exact ackedFrame_plain (s := modStream h.src acked (modStream h.src (headed h s) s)) hb hr hc hh
  exact e'

/-- The time group with one exchange more (14 R338). -/
def exchanged (p : Bool) (x : Int × Int) (c : Calender) : Calender :=
  { c with sentT1 := none, parentLocked := p, group := c.group ++ [x] }

/-- A RESP to the exchange under way, of a Calender that is LOCKED and whose group it does not fill. -/
theorem tsyncResp_locked {d : DieId} {xn : Byte} {k : BitVec 2} {t1 t2 t3 : W64} (hp : parentDie s = some d) (hx : xn = s.cal.xn)
    (h1 : s.cal.sentT1 = some t1) (hl : s.cal.st = .locked) (hg : s.cal.group.length < 9) :
    tsyncResp d xn k t1 t2 t3 s = { s with cal := (exchanged (k == 3)
      (((t2 - t1).toInt - (now s - t3).toInt - (if pkgOf d = myPkg s then s.cal.asymD2d.toInt else s.cal.asymEth.toInt)) / 2,
        ((t2 - t1).toInt + (now s - t3).toInt) / 2) s.cal) } := by
  unfold tsyncResp
  simp only [hp, hx, h1, ne_eq, not_true_eq_false, or_self, if_false, modCal, hl, reduceCtorEq, false_and]
  refine (if_neg ?_).trans (by simp only [exchanged, ← hl])
  simp only [List.length_append, List.length_cons, List.length_nil]
  omega

end

/-! ## An entry in the event log (13 R327) -/

section

variable {c : Nat} {x : W32} {d e : W64} {s u : State}

/-- An event that asserts no source changes the unit of the event log alone. -/
theorem logEvent_unsourced : logEvent c none x d e s = { s with res := (logWrite c false x d e s).res } := by
  unfold logEvent logWrite
  simp only [Option.isSome_none]
  split_ifs <;> rfl

/-- What is written shows the time, and not in FAILED. -/
theorem logWrite_res {i : Bool} (hr : u.res = s.res) (hc : u.cal = s.cal) (hb : u.boot = s.boot) :
    (logWrite c i x d e u).res = (logWrite c i x d e s).res := by
  unfold logWrite now
  simp only [hr, hc, hb]
  split_ifs <;> simp only [hr]

end

/-! ## FWMSG and TAKEOVER frames (13 R321; 18 R430) -/

section

variable {s : State}

/-- A message for a sequencer that runs and has room goes into its INBOX. -/
theorem fwmsgRx_stored {d : DieId} {r q : Byte} {tag : BitVec 16} {bo : Bool} {msg : List W64} {n : Nat} (hn : sqOfRole s r = some n)
    (hr : sqRuns (sqAt s n) = true) (hm : (sqAt s n).msgs < 32) : fwmsgRx d r q tag bo msg s =
      modSq n (storeMsg { src := d, dstRole := r, srcRole := q, tag, bounce := bo, msg }) s := by
  simp [fwmsgRx, inboxPut, hn, hr, hm]

/-- A message for no role goes back. -/
theorem fwmsgRx_bounced {d : DieId} {r q : Byte} {tag : BitVec 16} {msg : List W64} (hn : sqOfRole s r = none)
    (hl : leaves d (.fwmsg q r tag true []) s = true) :
    fwmsgRx d r q tag false msg s = sent d (.fwmsg q r tag true []) s := by
  simp [fwmsgRx, inboxPut, hn, sendFrame_leaves hl]

/-- A message stored takes no sequencer out of its wait for the flash. -/
theorem undisturbed_storeMsg {n : Nat} {m : InMsg} : Undisturbed s (modSq n (storeMsg m) s) := by
  have hw : ∀ k, (sqAt (modSq n (storeMsg m) s) k).st = (sqAt s k).st := by
    intro k
    simp only [sqAt, modSq]
    split_ifs <;> rfl
  have hf : flashIdle (modSq n (storeMsg m) s) = flashIdle s := by
    unfold flashIdle
    simp only [hw]
    rfl
  refine ⟨?_, rfl, rfl⟩
  unfold rest
  rw [hf]
  rfl

/-- A takeover that this die learns of: the taker added and counted. -/
theorem takeoverRx_learnt {d p : DieId} {r : Byte} {time : W64} (hp : p ≠ myDie s) (ha : takerAllowed s r p d = true)
    (hn : s.couch.takers.any (fun t => t.role == r && t.primary == p) = false)
    (hu : (streamTo s p).any (fun t => t.st == .up) = false) (hh : s.felt.peerHeld = []) :
    takeoverRx d r p time s = logEvent 0x0E none (p.setWidth 32) (r.setWidth 64) 0
      (bumpAon 0x12 { s with couch := { s.couch with takers := s.couch.takers ++ [{ role := r, primary := p, taker := d }] } }) := by
  obtain ⟨v, hv⟩ : ∃ v, v = logEvent 0x0E none (p.setWidth 32) (r.setWidth 64) 0
      (modCouch (fun c => { c with takers := c.takers ++ [{ role := r, primary := p, taker := d }] }) (bumpAon 0x12 s)) := ⟨_, rfl⟩
  have hvf : v.felt = s.felt := by rw [hv, logEvent_unsourced]; rfl
  have hvu : (streamTo v p).any (fun t => t.st == .up) = false := by simpa only [streamTo, hvf] using hu
  have hvh : ({ v with felt := { s.felt with peerHeld := [] } } : State) = v := by rw [← hh, ← hvf]
  unfold takeoverRx
  simp only [hp, ha, hn, Bool.not_true, Bool.false_eq_true, if_false, ← hv, hvu, hvf, hh, List.filter_nil, List.foldl_nil]
  exact hvh.trans hv

end

/-- Settles O50: the stream takes the frame's header, and its number where it has one; the rest is the frame's effect on what the die
knows of its peer, on the group of the Calender, on an INBOX or on the takers. -/
theorem linkFramesComplete : Obligations.LinkFramesComplete := by
  unfold Obligations.LinkFramesComplete
  refine ⟨?_, ?_, ?_, ?_, ?_, ?_, ?_, ?_⟩
  · intro h power halted taken time s t b v hh ht htk hp hc
    subst htk
    refine unsequenced_settles (b := b) hh rfl (fun u x => ?_) fun hr => undisturbed_modStream_same hr (fun _ => rfl) fun _ => rfl
    obtain rfl : t = u := Option.some.inj (ht.symm.trans x.stream)
    obtain ⟨w, hw, -, hwp, hwc⟩ := streamTo_heard x
    exact beatRx_steady hw (by rwa [hwp]) (by rwa [hwc])
  · intro h s b v hh
    exact unsequenced_settles (b := b) hh rfl (fun _ _ => rfl) fun _ => ⟨rfl, rfl, rfl⟩
  · intro h s t m hr hg hp hk ht hu hs hm ha hb hv hc hh hcl
    have hq : h.sq = false := sq_frameOk hk
    refine cycle_settles (f := rxFrame h .ack) ?_ hr ?_
    · rw [rxFrame_awake (s := tick s) hg hp hk (by simp), streamRx_unsequenced (s := tick s) ht hu hs hq rfl,
        takeHdr_acks (s := tick s) ht hm ha hb hv hc hh, ← heard_unsequenced hq]
      rfl
    · refine undisturbed_modStream hr fun t ht hp => ?_
      simp only [List.all_eq_true, Bool.or_eq_true, bne_iff_ne, Bool.not_eq_true'] at hcl
      simp [(hcl t ht).resolve_left (fun n => n hp)]
  · intro h xn t1 s b v hh hf
    refine unsequenced_settles (b := b) hh rfl (fun _ x => ?_) undisturbed_told
    exact sendUnseq_told (s := v) (txAllowed_run hf x.run)
  · intro h xn k t1 t2 t3 s b v a c asym hh hp hx h1 hl hg
    refine unsequenced_settles (b := b) hh rfl (fun _ x => ?_) fun _ => ⟨rfl, rfl, rfl⟩
    exact tsyncResp_locked (s := v) hp hx h1 hl hg
  · intro h r q tag bo msg s n b v hh hn hr hm
    exact frame_settles (b := b) hh rfl (fwmsgRx_stored (s := v) hn hr hm) fun _ => undisturbed_storeMsg
  · intro h r q tag bo msg s b v ans hh hn hbo hl
    subst hbo
    exact frame_settles (b := b) hh rfl (fwmsgRx_bounced (s := v) hn hl) undisturbed_sent
  · intro h r p time s b v hh hp ha hn hu hf
    have hu' : (streamTo v p).any (fun t => t.st == .up) = false := by rw [up_heard]; exact hu
    refine frame_settles (b := b) hh rfl (takeoverRx_learnt (s := v) hp ha hn hu' hf) fun _ => Undisturbed.logEvent ⟨rfl, rfl, rfl⟩

/-! ## A stream opened (12 R296) -/

section

variable {h : FHdr} {d : DieId} {b : Body} {s : State} {t : Stream} {f : Stream → Stream}

/-- A stream on which a frame has just been sent: it carried the acknowledgement owed (12 R292). -/
def carried (s : State) (t : Stream) : Stream := { t with lastSent := now s, ackOwed := false, used := s.clk.cycle }

/-- The state with one frame more on the wire. -/
def onWire (w : WireFrame) (s : State) : State := { s with felt := { s.felt with wire := s.felt.wire ++ [w] } }

/-- A frame sent on a stream that has just been changed. -/
theorem wireOut_changed (hf : ∀ t, (f t).peer = t.peer) (x : FHdr) :
    wireOut t x b (modStream t.peer f s) =
      modStream t.peer (fun u => carried s (f u)) (onWire { h := x, body := b, idx := t.idx } s) :=
  modStream_modStream (s := onWire _ s) (g := carried s) hf

/-- The state with another number of the last session. -/
def withSession (n : BitVec 16) (s : State) : State := { s with felt := { s.felt with session := n } }

theorem undisturbed_onWire {w : WireFrame} {n : BitVec 16} : Undisturbed s (onWire w (withSession n s)) := ⟨rfl, rfl, rfl⟩

/-- A stream that answers the SYNC of a header with session `n`. -/
def opened (h : FHdr) (n : BitVec 16) (s : State) (t : Stream) : Stream :=
  { t with
    st := .up, mySession := n, peerSession := h.session, next := 0, exp := 0, unacked := [], held := []
    credit := h.credit, granted := initCredit t.eth, peerCwait := h.cwait, lastRecv := now s, syncs := 0
    ackOwed := false, closeOwed := false }

/-- Where no frame waits, none waits for credit, and a stream that holds none acknowledges none out of order. -/
theorem mkHdr_fresh {q r c : Bool} {x : W32} (hq : s.felt.txq = []) (hh : t.held = []) : mkHdr s t q r c x =
    { sq := q, retx := r, close := c, src := myDie s, dst := t.peer, seq := x, ack := t.exp, credit := t.granted
      session := t.mySession } := by
  have hs : sackOf t = 0 := by simp [sackOf, hh]
  simp [mkHdr, hs, cwaitOf, waitsFor, hq]

/-- The header of the SYNC_ACK. -/
def syncAckHdr (d : DieId) (n : BitVec 16) (t : Stream) (s : State) : FHdr :=
  { src := myDie s, dst := d, session := n, credit := initCredit t.eth }

/-- A SYNC answered on a stream with nothing unacknowledged, where no frame waits. -/
theorem answerSync_opens (ht : streamTo s h.src = some t) (hu : t.unacked = []) (hq : s.felt.txq = []) (ha : txAllowed s = true) :
    answerSync h s = modStream h.src (fun u => carried s (opened h (s.felt.session + 1) s u))
      (onWire { h := syncAckHdr h.src (s.felt.session + 1) t s, body := .syncAck, idx := t.idx }
        (withSession (s.felt.session + 1) s)) := by
  let n := s.felt.session + 1
  have hp : t.peer = h.src := peer_streamTo ht
  have hf : ∀ t, (opened h n s t).peer = t.peer := fun _ => rfl
  have hr : requeue t (withSession n s) = withSession n s := by simp [requeue, hu]
  obtain ⟨v, hv⟩ : ∃ v, v = modStream h.src (opened h n s) (withSession n s) := ⟨_, rfl⟩
  have hs : streamTo v h.src = some (opened h n s t) := by
    rw [hv, streamTo_modStream hf, show streamTo (withSession n s) h.src = streamTo s h.src from rfl, ht, Option.map_some]
  have hm : mkHdr v (opened h n s t) false false false 0 = syncAckHdr h.src n t s := by
    rw [hv, mkHdr_fresh (s := modStream h.src (opened h n s) (withSession n s)) hq rfl, ← hp]
    rfl
  have hw := wireOut_changed (t := opened h n s t) (b := .syncAck) (s := withSession n s) hf (syncAckHdr h.src n t s)
  rw [hf, hp, ← hv] at hw
  have hx : txAllowed v = true := by rw [hv]; exact ha
  have e : answerSync h s = match streamTo v h.src with
      | none => v
      | some u => if txAllowed v then wireOut u (mkHdr v u false false false 0) .syncAck v else v := by
    rw [hv, ← hr]
    unfold answerSync
    rw [ht]
    rfl
  rw [e, hs]
  simp only [hx, if_true, hm]
  exact hw

/-- A SYNC to a stream that is closed here, or that this die opens too as the one of no lower ID. -/
theorem syncRx_answered (hc : h.close = false) (ht : streamTo s h.src = some t)
    (hs : t.st = .closed ∨ t.st = .sync ∧ h.src.toNat ≤ (myDie s).toNat) : syncRx h s = answerSync h s := by
  have hn : ¬(t.st = .sync ∧ (myDie s).toNat < h.src.toNat) := by
    rintro ⟨e, hl⟩
    rcases hs with k | ⟨-, k⟩
    · simp [e] at k
    · omega
  unfold syncRx
  simp only [hc, ht, hn, if_false, Bool.false_eq_true]
  simp [openSync, ht]

/-- A SYNC goes by no session. -/
theorem streamRx_sync (ht : streamTo s h.src = some t) (hs : t.st = .closed ∨ t.st = .sync) : streamRx h .sync s = syncRx h s := by
  unfold streamRx
  rcases hs with hs | hs <;> simp [ht, hs, liveRx, isSync]

/-- A stream of which a SYNC_ACK tells the peer's session and credit. -/
def acknowledged (h : FHdr) (s : State) (t : Stream) : Stream :=
  { t with
    st := .up, peerSession := h.session, credit := h.credit, next := 0, exp := 0, held := [], lastRecv := now s
    peerCwait := h.cwait, syncs := 0 }

/-- A SYNC_ACK to a stream in SYNC. -/
theorem streamRx_syncAck (hq : h.sq = false) (hc : h.close = false) (ht : streamTo s h.src = some t) (hs : t.st = .sync) :
    streamRx h .syncAck s = modStream h.src (acknowledged h s) s := by
  have e : streamRx h .syncAck s = syncAckRx h t s := by
    simp only [streamRx, ht, hs, liveRx, isSync, hq, reduceCtorEq, or_self, false_and, if_false, Bool.false_eq_true]
    rfl
  rw [e, syncAckRx, if_pos hs, if_neg (by simp [hc])]
  rfl

end

/-! ## WAKE and HALT frames (12 R301, R303; 16 R377, R384) -/

section

variable {h : FHdr} {s : State} {t : Stream}

/-- In SLEEP a WAKE asks for the exit. -/
theorem rxFrame_wakeSleep (hp : s.boot.phase = .run) (ho : s.pwr.off = false) (hs : s.pwr.st = .sleep) (hk : frameOk s h .wake = true)
    (hw : wakeLate s h = false) : rxFrame h .wake s = { s with pwr := { s.pwr with wake := true } } := by
  have hf : feltOn s = true := by simp [feltOn, hp, ho]
  have e : rxFrame h .wake s = sleepRx h .wake s := by
    simp only [rxFrame, hf, hk, hs, Bool.not_true, Bool.false_eq_true, if_false, if_true]
  exact e.trans (if_neg (by simp [hw]))

/-- Out of SLEEP it has nothing to wake. -/
theorem rxFrame_wakeAwake (hg : gclkOn s = true) (hp : s.boot.phase = .run) (hk : frameOk s h .wake = true)
    (hw : wakeLate s h = false) : rxFrame h .wake s = s := by
  have hs : s.pwr.st ≠ .sleep := by
    simp only [gclkOn, Bool.and_eq_true, bne_iff_ne] at hg
    tauto
  simp [rxFrame, feltOn_run hg hp, hk, hs, hw, wakeDoze_on hg]

/-- The state of a die that a HALT of an origin and time halts, its log entry apart (12 R303). -/
def haltedBy (o : DieId) (cause : Byte) (time : W64) (s : State) : State :=
  { s with
    pwr := { s.pwr with halted := true, hcause := cause }
    pins := { s.pins with haltOut := true }
    felt := { s.felt with halts := (s.felt.halts ++ [(o, time)]).drop (s.felt.halts.length + 1 - 16) } }

/-- The state in which a HALT is remembered and HALT_OUT driven. -/
def haltSeen (o : DieId) (time : W64) (s : State) : State :=
  { s with
    pins := { s.pins with haltOut := true }
    felt := { s.felt with halts := (s.felt.halts ++ [(o, time)]).drop (s.felt.halts.length + 1 - 16) } }

theorem spreadHalt_none {b : Body} {f : Option DieId}
    (hs : s.felt.streams.filter (fun t => (!t.eth || t.st == .up) && some t.peer != f) = []) : spreadHalt b f s = s := by
  simp [spreadHalt, hs]

/-- The halt of a die once its peers are told of it. -/
def haltHere (o : DieId) (c : Byte) (s : State) : State :=
  if s.pwr.halted then s
  else beatAll (abortAllOpen (fun _ => true) 0xD (logEvent 0x14 none (o.setWidth 32) (c.setWidth 64) 0
    (modPwr (fun p => { p with halted := true, hcause := c }) s)))

/-- A halt of a die without quires, of which no peer is to be told but the one that a HALT came from. -/
theorem haltNow_alone {o : DieId} {c : Byte} {time : W64} {f : Option DieId}
    (hs : s.felt.streams.filter (fun t => (!t.eth || t.st == .up) && some t.peer != f) = []) (hh : s.pwr.halted = false)
    (hq : s.qu.recs = []) : haltNow o c time f s =
      beatAll (logEvent 0x14 none (o.setWidth 32) (c.setWidth 64) 0 (haltedBy o c time s)) := by
  have e : spreadHalt (.halt o c time) f (haltSeen o time s) = haltSeen o time s := spreadHalt_none hs
  have hn : ¬(haltSeen o time s).pwr.halted = true := by simp [haltSeen, hh]
  have hr : (logEvent 0x14 none (o.setWidth 32) (c.setWidth 64) 0 (haltedBy o c time s)).qu.recs = [] := by
    rw [logEvent_unsourced]
    exact hq
  calc haltNow o c time f s
    _ = haltHere o c (spreadHalt (.halt o c time) f (haltSeen o time s)) := rfl
    _ = haltHere o c (haltSeen o time s) := by rw [e]
    _ = beatAll (abortAllOpen _ 0xD (logEvent 0x14 none (o.setWidth 32) (c.setWidth 64) 0 (haltedBy o c time s))) := if_neg hn
    _ = _ := congrArg beatAll (abortAllOpen_none hr)

/-- On a die of one stream, which is UP, a HEARTBEAT on every UP stream is one to its peer. -/
theorem beatAll_single (hs : s.felt.streams = [t]) (hu : t.st = .up) (ha : txAllowed s = true) :
    beatAll s = told t.peer (beatBody s) s := by
  have e : s.felt.streams.filter (fun t => t.st == .up) = [t] := by simp [hs, hu]
  unfold beatAll
  rw [e]
  exact sendUnseq_told ha

/-- What a frame told brings about, the event log does not show, nor does the frame show the log. -/
theorem told_logEvent {c : Nat} {x : W32} {d : DieId} {b : Body} {y z : W64} :
    told d b (logEvent c none x y z s) = logEvent c none x y z (told d b s) := by
  have e : ∀ r, told d b { s with res := r } = { told d b s with res := r } := by
    intro r
    unfold told
    rw [show streamTo { s with res := r } d = streamTo s d from rfl]
    cases streamTo s d <;> rfl
  have hr : (logWrite c false x y z (told d b s)).res = (logWrite c false x y z s).res := by
    refine logWrite_res ?_ ?_ ?_ <;> rw [told_eq] <;> rfl
  rw [logEvent_unsourced, logEvent_unsourced, e, hr]

theorem logEvent_boot {c : Nat} {x : W32} {y z : W64} : (logEvent c none x y z s).boot = s.boot := by rw [logEvent_unsourced]

/-- No event is written that stops the die. -/
theorem logEvent_fatal {c : Nat} {x : W32} {y z : W64} : (logEvent c none x y z s).res.fatal = s.res.fatal := by
  unfold logEvent logWrite lrFill
  simp only
  split_ifs <;> rfl

/-- The stream to its peer is the only one. -/
theorem streams_only {d : DieId} (hs : s.felt.streams = [t]) {u : Stream} (hu : streamTo s d = some u) : s.felt.streams = [u] := by
  have e : [t].find? (fun t => t.peer == d) = some u := hs ▸ hu
  rw [hs, List.mem_singleton.mp (List.mem_of_find?_eq_some e)]

/-- A HALT that is not remembered, to a die without quires whose one stream is UP: its sender is told, and nobody else. -/
theorem haltRx_new {d : DieId} {o : DieId} {c : Byte} {time : W64} (hn : s.felt.halts.contains (o, time) = false)
    (hh : s.pwr.halted = false) (hq : s.qu.recs = []) (hs : s.felt.streams = [t]) (ht : streamTo s d = some t) (hu : t.st = .up)
    (ha : txAllowed s = true) : haltRx d o c time s = logEvent 0x14 none (o.setWidth 32) (c.setWidth 64) 0
      (told d (.heartbeat (powerNow s) true s.couch.taken (now s)) (haltedBy o c time s)) := by
  have hp : t.peer = d := peer_streamTo ht
  let v := haltedBy o c time s
  have hf : s.felt.streams.filter (fun t => (!t.eth || t.st == .up) && some t.peer != some d) = [] := by simp [hs, hp]
  have hl : logEvent 0x14 none (o.setWidth 32) (c.setWidth 64) 0 v =
      { v with res := (logWrite 0x14 false (o.setWidth 32) (c.setWidth 64) 0 v).res } := logEvent_unsourced
  have hx : txAllowed (logEvent 0x14 none (o.setWidth 32) (c.setWidth 64) 0 v) = true := by
    have hv : txAllowed v = true := ha
    simpa only [txAllowed, logEvent_boot, logEvent_fatal] using hv
  have hb : beatBody (logEvent 0x14 none (o.setWidth 32) (c.setWidth 64) 0 v) =
      .heartbeat (powerNow s) true s.couch.taken (now s) := by rw [hl]; rfl
  calc haltRx d o c time s
    _ = haltNow o c time (some d) s := if_neg (by simpa using hn)
    _ = beatAll (logEvent 0x14 none (o.setWidth 32) (c.setWidth 64) 0 v) := haltNow_alone hf hh hq
    _ = told d _ (logEvent 0x14 none (o.setWidth 32) (c.setWidth 64) 0 v) := by
      rw [beatAll_single (by rw [hl]; exact hs) hu hx, hp, hb]
    _ = _ := told_logEvent

end

/-- Settles O51: a SYNC and a SYNC_ACK change the stream to their sender, and the SYNC is answered on it; a WAKE has the power unit
alone to ask; a HALT not yet remembered halts the die and is told to its one peer, which sent it, by a HEARTBEAT. -/
theorem streamsOpen : Obligations.StreamsOpen := by
  unfold Obligations.StreamsOpen
  refine ⟨?_, ?_, ?_, ?_, ?_, ?_⟩
  · intro h s t w n ans hr hg hp hk hc ht hs hu hf
    have r := resting hr
    have hs' : t.st = .closed ∨ t.st = .sync := hs.imp_right And.left
    refine cycle_settles (f := rxFrame h .sync) ?_ hr ?_
    · rw [rxFrame_awake (s := tick s) hg hp hk (by simp), streamRx_sync (s := tick s) ht hs', syncRx_answered (s := tick s) hc ht hs,
        answerSync_opens (s := tick s) ht hu r.txq (txAllowed_run hf hp)]
      rfl
    · refine undisturbed_onWire.trans (undisturbed_modStream (s := onWire _ (withSession n w)) hr ?_)
      exact fun _ _ _ => rfl
  · intro h s t hr hg hp hk hc ht hs hco
    refine cycle_settles (f := rxFrame h .syncAck) ?_ hr ?_
    · rw [rxFrame_awake (s := tick s) hg hp hk (by simp)]
      exact streamRx_syncAck (s := tick s) (sq_frameOk hk) hc ht hs
    · exact undisturbed_modStream_same hr (fun _ => rfl) fun _ => rfl
  · intro h s hr hp ho hs hk hw
    exact cycle_settles (rxFrame_wakeSleep (s := tick s) hp ho hs hk hw) hr
      (undisturbed_power { s.pwr with wake := true } _ _ _ hr rfl .inl)
  · intro h s hr hg hp hk hw
    exact cycle_settles (rxFrame_wakeAwake (s := tick s) hg hp hk hw) hr ⟨rfl, rfl, rfl⟩
  · intro h o c time s t b v hh hn hd hf hq hs
    refine unsequenced_settles (b := b) hh rfl (fun u x => ?_) fun hr => ?_
    · obtain ⟨w, hw, hwu, -, -⟩ := streamTo_heard x
      have hsv : ∃ x, v.felt.streams = [x] := ⟨_, congrArg (List.map _) hs⟩
      obtain ⟨y, hy⟩ := hsv
      exact haltRx_new (s := v) hn hd hq (streams_only hy hw) hw hwu (txAllowed_run hf x.run)
    · have hu : Undisturbed v (haltedBy o c time v) := ⟨rfl, rfl, rfl⟩
      exact (hu.trans (undisturbed_told (hu.rest.trans hr))).logEvent
  · intro h o c time s b v hh hn
    exact unsequenced_settles (b := b) hh rfl (fun _ _ => if_pos hn) fun _ => ⟨rfl, rfl, rfl⟩

/-! ## Cells and datagrams (12 R280, R283, R285-R287; 19 R444, R446) -/

section

variable {s u A T : State} {f : State → State} {p : Nat}

/-- The state with other cells gathered from its peers. -/
def withRx (l : Tbl RxCells) (s : State) : State := { s with felt := { s.felt with rx := l } }

theorem rest_withoutRx (h : rest s = true) : rest (withRx [] s) = true := by
  refine rest_withFelt (l := { s.felt with rx := [] }) h ?_
  have r := resting h
  simp only [feltEmpty, Bool.and_eq_true, List.all_eq_true, Bool.not_eq_true', List.isEmpty_iff, Option.isNone_iff_eq_none]
  exact ⟨⟨⟨⟨⟨fun _ he => absurd he List.not_mem_nil, r.txq⟩, r.loop⟩, r.returned⟩, r.owed⟩, r.closes⟩

/-- Cells that wait to be handed over are all that a cycle has to move: once it has handed over those that are due, the rest of it
shows in nothing that `still` keeps. -/
theorem still_settle_cells (c : Bool) (hh : handCells s = u) (hr : rest (withRx [] u) = true) : still (settle c s) = still u := by
  have r := resting hr
  obtain ⟨n, hn⟩ := countCycle_eq u
  let v : State := { u with hb := { u.hb with counted := n } }
  have hdu := drain_empty (s := u) 256 r.loop r.returned r.inbox
  have hdv := drain_empty (s := v) 256 r.loop r.returned r.inbox
  have hx := raiseGrants_eq v
  unfold settle
  rw [hh, acceptPorts_empty (s := u) r.ports, hdu, resumeWalks_empty (s := u) r.walks]
  dsimp only
  rw [grantCycle_empty (s := u) c r.waiting r.link r.chains r.regq r.entering, hn, hdv, payOwed_empty (s := v) r.owed,
    clearGo_none (s := v) r.clearing, braceGo_idle (s := v) r.brace, dumpResume_idle (s := v) r.dump,
    stepTry_idle (s := v) r.due r.trip, hdv, answerCloses_none (s := v) r.closes, seekWaiting_empty (s := v) r.txq]
  have hs := still_granted hx
  obtain ⟨_, _, _, e⟩ := hx
  generalize raiseGrants v = w at e hs ⊢
  have hb : w.boot = v.boot := by rw [e]
  have hf : flashIdle w = true := (flashIdle_congr hb (by rw [e]) (by rw [e])).trans r.flash
  rw [flashNext_idle hf, pumpTx_empty (by rw [e]; exact r.txq), linksCheck_other (by rw [hb]; exact r.links), still_emit,
    still_qwmAll, hs]
  rfl

/-- A command of a cycle whose cells, once handed over, leave `T`. -/
theorem cells_settle (hf : f (tick s) = A) (hh : handCells A = T) (hr : rest (withRx [] T) = true)
    (ha : A.regp.meshMap = s.regp.meshMap) (hm : T.regp.meshMap = s.regp.meshMap) (hp : T.pending = s.pending)
    (hk : T.kt.kinds = s.kt.kinds) : still (inCycle f s) = still T := by
  have e : still (inCycle f s) =
      { still (withMap A.regp.meshMap T) with pending := s.pending, kt := { T.kt with kinds := s.kt.kinds } } := by
    unfold inCycle
    apply still_putBack (u := withMap A.regp.meshMap T)
    rw [hf, ← ha, still_withMap, still_withMap]
    exact congrArg (withMap _) (still_settle_cells _ hh hr)
  rw [e, ha, ← hm, ← hp, ← hk]
  rfl

/-- Frames less than 5 cycles old are not handed over. -/
theorem handCells_young (h : ∀ e ∈ s.felt.rx, ∀ k, e.2.full = some k → s.clk.cycle < k + 5) : handCells s = s := by
  unfold handCells
  generalize s.felt.rx = l at h
  induction l with
  | nil => rfl
  | cons e r ih =>
    rw [List.foldl_cons]
    have ih := ih fun e he => h e (by simp [he])
    rcases hk : e.2.full with _ | k
    · exact ih
    · have hy : ¬k + 5 ≤ s.clk.cycle := by
        have := h e (by simp) k hk
        omega
      simpa only [hy, if_false] using ih

/-- A frame of one cell, which is whole with it. -/
def wholeCell (cell : BitVec 512) (k : Nat) : RxCells := { bad := false, cells := [cell], full := some k }

theorem cellsDone_whole {cell : BitVec 512} (h8 : cellLen cell % 8 = 0) (h32 : 32 ≤ cellLen cell) (h64 : cellLen cell ≤ 64) :
    cellsDone p { bad := false, cells := [cell] } s = withRx (tset s.felt.rx p (wholeCell cell s.clk.cycle)) s := by
  have hn : ¬(cellLen cell % 8 ≠ 0 ∨ cellLen cell < 32 ∨ 512 < cellLen cell) := by omega
  have hf : ¬1 < (cellLen cell + 63) / 64 := by omega
  unfold cellsDone
  simp only [List.headD_cons, List.length_cons, List.length_nil, Nat.zero_add, hn, hf, if_false]
  rfl

/-- It is handed over as the frame's bytes. -/
theorem takeCells_whole {cell : BitVec 512} {k : Nat} (h : s.felt.rx = [(p, wholeCell cell k)]) :
    takeCells p s = rxBytes ((toBytes 64 cell.toNat).take (cellLen cell)) (withRx [] s) := by
  have ht : tget s.felt.rx p = some (wholeCell cell k) := by rw [h]; exact if_pos rfl
  have hd : dropCells p s = withRx [] s := by
    unfold dropCells withRx
    rw [h]
    simp [terase]
  unfold takeCells
  rw [ht, hd]
  simp [wholeCell]

theorem handCells_whole {cell : BitVec 512} {k : Nat} (h : s.felt.rx = [(p, wholeCell cell k)]) (hk : k + 5 ≤ s.clk.cycle) :
    handCells s = takeCells p s := by
  unfold handCells
  rw [h]
  exact if_pos hk

/-- The bytes of an unsequenced frame that its die hears, and whose type has no effect of its own. -/
theorem rxBytes_ack {fb : List Byte} {h : FHdr} (hc : crcGood fb = true) (hf : readFrame fb = some (h, .ack))
    (hh : hears h .ack s = true) : rxBytes fb s = heard h s := by
  obtain ⟨t, x⟩ := hears_parts hh
  have e : rxBytes fb s = rxFrame h .ack s := by simp [rxBytes, hc, hf]
  exact e.trans (rxFrame_unsequenced x rfl)

/-- A cell of a peer whose frames this die may take in, with none of its cells gathered. -/
theorem cellRx_first {c : BitVec 4} {sof err : Bool} {cell : BitVec 512} (hg : gclkOn s = true) (hp : s.boot.phase = .run)
    (hn : c.toNat ≠ (myDie s).toNat % 16) (ht : tget s.felt.rx c.toNat = none) : cellRx c sof err false cell s =
      if sof then cellsDone c.toNat { bad := err, cells := [cell] } s else countCrc s := by
  simp only [cellRx, feltOn_run hg hp, hn, wakeDoze_on hg, ht, Bool.not_true, Bool.false_eq_true, or_self, if_false]

/-- The state with other frames that wait to be sent. -/
def withTxq (l : List TxFrame) (s : State) : State := { s with felt := { s.felt with txq := l } }

/-- The one frame that waits is sent once its stream lets it. -/
theorem pumpTx_one {x : TxFrame} {t : Stream} (hq : s.felt.txq = [x]) (ht : streamTo s x.dst = some t)
    (hc : canSend s t x.body = true) : pumpTx s = txFirst t x (withTxq [] s) := by
  unfold pumpTx
  rw [hq]
  simp only [List.foldl_cons, List.foldl_nil, List.contains_nil, Bool.false_eq_true, if_false, ht, canSend_up hc, reduceCtorEq, hc,
    if_true, hq, List.filter_cons, bne_self_eq_false, List.filter_nil]
  rfl

/-- What it leaves behind is a frame that waits to be acknowledged. -/
theorem undisturbed_txFirst {x : TxFrame} {t : Stream} (hr : rest s = true) : Undisturbed s (txFirst t x s) := by
  let v : State := { s with felt := { s.felt with
    wire := s.felt.wire ++ [{ h := mkHdr s t true false false t.next, body := x.body, idx := t.idx }] } }
  have hv : Undisturbed s v := ⟨rfl, rfl, rfl⟩
  have hw := hv.trans (undisturbed_modStream_same (s := v) (d := t.peer)
    (f := fun u => { u with lastSent := now v, ackOwed := false, used := v.clk.cycle }) hr (fun _ => rfl) fun _ => rfl)
  exact hw.trans (undisturbed_modStream (hw.rest.trans hr) fun u _ _ => by simp)

/-- A cycle ends with the frames that it transmitted put on their carriers. -/
theorem inCycle_emits (f : State → State) (s : State) : ∃ x m p k, inCycle f s = { withMap m (emit x) with pending := p, kt := k } :=
  ⟨_, _, _, _, rfl⟩

/-- They are those that `still` shows. -/
theorem inCycle_carries (h : still (inCycle f s) = still A) :
    (inCycle f s).felt.d2dTx = (onD2d A).flatMap cellsOf ∧ (inCycle f s).felt.ethTx = datagramsOf A := by
  obtain ⟨x, m, p, k, e⟩ := inCycle_emits f s
  have hd : (inCycle f s).felt.d2dTx = (onD2d (still (inCycle f s))).flatMap cellsOf := by rw [e]; rfl
  have he : (inCycle f s).felt.ethTx = datagramsOf (still (inCycle f s)) := by rw [e]; rfl
  rw [hd, he, h]
  exact ⟨rfl, rfl⟩

/-- A frame alone goes to a die of this package as cells. -/
theorem carried_d2d {w : WireFrame} (h : s.felt.wire = [w]) (hp : pkgOf w.h.dst = pkgOf (myDie s)) :
    (onD2d s).flatMap cellsOf = cellsOf w ∧ datagramsOf s = [] := by
  have hd : onD2d s = [w] := by simp [onD2d, h, hp]
  have he : onEth s = [] := by simp [onEth, h, hp]
  rw [datagramsOf, hd, he]
  exact ⟨by simp, rfl⟩

/-- One to a die of another package goes in a datagram of its own. -/
theorem carried_eth {w : WireFrame} (h : s.felt.wire = [w]) (hp : pkgOf w.h.dst ≠ pkgOf (myDie s)) :
    (onD2d s).flatMap cellsOf = [] ∧ datagramsOf s = [datagramOf s w.h.dst w.idx [frameBytes w.h w.body]] := by
  have hd : onD2d s = [] := by simp [onD2d, h, hp]
  have he : onEth s = [w] := by simp [onEth, h, hp]
  rw [datagramsOf, hd, he]
  exact ⟨rfl, by simp [List.eraseDups, List.eraseDupsBy, List.eraseDupsBy.loop, packFrames]⟩

end

/-- Settles O52: what a carrier brings is counted, or read as the bytes of a frame, at once or 5 cycles after its last cell; what the
cycle put on the wire leaves by the carrier of its peer's package. -/
theorem carriersComplete : Obligations.CarriersComplete := by
  unfold Obligations.CarriersComplete
  refine ⟨?_, ?_, ?_, ?_, ?_, ?_, ?_, ?_, ?_⟩
  · intro bytes err full s hr hg hp hf
    have e : datagramRx bytes err full (tick s) = _ := (if_neg (by simp [feltOn_run (s := tick s) hg hp])).trans (if_pos hf)
    exact cycle_settles e hr ⟨rfl, rfl, rfl⟩
  · intro bytes s hr hg hp
    have e : datagramRx bytes true false (tick s) = countCrc (wakeDoze (tick s)) := if_neg (by simp [feltOn_run (s := tick s) hg hp])
    rw [wakeDoze_on (s := tick s) hg] at e
    exact cycle_settles e hr ⟨rfl, rfl, rfl⟩
  · intro bytes s hr hg hp hd
    have e : datagramRx bytes false false (tick s) =
        wakeDoze { tick s with felt := { (tick s).felt with errHdr := sat16 s.felt.errHdr } } := by
      have hd' : readDatagram (tick s) bytes = none := hd
      simp only [datagramRx, feltOn_run (s := tick s) hg hp, hd', Bool.not_true, Bool.false_eq_true, if_false]
      rfl
    rw [wakeDoze_on (s := { tick s with felt := _ }) hg] at e
    exact cycle_settles e hr ⟨rfl, rfl, rfl⟩
  · intro bytes fb h s hd hc hf hh
    obtain ⟨t, x⟩ := hears_parts (hears_tick.trans hh)
    have hd' : readDatagram (tick s) bytes = some [fb] := hd
    have e : datagramRx bytes false false (tick s) = rxBytes fb (tick s) := by
      simp only [datagramRx, feltOn_run x.on x.run, hd', Bool.not_true, Bool.false_eq_true, if_false, List.foldl_cons, List.foldl_nil]
    exact cycle_settles (e.trans (rxBytes_ack hc hf (hears_tick.trans hh))) x.rest (undisturbed_heard x)
  · intro p sof err cell s hr hg hp hn
    have hn' : ¬((!feltOn (tick s)) = true ∨ p.toNat = (myDie (tick s)).toNat % 16) := by
      rintro (hf | he)
      · simp [feltOn_run (s := tick s) hg hp] at hf
      · exact hn he
    exact cycle_settles ((if_neg hn').trans (if_pos rfl)) hr ⟨rfl, rfl, rfl⟩
  · intro p err cell s hr hg hp hn ht
    have e : cellRx p false err false cell (tick s) = countCrc (tick s) :=
      cellRx_first (s := tick s) hg hp hn ht
    exact cycle_settles e hr ⟨rfl, rfl, rfl⟩
  · intro p cell s hn ht h8 h32 h64 hr hg hp
    let A := withRx (tset s.felt.rx p.toNat (wholeCell cell (s.clk.cycle + 1))) (tick s)
    have e : cellRx p true false false cell (tick s) = A :=
      (cellRx_first (s := tick s) hg hp hn ht).trans (cellsDone_whole h8 h32 h64)
    have hy : handCells A = A := by
      refine handCells_young fun e he k hk => ?_
      rcases mem_tset he with rfl | he
      · obtain rfl : s.clk.cycle + 1 = k := Option.some.inj hk
        exact Nat.lt_add_of_pos_right (by decide)
      · rw [(resting hr).rx e he] at hk
        cases hk
    exact ⟨_, rfl, cells_settle (f := cellRx p true false false cell) e hy (rest_withoutRx (s := tick s) hr) rfl rfl rfl rfl⟩
  · intro p cell k fb h s t hpd hrx hk hfb hc hf hh
    subst hfb
    obtain ⟨u, x⟩ := hears_parts (hears_tick.trans hh)
    have hv := undisturbed_heard x
    have e : handCells (tick s) = heard h (tick t) := by
      have hw : withRx [] (tick s) = tick t := rfl
      rw [handCells_whole (s := tick s) hrx (by simp only [tick]; omega), takeCells_whole (s := tick s) hrx, hw]
      exact rxBytes_ack hc hf (hears_tick.trans hh)
    have hs : step s = .next (inCycle (fun s => s) s) := by
      unfold step
      rw [hpd]
      rfl
    exact ⟨_, hs, cells_settle (f := fun s => s) rfl e (rest_withoutRx (hv.rest.trans x.rest)) rfl rfl rfl rfl⟩
  · intro f s t w hq hr ht hc
    let v := withTxq [] (tick s)
    let A := txFirst t f v
    have hp : t.peer = f.dst := peer_streamTo ht
    have hu : Undisturbed v A := undisturbed_txFirst hr
    have hpump : pumpTx (tick s) = A := pumpTx_one (s := tick s) hq ht hc
    have hst : still (inCycle pumpTx s) = still A := by
      refine (still_inCycle_same _ s ?_ ?_ ?_).trans (by rw [hpump]) <;> rw [hpump]
      · exact hu.rest.trans hr
      · exact hu.pending
      · exact hu.kinds
    obtain ⟨hd, he⟩ := inCycle_carries hst
    have hw : A.felt.wire = [w] := rfl
    have hwd : w.h.dst = f.dst := hp
    refine ⟨_, rfl, fun hk => ?_, fun hk => ?_⟩
    · rw [hd, he]
      exact carried_d2d hw (by rw [hwd]; exact hk)
    · rw [hd, he, ← hp]
      exact carried_eth hw (by rw [hwd]; exact hk)

/-! ## The pins that halt the die (16 R377, R384, R386) -/

section

variable {c : Byte} {n : Nat} {s : State}

/-- A cause of a running die's own, with no peer to tell and no quire to abort. -/
theorem haltOwn_alone {p : Bool} (ha : s.pwr.st ≠ .sleep) (hw : wakeDoze s = s) (hh : s.pwr.halted = false)
    (hs : s.felt.streams = []) (hq : s.qu.recs = []) :
    haltOwn c p s = logEvent 0x14 none ((myDie s).setWidth 32) (c.setWidth 64) 0 (haltedBy (myDie s) c (now s) s) := by
  have hl : (logEvent 0x14 none ((myDie s).setWidth 32) (c.setWidth 64) 0 (haltedBy (myDie s) c (now s) s)).felt.streams = [] := by
    rw [logEvent_unsourced]
    exact hs
  unfold haltOwn
  simp only [ha, hh, if_false, Bool.false_eq_true, hw]
  rw [haltNow_alone (by simp [hs]) hh hq, beatAll_none hl]

/-- The edge on the pin asserts its source, and the halt keeps it. -/
theorem haltOwn_edge (ha : s.pwr.st = .active) (hh : s.pwr.halted = false) (hs : s.felt.streams = []) (hq : s.qu.recs = []) :
    haltOwn c true (latchEdge n true s) =
      logEvent 0x14 none ((myDie s).setWidth 32) (c.setWidth 64) 0 (assertSource n (haltedBy (myDie s) c (now s) s)) := by
  have hw : wakeDoze s = s := if_neg (by simp [ha])
  have hs' : s.pwr.st ≠ .sleep := by simp [ha]
  have e : latchEdge n true s = assertSource n s := by simp [latchEdge, ha, hw]
  rw [e]
  unfold assertSource
  split_ifs
  · exact haltOwn_alone hs' hw hh hs hq
  · exact haltOwn_alone (s := irqPut s n _) hs' (if_neg (by simp [irqPut, ha])) hh hs hq

/-- The state of a die in SLEEP that a pin has asked to halt: the exit and the halt after it are due. -/
def haltDue (c : Byte) (s : State) : State :=
  { s with
    pwr := { s.pwr with wake := true, haltOwed := if s.pwr.haltOwed.isNone then some c else s.pwr.haltOwed }
    pins := { s.pins with haltOut := true } }

/-- In SLEEP the edge is latched, and the halt follows the exit. -/
theorem haltOwn_asleep (hs : s.pwr.st = .sleep) : haltOwn c true (latchEdge n true s) =
    irqPut (haltDue c s) n { irqGet s n with latch := satInc 255 (irqGet s n).latch } := by
  have e : latchEdge n true s = modPwr (fun p => { p with wake := true })
      (irqPut s n { irqGet s n with latch := satInc 255 (irqGet s n).latch }) := by simp [latchEdge, hs]
  have hp : ({ s.pins with haltOut := s.pins.haltOut || true } : Pins) = { s.pins with haltOut := true } := by rw [Bool.or_true]
  rw [e, haltOwn, haltDue, ← hp]
  exact if_pos hs

/-- A halt of a die leaves nothing waiting. -/
theorem undisturbed_haltedBy {o : DieId} {t : W64} : Undisturbed s (haltedBy o c t s) := ⟨rfl, rfl, rfl⟩

theorem undisturbed_haltDue (hr : rest s = true) (hs : s.pwr.st = .sleep) : Undisturbed s (haltDue c s) :=
  undisturbed_power _ _ s.cal s.xl hr rfl fun _ => .inl hs

end

/-- Settles O34: the pin's edge asserts its source and then halts the die as a cause of its own; in SLEEP it is latched, and the
halt is owed. -/
theorem haltPinsComplete : Obligations.HaltPinsComplete := by
  unfold Obligations.HaltPinsComplete
  refine ⟨?_, ?_, ?_, ?_⟩
  · intro s hr hg hs hq
    let v := modPins (fun p => { p with coolantLossN := false }) (tick s)
    have k := running_parts hg
    have hu : Undisturbed (tick s) v := ⟨rfl, rfl, rfl⟩
    exact cycle_settles (f := whenOn coolantLoss) ((whenOn_alive _ (alive_of_running hg)).trans
      (haltOwn_edge (s := v) k.active k.unhalted hs hq)) hr
      ((hu.trans undisturbed_haltedBy).trans (undisturbed_assertSource _ _)).logEvent
  · intro s hr hg hs hq
    have k := running_parts hg
    exact cycle_settles (f := whenOn haltIn) ((whenOn_alive _ (alive_of_running hg)).trans
      (haltOwn_edge (s := tick s) k.active k.unhalted hs hq)) hr
      (undisturbed_haltedBy.trans (undisturbed_assertSource _ _)).logEvent
  · intro s hr ha hs
    let v := modPins (fun p => { p with coolantLossN := false }) (tick s)
    have hu : Undisturbed (tick s) v := ⟨rfl, rfl, rfl⟩
    exact cycle_settles (f := whenOn coolantLoss) ((whenOn_alive _ ha).trans (haltOwn_asleep (s := v) hs)) hr
      ((hu.trans (undisturbed_haltDue (s := v) hr hs)).trans ⟨rfl, rfl, rfl⟩)
  · intro s hr ha hs
    exact cycle_settles (f := whenOn haltIn) ((whenOn_alive _ ha).trans (haltOwn_asleep (s := tick s) hs)) hr
      ((undisturbed_haltDue (s := tick s) hr hs).trans ⟨rfl, rfl, rfl⟩)

/-! ## Commands of Felt, of the slots and of the Calender (12 R297, R300; 13 R310; 14 R340) -/

section

variable {acc : Acc} {s : State} {t : Stream}

/-- REJOIN of a pinned stream that has been DOWN for 20 us. -/
theorem regPut_rejoin (hb : s.felt.cmdBusy = false) (ht : selStream s = some t) (hd : t.st = .down) (hp : t.pinned = true)
    (hl : 160000 ≤ since s t.downAt) : regPut acc 0x1A3C 1 s = feltErr 0 (modStream t.peer (fun u =>
      { u with st := .closed, peerPower := 0, peerHalted := false, syncs := 0 }) s) := by
  have e : regPut acc 0x1A3C 1 s = if s.felt.cmdBusy then s else rejoinCmd s := rfl
  rw [e, hb, rejoinCmd]
  simp only [ht, hd, hp, not_lt.mpr hl, ne_eq, not_true_eq_false, Bool.not_true, Bool.and_false, Bool.false_eq_true, if_false]

/-- REJOIN of one that is not DOWN. -/
theorem regPut_rejoin_unfit (hb : s.felt.cmdBusy = false) (ht : selStream s = some t) (hd : t.st ≠ .down) :
    regPut acc 0x1A3C 1 s = feltErr 1 s := by
  have e : regPut acc 0x1A3C 1 s = if s.felt.cmdBusy then s else rejoinCmd s := rfl
  rw [e, hb, rejoinCmd]
  simp only [ht, hd, ne_eq, not_false_eq_true, if_true, Bool.false_eq_true, if_false]

/-- A stream that a SYNC with CLOSE has just left on. -/
def closing (s : State) (t : Stream) : Stream := carried s { t with st := .closing, syncs := t.syncs + 1 }

/-- The header of that SYNC, with the session `n`. -/
def closeHdr (n : BitVec 16) (t : Stream) (s : State) : FHdr := { mkHdr s t false false true 0 with session := n }

/-- CLOSE of an UP stream that is not pinned. -/
theorem regPut_close (hb : s.felt.cmdBusy = false) (ht : selStream s = some t) (hs : streamTo s t.peer = some t) (hu : t.st = .up)
    (hp : t.pinned = false) (hw : t.peerPower ≠ 2) (ha : txAllowed s = true) : regPut acc 0x1A3C 2 s =
      feltErr 0 (modStream t.peer (closing s) (onWire { h := closeHdr (s.felt.session + 1) t s, body := .sync, idx := t.idx }
        (withSession (s.felt.session + 1) s))) := by
  have e : regPut acc 0x1A3C 2 s = if s.felt.cmdBusy then s else closeCmd s := rfl
  have hc : sendSyncClose t.peer s = modStream t.peer (closing s)
      (onWire { h := closeHdr (s.felt.session + 1) t s, body := .sync, idx := t.idx } (withSession (s.felt.session + 1) s)) := by
    unfold sendSyncClose
    simp only [hs, ha, bne_iff_ne.mpr hw, Bool.and_true, if_true]
    exact wireOut_changed (t := t) (s := withSession (s.felt.session + 1) s)
      (f := fun u => { u with st := .closing, syncs := u.syncs + 1 }) (fun _ => rfl) (closeHdr (s.felt.session + 1) t s)
  rw [e, hb, closeCmd]
  simp only [ht, hu, hp, ne_eq, not_true_eq_false, or_false, Bool.false_eq_true, if_false]
  rw [hc]

theorem undisturbed_feltErr {e : BitVec 3} : Undisturbed s (feltErr e s) := ⟨rfl, rfl, rfl⟩

/-- The word of a command of a slot: ACCEPT and the slot (13 R310). -/
def acceptWord (n : BitVec 17) : W32 := BitVec.ofNat 32 (2 ^ 2 * n.toNat + 1)

/-- Its fields. -/
theorem acceptWord_fields (n : BitVec 17) :
    (acceptWord n).extractLsb' 2 17 = n ∧ part (acceptWord n) 0 2 = 1 ∧ part (acceptWord n) 2 17 = n.toNat := by
  have h : (acceptWord n).toNat = 4 * n.toNat + 1 := by
    simp only [acceptWord, BitVec.toNat_ofNat]
    omega
  refine ⟨BitVec.eq_of_toNat_eq ?_, ?_, ?_⟩
  · simp only [BitVec.extractLsb'_toNat, h, Nat.shiftRight_eq_div_pow]
    omega
  · simp only [part, fld, h]
    omega
  · simp only [part, fld, h]
    omega

/-- GS_RES_CMD names the slot. -/
def resNamed (n : BitVec 17) (s : State) : State := { s with res := { s.res with cmdSlot := n } }

/-- Its command ends with an error or without one. -/
def resDone (e : BitVec 3) (s : State) : State := { s with res := { s.res with cmdErr := e } }

theorem regPut_accept (n : BitVec 17) : regPut acc 0x1B04 (acceptWord n) s = acceptSlot n.toNat (resNamed n s) := by
  obtain ⟨he, h0, hs⟩ := acceptWord_fields n
  have e : regPut acc 0x1B04 (acceptWord n) s = resCommand (acceptWord n) s := rfl
  rw [e, resCommand, he, h0, hs]
  rfl

/-- ACCEPT of a slot that is DIVERGED and reads clean. -/
theorem acceptSlot_diverged {n : Nat} (hc : clean (slotAt s n) = true) (hd : (objAt s n).diverged = true) :
    acceptSlot n s = untrack n (bumpIf n (bytesAt s n) (putObj n { objAt s n with diverged := false } (resDone 0 s))) := by
  unfold acceptSlot
  rw [readSlot_clean hc]
  have e := Watermarks.modObj_clean (s := resDone 0 s) (fun o => { o with diverged := false }) hc
  exact (if_neg (by simp [hd])).trans (congrArg (fun u => untrack n (bumpIf n (bytesAt s n) u)) e)

/-- ACCEPT of one that is not. -/
theorem acceptSlot_undiverged {n : Nat} (hc : clean (slotAt s n) = true) (hd : (objAt s n).diverged = false) :
    acceptSlot n s = resDone 1 s := by
  unfold acceptSlot
  rw [readSlot_clean hc]
  exact if_pos (by simp [hd])

/-- GS_CAL_CMD takes a REFIT while none is under way. -/
theorem regPut_refit (hb : s.cal.cmdBusy = false) : regPut acc 0x1C20 1 s = if s.cal.st ≠ .locked
    then modCal (fun c => { c with cmdErr := 1 }) s
    else modCal (fun c => { c with st := .fit, points := [], window := none, cmdBusy := true, cmdErr := 0 }) s := by
  have e : regPut acc 0x1C20 1 s = calCommand 1 s := rfl
  have h1 : part 1 0 2 = 1 := rfl
  rw [e, calCommand, h1]
  simp only [hb, refit, one_ne_zero, or_self, if_true, if_false, Bool.false_eq_true]

/-- Nothing waits for a slot that changes. -/
theorem undisturbed_accepted {n : Nat} {x : Obj × Nat} {o : Obj} : Undisturbed s (untrack n (bumpIf n x (putObj n o s))) := by
  unfold bumpIf
  split_ifs <;> exact ⟨rfl, rfl, rfl⟩

end

/-- Settles O28: each command is the write of its register, which is served in its cycle and leaves nothing waiting. -/
theorem linkAndSlotCommandsComplete : Obligations.LinkAndSlotCommandsComplete := by
  unfold Obligations.LinkAndSlotCommandsComplete
  refine ⟨?_, ?_, ?_, ?_, ?_, ?_, ?_⟩
  · intro acc s t hs hb ht hd hp hl
    have hr : rest (tick s) = true := (served_parts hs).rest
    have e := regPut_rejoin (acc := acc) (s := tick s) hb ht hd hp hl
    have hu : Undisturbed (tick s) (modStream t.peer (fun u =>
      { u with st := .closed, peerPower := 0, peerHalted := false, syncs := 0 }) (tick s)) :=
      undisturbed_modStream_same hr (fun _ => rfl) fun _ => rfl
    exact write_settles (addr := 0x68F) (v := 1) hs rfl e (hu.trans undisturbed_feltErr)
  · intro acc s t hs hb ht hd
    exact write_settles (addr := 0x68F) (v := 1) hs rfl (regPut_rejoin_unfit (s := tick s) hb ht hd) undisturbed_feltErr
  · intro acc s t hs hb ht hst hu hp hw ha
    have hr : rest (tick s) = true := (served_parts hs).rest
    let v := onWire { h := closeHdr (s.felt.session + 1) t (tick s), body := .sync, idx := t.idx }
      (withSession (s.felt.session + 1) (tick s))
    have hv : Undisturbed (tick s) v := undisturbed_onWire
    have e := regPut_close (acc := acc) (s := tick s) hb ht hst hu hp hw ha
    have hm : Undisturbed v (modStream t.peer (closing (tick s)) v) :=
      undisturbed_modStream_same hr (fun _ => rfl) fun _ => rfl
    exact write_settles (addr := 0x68F) (v := 2) hs rfl e ((hv.trans hm).trans undisturbed_feltErr)
  · intro acc n s hs hc hd
    have hu : Undisturbed (tick s) (resDone 0 (resNamed n (tick s))) := ⟨rfl, rfl, rfl⟩
    exact write_settles (addr := 0x6C1) (v := acceptWord n) hs rfl
      ((regPut_accept n).trans (acceptSlot_diverged (s := resNamed n (tick s)) hc hd)) (hu.trans undisturbed_accepted)
  · intro acc n s hs hc hd
    exact write_settles (addr := 0x6C1) (v := acceptWord n) hs rfl
      ((regPut_accept n).trans (acceptSlot_undiverged (s := resNamed n (tick s)) hc hd)) ⟨rfl, rfl, rfl⟩
  · intro acc s hs hb hl
    exact write_settles (addr := 0x708) (v := 1) hs rfl ((regPut_refit (s := tick s) hb).trans (if_neg (not_not_intro hl)))
      ⟨rfl, rfl, rfl⟩
  · intro acc s hs hb hl
    exact write_settles (addr := 0x708) (v := 1) hs rfl ((regPut_refit (s := tick s) hb).trans (if_pos hl)) ⟨rfl, rfl, rfl⟩

/-! ## An operation at LINK granted in the cycle that brings it (06 R160) -/

section

variable {l : LinkOp} {s : State}

/-- What the grant of a LINK operation carries out (06 R160). -/
def serveLink : LinkOp → State → State
  | .felt op n, s => slotOp (stampTime op s).1 n (stampTime op s).2
  | .step op, s => match stateGate s op.opcode op.ctx with
    | some st => answerZ op st s
    | none => carryOut (stampTime op s).1 (stampTime op s).2
  | .quire key pos, s => quirePass key pos s
  | .post k, s => postGrant k s

/-- Other than an ARRIVE_R, an operation at LINK may always be granted there. -/
def uncapped : LinkOp → Bool
  | .felt op _ => op.opcode != opArriveR
  | .step op => op.opcode != opArriveR
  | _ => true

theorem linkReady_uncapped (hl : s.hb.link = [l]) (hu : uncapped l = true) : linkReady s = true := by
  unfold linkReady
  rw [hl]
  cases l <;> simp_all [uncapped, capped]

theorem grantLink_alone (h : s.hb.link = [l]) : grantLink s = serveLink l (noteGrant { s with hb := { s.hb with
    link := [], arb := { s.hb.arb with ptrDie := 4, linkD := s.hb.arb.linkD - 1 } } }) := by
  unfold grantLink
  rw [h]
  cases l <;> rfl

/-- A slot of a cycle with that operation alone to grant. -/
theorem grantSlot_link {c : Bool} (hg : canGrant s = true) (h0 : s.hb.granted = 0) (hw : s.hb.waiting = []) (hc : s.hb.chains = [])
    (hq : s.hb.regq = []) (hl : s.hb.link = [l]) (hu : uncapped l = true) :
    ∃ b n, grantSlot c s = serveLink l (noteGrant { s with hb := { s.hb with link := [], arb := b, rounds := n } }) := by
  obtain ⟨b, n, e⟩ := Quires.serveSlot_link hw (linkReady_uncapped hl hu)
  refine ⟨{ b with ptrDie := 4, linkD := b.linkD - 1 }, n, ?_⟩
  unfold grantSlot
  rw [if_neg (by simp [hg, h0]), if_neg (by simp [hc]), if_neg (by simp [hq]), e]
  exact grantLink_alone hl

/-- `settle_from` where the grants leave something for this die itself, which is taken in before the cycle goes on. -/
theorem settle_drained {u v : State} (c : Bool) (hx : ∀ e ∈ s.felt.rx, e.2.full = none) (ha : acceptPorts s = u)
    (hl : u.felt.loop = []) (hr : u.felt.returned = []) (hi : u.step.inbox = []) (hw : u.wt.walks = [])
    (hg : drain 256 (grantCycle c u) = v) (hv : rest v = true) : still (settle c s) = still v := by
  have r := resting hv
  have e := still_afterGrants hv
  rw [drain_empty (s := v) 256 r.loop r.returned r.inbox] at e
  rw [settle_eq c hx ha hl hr hi hw, hg, e]

/-- What waits in the Headbox shows in what `stillArb` sees of it. -/
theorem headEmpty_steady {k : Headbox} (h : steadyHb k = steadyHb s.hb) : headEmpty (withHb k s) = headEmpty s := by
  have e : headEmpty (withHb (steadyHb k) s) = headEmpty (withHb (steadyHb s.hb) s) := by rw [h]
  exact e

variable {f : State → State} {o : List Unanswered} {B T : State}

/-- A command of the cycle that leaves `B` with one operation for LINK and the order `o` of responses: where that operation, carried
out under any count of grants, leaves what this die takes in to be `T`, that is what the cycle leaves. -/
theorem link_leads (hr : rest s = true) (hf : f (tick s) = withHb { (tick s).hb with link := [l], order := o } B)
    (hu : uncapped l = true) (hg : canGrant B = true) (hB : Kept (tick s) B) (hT : Kept (tick s) T)
    (hc : ∀ h : Headbox, steadyHb h = steadyHb { (tick s).hb with order := o } →
      ∃ k X, serveLink l (withHb h (bumpAon 0x00 B)) = withHb k X ∧ steadyHb k = steadyHb (tick s).hb ∧ X.couch.entering = [] ∧
        drain 256 (withHb k X) = withHb k T) :
    Leads (.next (inCycle f s)) T := by
  have r := resting hr
  have q := resting (hB.rest.trans hr)
  have hb : B.hb = (tick s).hb := hB.hb
  have ht : T.hb = (tick s).hb := hT.hb
  obtain ⟨A, hA⟩ : ∃ A, A = withHb { (tick s).hb with link := [l], order := o } B := ⟨_, rfl⟩
  have hgA : canGrant A = true := by
    rw [← hg, hA]
    simp only [canGrant, windowNow, hb]
    rfl
  obtain ⟨n, hn⟩ := countCycle_eq A
  obtain ⟨b, m, hs⟩ := grantSlot_link (c := !s.hb.chains.isEmpty) (s := { A with hb := { A.hb with counted := n } }) hgA
    (by rw [hA]; rfl) (by rw [hA]; exact r.waiting) (by rw [hA]; exact r.chains) (by rw [hA]; exact r.regq) (by rw [hA]; rfl) hu
  let hd : Headbox := { (tick s).hb with
    link := [], order := o, counted := n, granted := 1, window := windowNow A ++ [B.clk.cycle], arb := b, rounds := m }
  have hl : (tick s).hb.link = [] := r.link
  obtain ⟨k, X, hX, hk, he, hdr⟩ := hc hd (by simp only [steadyHb, hd, hl])
  have hgr : grantSlot (!s.hb.chains.isEmpty) (countCycle A) = withHb k X := by
    rw [hn, ← hX, hs]
    subst hA
    rfl
  have hsp : Spent (withHb k X) := ⟨(congrArg Headbox.waiting hk).trans r.waiting, (congrArg Headbox.link hk).trans r.link,
    (congrArg Headbox.chains hk).trans r.chains, (congrArg Headbox.regq hk).trans r.regq⟩
  have hkT : steadyHb k = steadyHb T.hb := hk.trans (congrArg steadyHb ht.symm)
  have hv : rest (withHb k T) = true := (rest_withHb (headEmpty_steady hkT)).trans (hT.rest.trans hr)
  refine inCycle_leads (hd := k) (hf.trans hA.symm) ?_ ?_ hT (stillArb_withHb hkT)
  · rw [hA]
    exact hB.map
  · refine settle_drained (u := A) _ ?_ (acceptPorts_empty ?_) ?_ ?_ ?_ ?_
      ((congrArg (drain 256) ((grantCycle_once hgr hsp).trans (enterAll_empty he))).trans hdr) hv <;> rw [hA]
    · exact q.rx
    · exact r.ports
    · exact q.loop
    · exact q.returned
    · exact q.inbox
    · exact q.walks

end

/-! ## Commands of the power unit, the locks and the step unit (12 R303; 16 R376, R384, R388; 17 R406) -/

section

variable {acc : Acc} {s : State}

/-- The log does not show the access that a command came by. -/
theorem wrote_logEvent {c : Nat} {x : W32} {d e : W64} : wrote (logEvent c none x d e s) = logEvent c none x d e (wrote s) := by
  have hr : (logWrite c false x d e (wrote s)).res = (logWrite c false x d e s).res := logWrite_res rfl rfl rfl
  rw [logEvent_unsourced, logEvent_unsourced, hr]
  rfl

/-- The power unit without an error. -/
def pwrDone (s : State) : State := modPwr (fun p => { p with cmdErr := 0 }) s

theorem undisturbed_pwrDone : Undisturbed s (pwrDone s) := ⟨rfl, rfl, rfl⟩

/-- GS_PWR_CMD takes a HALT while no SLEEP is under way. -/
theorem regPut_halt (hb : s.pwr.cmdBusy = false) : regPut acc 0x1F04 2 s = haltOwn 4 false (pwrDone s) := by
  have e : regPut acc 0x1F04 2 s = pwrCommand 2 s := rfl
  have h2 : part 2 0 2 = 2 := rfl
  rw [e, pwrCommand, h2, hb]
  rfl

/-- It takes a SLEEP likewise. -/
theorem regPut_sleep (hb : s.pwr.cmdBusy = false) : regPut acc 0x1F04 1 s = sleepCommand s := by
  have e : regPut acc 0x1F04 1 s = pwrCommand 1 s := rfl
  have h1 : part 1 0 2 = 1 := rfl
  rw [e, pwrCommand, h1, hb]
  rfl

/-- A SLEEP that nothing stands in the way of, on a die that has no peer to tell and no OPEN-AUTH to end. -/
theorem sleepCommand_starts (hb : sleepBusy s = false) (hp : s.boot.phase = .run) (hs : s.sec.st = .sealed_)
    (hf : s.felt.streams = []) : sleepCommand s = { s with
      pwr := { s.pwr with cmdBusy := true, cmdErr := 0, sleep := .draining }
      sec := { s.sec with spoiled := s.sec.token.isSome } } := by
  have hn : ¬((sleepBusy s = true) ∨ s.boot.phase ≠ .run ∨ s.sec.st = .virgin) := by simp [hb, hp, hs]
  let v : State := { s with sec := { s.sec with spoiled := s.sec.token.isSome } }
  have e : endUnlock 4 v = v := if_pos (by simp [v, hs])
  have h : sleepCommand s = beatAll (modPwr (fun p => { p with cmdBusy := true, cmdErr := 0, sleep := .draining }) (endUnlock 4 v)) :=
    if_neg hn
  rw [h, e]
  exact beatAll_none hf

/-- OPEN-AUTH ended. -/
theorem endUnlock_open {c : Nat} (h : s.sec.st = .openAuth) : endUnlock c s =
    logEvent 0x19 none (s.sec.grant.setWidth 32) s.sec.expiry (BitVec.ofNat 64 (0 + 2 ^ 8 * c))
      { s with sec := { s.sec with st := .sealed_, grant := 0, expiry := 0 } } := if_neg (by simp [h])

/-- Fields LEAD and PERIOD of GS_STEP_CFG, where a 0 leaves what there is. -/
def stepTimes (v : W32) (t : Step) : Step :=
  { t with
    lead := if v.extractLsb' 16 8 = 0 then t.lead else v.extractLsb' 16 8
    period := if v.extractLsb' 0 16 = 0 then t.period else v.extractLsb' 0 16 }

/-- A field of a word is 0 as a number where it is as bits. -/
theorem part_eq_zero (v : W32) (lo w : Nat) : part v lo w = 0 ↔ v.extractLsb' lo w = 0 := by
  rw [← BitVec.toNat_inj, BitVec.extractLsb'_toNat, BitVec.ofNat_eq_ofNat, BitVec.toNat_ofNat, Nat.zero_mod]
  rfl

theorem regPut_stepCfg (v : W32) (hp : s.boot.phase = .run) : regPut acc 0x1F14 v s =
    if v.getLsbD 31 && !s.step.en then stepStart (modStep (stepTimes v) s)
    else modStep (fun t => { t with en := v.getLsbD 31 }) (modStep (stepTimes v) s) := by
  have e : regPut acc 0x1F14 v s = stepCfg v s := rfl
  have hx : v.setWidth 16 = v.extractLsb' 0 16 := by simp [BitVec.setWidth_eq_extractLsb']
  have ht : modStep (stepTimes v) s = modStep (fun t => { t with
      lead := if part v 16 8 = 0 then t.lead else v.extractLsb' 16 8
      period := if part v 0 16 = 0 then t.period else v.setWidth 16 }) s := by
    simp only [part_eq_zero, hx]
    rfl
  rw [e, ht]
  exact if_neg (not_not_intro hp)

/-- STEP_ENABLE is a write of GS_STEP_CFG. -/
theorem stepEnable_write (v : W32) : exec (.stepEnable acc v) s = exec (.registerWrite acc 0x7C5 v) s := by
  have e : exec (.stepEnable acc v) s = exec (.registerWrite acc 0x7C5 (BitVec.ofNat 32 v.toNat)) s := rfl
  rw [e, BitVec.ofNat_toNat, BitVec.setWidth_eq]

/-- Accesses are served out of SLEEP. -/
theorem served_gclkOn (h : served acc s = true) : gclkOn s = true := by
  simp only [served, Bool.and_eq_true] at h
  tauto

theorem sleepless (h : gclkOn s = true) : s.pwr.st ≠ .sleep := by
  simp only [gclkOn, Bool.and_eq_true, bne_iff_ne] at h
  tauto

/-! ### The step unit learns the epoch of its object (16 R388) -/

/-- The READ by which it does. -/
def epochRead (s : State) : Op :=
  { opcode := opRead, agent := stepAgent s, ctx := 0, handle := s.step.handle
    inc := (Config.unstated s.clk.free).setWidth 8, seq := (Config.unstated (s.clk.free + 1)).setWidth 16, src := .stepUnit }

/-- The state of an enabled unit that has asked for it. -/
def epochAsked (s : State) : State :=
  { s with
    step := { s.step with en := true, due := false, tripDue := false, reading := true, epoch := none }
    clk := { s.clk with free := s.clk.free + 2 } }

theorem stepStart_reads (hv : s.sec.st ≠ .virgin) (hl : s.hb.link = []) :
    stepStart s = withHb { s.hb with link := [.step (epochRead s)] } (epochAsked s) := by
  have e : stepStart s = withHb { s.hb with link := s.hb.link ++ [.step (epochRead s)] } (epochAsked s) := if_neg hv
  rw [e, hl]
  rfl

/-- A running die refuses nothing of a context that is live (02 R44). -/
theorem stateGate_running {o : Byte} {c : CtxId} (h : running s = true) (hc : ctxState s c = .live) : stateGate s o c = none := by
  have k := running_parts h
  simp [stateGate, k.unhalted, k.sound, k.active, hc]

variable {op : Op} {n : Nat}

/-- A translated operation, whoever asked for it: a hit in the cache, then the slot. -/
theorem carryOut_slotOp (ho : objOpcode op.opcode = true) (h : reaches s op n = true) :
    carryOut op s = slotOp op n (tcTouch op.ctx op.handle s) := by
  obtain ⟨x, hx⟩ := reaches_hit h
  have hz : ∀ o : Byte, objOpcode o = true → o ≠ opQop ∧ handleZero o = false := by decide
  obtain ⟨hq, hz⟩ := hz _ ho
  have e : carryOut op s = useXl (.op op) x (tcTouch op.ctx op.handle s) := by
    unfold carryOut Machine.translate
    simp [hq, hz, jobHandle, hx.found]
  have hl : ¬ctxState (tcTouch op.ctx op.handle s) op.ctx ≠ .live := not_not_intro (reaches_atObject h).live
  have hd : homeNow (tcTouch op.ctx op.handle s) (xlHome x) op.handle = myDie (tcTouch op.ctx op.handle s) := hx.here
  have hh : xlHome x = myDie (tcTouch op.ctx op.handle s) := hx.home
  rw [hh] at hd
  rw [e]
  simp only [useXl, hl, hq, hx.allowed, routeOp, hx.direct, hd, hh, hx.slot, ne_eq, not_true_eq_false, false_and, if_false,
    Bool.false_eq_true]

/-- At its object an operation that the home's checks let through runs its pass. -/
theorem objectOp_passes (hg : homeGate op s = none) (x : AtObject s op n) (he : s.couch.entering = [])
    (ha : arrives op.opcode = false) :
    objectOp op n s = endPass op n false (evalObj false none op n s).1 (evalObj false none op n s).2 := by
  have ho : ¬(op.opcode ≠ opProbe ∧ blocked s (.slot n) = true) := by simp [x.free]
  unfold objectOp
  simp only [hg]
  unfold objectPass
  rw [enterSlots_empty _ he, ite_self]
  simp only [ho, x.alive, resolve_clean x.clean, x.kind, x.owner, treeArrival_other ha, if_false, Bool.false_eq_true, Bool.not_true]

/-- Operand B of an answer about an object begins with its EPOCH. -/
theorem objB_epoch (o : Obj) : (objB o).setWidth 32 = o.epoch := by
  unfold objB
  bv_omega

/-- The READ granted: its answer waits for the step unit (02 R40). -/
theorem serveLink_epochRead (hs : op.src = .stepUnit) (ho : op.opcode = opRead) (hg : stateGate s opRead op.ctx = none)
    (h : reaches s op n = true) (he : s.couch.entering = []) (hd : (objAt s n).diverged = false) :
    serveLink (.step op) s = answerD op stOk (objAt s n).value (objB (objAt s n)) 0 (tcTouch op.ctx op.handle s) := by
  have hk : carryOut op s = slotOp op n (tcTouch op.ctx op.handle s) := carryOut_slotOp (by rw [ho]; rfl) h
  obtain ⟨live, free, alive, clean, kind, owner⟩ := reaches_atObject h
  have hp := objectOp_passes (s := tcTouch op.ctx op.handle s) (op := op) (n := n) (by simp [homeGate, hs])
    ⟨live, free, alive, clean, kind, owner⟩ he (by rw [ho]; rfl)
  have hl : slotOp op n (tcTouch op.ctx op.handle s) = objectOp op n (tcTouch op.ctx op.handle s) := by simp [slotOp, hs]
  have ha : op.opcode ≠ opArriveR := by rw [ho]; decide
  have e : serveLink (.step op) s = carryOut op s := by simp [serveLink, ho ▸ hg, stampTime, ha]
  rw [e, hk, hl, hp, evalObj_read ho]
  exact endPass_answer fun _ => hd

/-- The state with answers for the step unit. -/
def withInbox (l : List OutFlit) (s : State) : State := { s with step := { s.step with inbox := l } }

/-- A step unit that has nothing to take in and no tick or trip to meet leaves nothing waiting. -/
theorem undisturbed_step (t : Step) (h : rest s = true) (hi : t.inbox = []) (hd : t.due = false) (ht : t.tripDue = false) :
    Undisturbed s { s with step := t } := by
  have r := resting h
  have e : stepEmpty { s with step := t } = stepEmpty s := by simp [stepEmpty, hi, hd, ht, r.inbox, r.due, r.trip]
  refine ⟨?_, rfl, rfl⟩
  exact congrArg (fun b => headEmpty s && feltEmpty s && b && passesDone s && braceIdle s && !dumpDue s && s.ctx.clearing.isNone &&
    flashIdle s && s.boot.phase != .links) e

/-- The unit takes in the answer to its READ. -/
theorem drain_epoch {a b : W64} {d : BitVec 512} (ho : op.opcode = opRead) (hl : s.felt.loop = [])
    (hr : s.felt.returned = []) (hi : s.step.inbox = []) :
    drain 256 (withInbox [respFlit op stOk a b d] s) =
      modStep (fun t => { t with reading := false, epoch := some (b.setWidth 32) }) s := by
  let g := respFlit op stOk a b d
  have hlr : returnOne (loopOne (withInbox [g] s)) = withInbox [g] s := by
    simp only [withInbox, loopOne, returnOne, hl, hr]
  have e : drain 256 (withInbox [g] s) = drain 255 (stepOne (withInbox [g] s)) := by
    have h0 : drain 256 (withInbox [g] s) = if s.felt.loop.isEmpty && s.felt.returned.isEmpty && false then withInbox [g] s
      else drain 255 (stepOne (returnOne (loopOne (withInbox [g] s)))) := rfl
    rw [h0, hlr, Bool.and_false]
    rfl
  have hid : withInbox [] s = s := by rw [withInbox, ← hi]
  have ht : stepOne (withInbox [g] s) = modStep (fun t => { t with reading := false, epoch := some (b.setWidth 32) }) s := by
    have h1 : stepOne (withInbox [g] s) = stepTake g (withInbox [] s) := rfl
    have hn : ¬g.cls = 3 := by simp [g, respFlit]
    rw [h1, hid, stepTake, if_neg hn, if_pos (show g.opcode = opRead from ho)]
    rfl
  rw [e, ht]
  exact drain_empty (s := modStep _ s) 255 hl hr hi

end

/-- Settles O30: each command is the write of its register, which is served in its cycle; the unit that becomes enabled has its READ
granted at LINK in that cycle too, and takes in the answer. -/
theorem powerCommandsComplete : Obligations.PowerCommandsComplete := by
  unfold Obligations.PowerCommandsComplete
  refine ⟨?_, ?_, ?_, ?_, ?_, ?_⟩
  · intro acc s hs hb hh hf hq
    have k := served_parts hs
    have ha : s.pwr.st ≠ .sleep := sleepless (served_gclkOn hs)
    have hw : wakeDoze (pwrDone (tick s)) = pwrDone (tick s) := if_neg k.awake
    have e := (regPut_halt (acc := acc) (s := tick s) hb).trans (haltOwn_alone (s := pwrDone (tick s)) ha hw hh hf hq)
    obtain ⟨u, hu, h⟩ := write_settles (addr := 0x7C1) (v := 2) hs rfl e (undisturbed_pwrDone.trans undisturbed_haltedBy).logEvent
    exact ⟨u, hu, h.trans (congrArg still wrote_logEvent)⟩
  · intro acc s hs hb hn hp hl hf
    refine write_settles (addr := 0x7C1) (v := 1) hs rfl
      ((regPut_sleep (s := tick s) hb).trans (sleepCommand_starts (s := tick s) hn hp hl hf)) ?_
    have hu := undisturbed_power (s := tick s) { s.pwr with cmdBusy := true, cmdErr := 0, sleep := .draining } (tick s).pins s.cal
      s.xl (served_parts hs).rest rfl .inl
    exact hu.trans ⟨rfl, rfl, rfl⟩
  · intro acc s hs hb hn
    exact write_settles (addr := 0x7C1) (v := 1) hs rfl ((regPut_sleep (s := tick s) hb).trans (if_pos (.inl hn))) ⟨rfl, rfl, rfl⟩
  · intro acc s hs ho
    have e : regPut acc 0x200C 1 (tick s) = _ := endUnlock_open (c := 2) (s := tick s) ho
    obtain ⟨u, hu, h⟩ := write_settles (addr := 0x803) (v := 1) hs rfl e (Undisturbed.logEvent ⟨rfl, rfl, rfl⟩)
    exact ⟨u, hu, h.trans (congrArg still wrote_logEvent)⟩
  · intro acc v s hs hp hn
    have hb : ¬(v.getLsbD 31 && !(tick s).step.en) = true := by
      rw [show (tick s).step.en = true from hn]
      simp
    have e := (regPut_stepCfg (acc := acc) v (s := tick s) hp).trans (if_neg hb)
    rw [stepEnable_write]
    exact write_settles (addr := 0x7C5) hs rfl e ⟨rfl, rfl, rfl⟩
  · intro acc v s n hs hrun hv hen h31 hn hd
    simp only [slotServed, Bool.and_eq_true] at hs
    obtain ⟨hs, hg⟩ := hs
    have hr := (served_parts hs).rest
    have r := resting hr
    let w := modStep (stepTimes v) (tick s)
    let B := wrote (epochAsked w)
    have hput : regPut acc 0x1F14 v (tick s) = withHb { (tick s).hb with link := [.step (epochRead w)] } (epochAsked w) := by
      have hb : (v.getLsbD 31 && !(tick s).step.en) = true := by
        rw [h31, show (tick s).step.en = false from hen]
        rfl
      rw [regPut_stepCfg v (s := tick s) (running_parts hrun).run, if_pos hb]
      exact stepStart_reads (s := w) hv r.link
    have hB : Kept (tick s) B := ⟨(undisturbed_step (s := tick s) B.step hr r.inbox rfl rfl).trans ⟨rfl, rfl, rfl⟩, rfl, rfl⟩
    rw [stepEnable_write]
    refine link_leads (l := .step (epochRead w)) (o := (tick s).hb.order) (B := B) hr ?_ rfl hg hB ?_ ?_
    · rw [access_runs (x := { acc, wr := true, addr := 0x7C5, data := v }) hs, write_runs hs rfl rfl rfl]
      exact congrArg wrote hput
    · exact ⟨(undisturbed_step (s := tick s) { stepTimes v s.step with
        en := true, due := false, tripDue := false, reading := false, epoch := some (objAt s n).epoch } hr r.inbox rfl rfl).trans
        ⟨rfl, rfl, rfl⟩, rfl, rfl⟩
    · intro h hh
      let X := withHb h (bumpAon 0x00 B)
      let Y := tcTouch 0 s.step.handle (bumpAon 0x00 B)
      let g := respFlit (epochRead w) stOk (objAt s n).value (objB (objAt s n)) 0
      have hs : serveLink (.step (epochRead w)) X = withHb h (withInbox (s.step.inbox ++ [g]) Y) :=
        serveLink_epochRead (s := X) (n := n) rfl rfl (stateGate_running (s := X) hrun (reaches_atObject hn).live) hn r.entering hd
      rw [r.inbox] at hs
      refine ⟨h, withInbox [g] Y, hs, hh, r.entering, ?_⟩
      refine (drain_epoch (s := withHb h Y) rfl r.loop r.returned r.inbox).trans ?_
      rw [objB_epoch]
      rfl

/-! ## An operation that a peer's OP frame brings (02 R47; 06 R160; 12 R281) -/

section

variable {op : Op} {l : List Unanswered} {s : State} {st : Status} {a b : W64} {x : BitVec 512} {n : Nat}

/-- The response of the request that stands last, none of its line before it, leaves at once by the way it came. -/
theorem respond_last (hl : ∀ u ∈ l, inLine op.src (respFlit op stOk 0 0 0) u = false) (ho : s.hb.order = l ++ [placeOf op]) :
    respond op.src (respFlit op st a b x) s = respOut op.src (respFlit op st a b x) (ordered l s) := by
  let p := fun u : Unanswered => answersReq op.src (respFlit op st a b x) u && u.resp.isNone
  have hp : p (placeOf op) = true := by simp [p, answersReq, respFlit, placeOf]
  have hn : ∀ u ∈ l, p u = false := by
    intro u hu
    have hq := hl u hu
    by_contra hc
    simp only [p, Bool.not_eq_false, answersReq, inLine, respFlit, Bool.and_eq_true] at hc hq
    simp_all
  have hany : s.hb.order.any p = true := by rw [ho]; simp [hp]
  have hm : modFirst p (fun u => { u with resp := some (respFlit op st a b x) }) s.hb.order =
      l ++ [{ placeOf op with resp := some (respFlit op st a b x) }] := by rw [ho]; exact modFirst_last _ hn hp
  have hr := releaseLine_last (p := inLine op.src (respFlit op st a b x))
    (u := { placeOf op with resp := some (respFlit op st a b x) }) hl (by simp [inLine, respFlit, placeOf]) rfl
  have e : respond op.src (respFlit op st a b x) s = flushLine op.src (respFlit op st a b x)
      (ordered (modFirst p (fun u => { u with resp := some (respFlit op st a b x) }) s.hb.order) s) := if_pos hany
  have hf : ∀ o, flushLine op.src (respFlit op st a b x) (ordered o s) =
      (releaseLine (inLine op.src (respFlit op st a b x)) o).2.foldl (fun s g => respOut op.src g s)
        (ordered (releaseLine (inLine op.src (respFlit op st a b x)) o).1 s) := fun _ => rfl
  rw [e, hm, hf, hr]
  rfl

/-- A pass that changed its object and answers it, where no watch and no Watermark is on the object (03 R64). -/
theorem endPass_changed {w : Bool} {T : State} (hd : (objAt s n).diverged = false) (hm : (objAt s n).wmark = false)
    (hl : listAt s n = []) (hw : s.wt.walks = []) (hT : answerD op stOk a b 0 s = T) (hs : T.vat.slots = s.vat.slots)
    (hk : T.wt = s.wt) : endPass op n false { status := stOk, a, b, walk := true, bumped := w } s = T := by
  have ht : testAll n w T = T := testAll_empty (by simpa only [listAt, slotAt, hs] using hl)
    (by simpa only [objAt, slotAt, hs] using hm) (by rw [hk]; exact hw)
  have hT' : answerD op stOk a b 0#512 s = T := hT
  simpa [endPass, answerPass, okOrDiverged_clear hd, finishPass, sendGrants, doOut, hT'] using ht

/-- The response to an operation that changed its object (02 R40). -/
def changedFlit (op : Op) (n : Nat) (s : State) : OutFlit :=
  respFlit op stOk (if op.opcode = opCas then (objAt s n).value else (objectAfter s op n).value) (objB (objectAfter s op n)) 0

/-- An OK to a peer's operation that stands last in the order of responses leaves in a frame. -/
theorem answerD_sent {d : DieId} (hs : op.src = .felt d) (hr : op.noresp = false)
    (hln : ∀ u ∈ l, inLine op.src (respFlit op stOk 0 0 0) u = false) (ho : s.hb.order = l ++ [placeOf op])
    (hv : leaves d (.flit (respFlit op stOk a b x)) (ordered l s) = true) :
    answerD op stOk a b x s = sent d (.flit (respFlit op stOk a b x)) (ordered l s) := by
  have e : answerD op stOk a b x s = respond op.src (respFlit op stOk a b x) s := by simp [answerD, hs, hr, countStatus, stOk]
  have e1 : respOut op.src (respFlit op stOk a b x) (ordered l s) = sendFrame d (.flit (respFlit op stOk a b x)) (ordered l s) := by
    rw [hs]
    rfl
  rw [e, respond_last hln ho, e1, sendFrame_leaves hv]

/-- At LINK a peer's operation goes to its slot, other than an ARRIVE_R without the time of its grant. -/
theorem serveLink_felt {d : DieId} (hs : op.src = .felt d) (hn : op.opcode ≠ opArriveR) :
    serveLink (.felt op n) s = objectOp op n s := by
  simp [serveLink, stampTime, hn, slotOp, hs]

/-- A peer's operation whose kind changes the object alone: the object is changed, and the response leaves in a frame. -/
theorem serveLink_changes {d : DieId} {w : State} (hs : op.src = .felt d) (ha : actsByKind op.opcode)
    (hg : stateGate s op.opcode op.ctx = none) (x : AtObject s op n) (he : s.couch.entering = []) (hw : s.wt.walks = [])
    (hk : kindUnknown s (objAt s n).kind = false) (hl : listAt s n = []) (hh : holdersOf s n = []) (p : Plain (answerOfKind s op n))
    (hr : op.noresp = false) (hln : ∀ u ∈ l, inLine op.src (respFlit op stOk 0 0 0) u = false) (ho : s.hb.order = l ++ [placeOf op])
    (e : withObject n (objectAfter s op n) s = w) (hv : leaves d (.flit (changedFlit op n s)) (ordered l w) = true) :
    serveLink (.felt op n) s = sent d (.flit (changedFlit op n s)) (ordered l w) := by
  obtain ⟨hwm, hdv⟩ := setLastsig_flags (objAt s n) (answerOfKind s op n).obj (whoOf op)
  obtain ⟨c, ev⟩ := evalKind_plain (q := false) hl hh p
  obtain ⟨z, ez⟩ := withObject_eq n (objectAfter s op n) s
  have hob : objAt w n = objectAfter s op n := by rw [← e]; exact objAt_withObject ..
  have hlw : listAt w n = [] := by rw [← e]; exact (listAt_withObject ..).trans hl
  rw [e] at ev ez
  have how : w.hb.order = l ++ [placeOf op] := by rw [ez]; exact ho
  have hww : w.wt.walks = [] := by rw [ez]; exact hw
  rw [serveLink_felt hs (Messages.actsByKind_other ha), objectOp_passes (by simp [homeGate, hs, hg]) x he (arrives_actsByKind ha),
    evalObj_actsByKind ha (kindUnfit_ok hk p.status), ev]
  refine endPass_changed (by rw [hob]; exact hdv.trans p.diverged) (by rw [hob]; exact hwm.trans p.wmark) hlw hww
    (answerD_sent hs hr hln how hv) ?_ ?_
  · rw [sent_eq]; rfl
  · rw [sent_eq]; rfl

/-- What the gates of 02 R44 let through is of a context that is live. -/
theorem live_of_stateGate {o : Byte} {c : CtxId} (h : stateGate s o c = none) : ctxState s c = .live := by
  unfold stateGate at h
  split_ifs at h with h1 h2 h3
  exact not_not.mp h3

/-- An OP frame's operation takes its place in the order of responses and waits for LINK. -/
theorem handOver_op {d : DieId} {o : Byte} {f : Flit} {slot : BitVec 17} {cont : Option (BitVec 256)} (hl : s.hb.link = []) :
    handOver d 0 (.op o f slot cont) s = withHb { s.hb with
      link := [.felt (opOfFrame d o f cont) slot.toNat]
      order := if namesObject o then s.hb.order ++ [placeOf (opOfFrame d o f cont)] else s.hb.order } s := by
  have e : handOver d 0 (.op o f slot cont) s = withHb { (noteOrder (.felt d) o f.agent f.inc f.ctx f.handle f.seq s).hb with
      link := (noteOrder (.felt d) o f.agent f.inc f.ctx f.handle f.seq s).hb.link ++ [.felt (opOfFrame d o f cont) slot.toNat] }
      (noteOrder (.felt d) o f.agent f.inc f.ctx f.handle f.seq s) := rfl
  rw [e]
  unfold noteOrder
  split_ifs
  · simp only [hl, List.nil_append]
    rfl
  · simp only [hl, List.nil_append]

end

/-- Settles O44: the operation, alone at LINK, is granted in the cycle of its frame and its response is last in the order; where the
Headbox may not grant, it waits. -/
theorem operationFrameCompletes : Obligations.OperationFrameCompletes := by
  unfold Obligations.OperationFrameCompletes
  refine ⟨?_, ?_⟩
  · intro h o f slot cont s b v n op r o' ans hh hact hg hgate hbl hdead hcl hk hu hl hhold how hnr hp hfirst hlv
    have ho : actsByKind o := hact
    have hn : namesObject o = true := by rcases hact with rfl | rfl | rfl | rfl | rfl | rfl <;> rfl
    have hln : ∀ u ∈ s.hb.order, inLine op.src (respFlit op stOk 0 0 0) u = false := by simpa [firstInLine] using hfirst
    obtain ⟨t, x⟩ := hears_parts (hears_tick.trans hh)
    have hv := undisturbed_heard x
    have q := resting (hv.rest.trans x.rest)
    obtain ⟨w, ew⟩ : ∃ w, w = withObject n o' (bumpAon 0x00 v) := ⟨_, rfl⟩
    obtain ⟨z, ez⟩ := withObject_eq n o' (bumpAon 0x00 v)
    have ez := ew.trans ez
    have hT : Kept (tick s) (sent h.src ans w) := by
      have hw : Undisturbed v w := by rw [ez]; exact ⟨rfl, rfl, rfl⟩
      refine ⟨(hv.trans hw).trans (undisturbed_sent ((hv.trans hw).rest.trans x.rest)), ?_, ?_⟩ <;> rw [sent_eq, ez] <;> rfl
    have qT := resting (hT.rest.trans x.rest)
    rw [← ew]
    refine link_leads (f := rxFrame h b) (l := .felt op n) (B := v) x.rest ((rxFrame_heard x rfl).trans (handOver_op q.link))
      (bne_iff_ne.mpr (Messages.actsByKind_other ho)) hg ⟨hv, rfl, rfl⟩ hT fun k hk' => ?_
    rw [if_pos hn] at hk'
    let k' : Headbox := { k with order := s.hb.order }
    have hkk : steadyHb k' = steadyHb (tick s).hb := congrArg (fun y : Headbox => { y with order := s.hb.order }) hk'
    have hwk : withObject n o' (withHb k (bumpAon 0x00 v)) = withHb k w := (withHb_withObject k n o' _).symm.trans (by rw [ew])
    have hlw : leaves h.src ans (withHb k' w) = true := by
      rw [Quires.leaves_withHb (s := w) (hkk.trans (congrArg (fun y => steadyHb y.hb) ez).symm), ez]
      exact hlv
    refine ⟨k', sent h.src ans w, ?_, hkk, qT.entering,
      drain_empty (s := withHb k' (sent h.src ans w)) 256 qT.loop qT.returned qT.inbox⟩
    rw [Quires.withHb_sent]
    exact serveLink_changes (s := withHb k (bumpAon 0x00 v)) (op := op) (l := s.hb.order) (w := withHb k w) rfl ho hgate
      ⟨live_of_stateGate hgate, hbl, hdead, hcl, hk, how⟩ q.entering q.walks hu hl hhold
      (plain_parts hp) hnr hln (congrArg Headbox.order hk') hwk hlw
  · intro h o f slot cont s b v op hh hg
    obtain ⟨t, x⟩ := hears_parts (hears_tick.trans hh)
    have hu := undisturbed_heard x
    have q := resting (hu.rest.trans x.rest)
    obtain ⟨u, hnx, hst⟩ := barred_settles ((rxFrame_heard x rfl).trans (handOver_op q.link)) x.rest
      ⟨⟨hu.rest, hu.pending, hu.kinds⟩, rfl, rfl⟩ q.ports hg
    exact ⟨u, hnx, still_arb hst⟩

/-! ## A statement that a state of its breaks -/

/-- An unpinned Ethernet stream to die 16, UP, with nothing unacknowledged. -/
def quietStream : Stream :=
  { eth := true, idx := 0, peer := 16, st := .up, mySession := 3, peerSession := 4, credit := 4, granted := 4 }

/-- A FREED frame that waits for that stream. -/
def waitingFrame : TxFrame := { fid := 0, dst := 16, body := .freed 0 0 }

/-- A running die whose Calender reads 9, with the stream and the frame. -/
def quietDie : State :=
  { runningDie with
    cal := { runningDie.cal with time := 9 }
    felt := { runningDie.felt with streams := [quietStream], txq := [waitingFrame] } }

/-- When each stream began to be a heartbeat stream. -/
def beatTimes (s : State) : List W64 := s.felt.streams.map (·.beatFrom)

theorem beatTimes_still (s : State) : beatTimes (still s) = beatTimes s := by
  simp [beatTimes, still]

/-- The frame sent makes the stream a heartbeat stream. -/
theorem quietDie_beats : shown beatTimes (exec .feltSend quietDie) = some [9] := by decide +kernel

/-- Refutes O53, whose first clause leaves the time at which the stream began to be a heartbeat stream as it was: an unpinned Ethernet
stream is one only while a frame is unacknowledged or an acknowledgement owed (12 R298), so that its silence counts from the frame sent
(R299). -/
theorem not_linkTimersComplete : ¬ Obligations.LinkTimersComplete := by
  unfold Obligations.LinkTimersComplete
  rintro ⟨h, -⟩
  have claim := h quietDie waitingFrame quietStream
  iterate 4 specialize claim (by decide +kernel)
  exact absurd (refuted_by_shown claim beatTimes_still quietDie_beats) (by decide +kernel)

end Sys2Proof.Proofs.Streams
end

section
/-! What a step is (log entry 1): the command at the front of the queue, or an idle cycle. -/

namespace Sys2Proof.Proofs.Steps

open Sys2Proof Sys2Proof.Machine Sys2Proof.Laws

theorem step_cons {c : Instr} {cs : List Instr} {s : State} (h : s.pending = c :: cs) : step s = exec c { s with pending := cs } := by
  unfold step
  rw [h]

theorem step_nil {s : State} (h : s.pending = []) : step s = .next (idleCycle s) := by
  unfold step
  rw [h]

/-- No command is refused, and none faults. -/
theorem exec_answers (c : Instr) (s : State) : ∃ t, exec c s = .next t := by
  cases c <;> exact ⟨_, rfl⟩

/-- Settles O1: by the front of the queue, and by the arm of each command. -/
theorem stepTakesFront : Obligations.StepTakesFront := by
  unfold Obligations.StepTakesFront
  exact ⟨fun _ _ _ => step_cons, exec_answers⟩

/-- Settles O2: an idle cycle is one whose command has no effect. -/
theorem idleStep : Obligations.IdleStep := by
  unfold Obligations.IdleStep
  intro s hp hr
  exact ⟨_, step_nil hp, still_inCycle_same (fun s => s) s hr rfl rfl⟩

end Sys2Proof.Proofs.Steps
end

section
/-! Resilience (13): the COPY that ends the fetch of a slot, beside a dump that waits for it. -/

namespace Sys2Proof.Proofs.Resilience

open Sys2Proof Sys2Proof.Machine Sys2Proof.Proofs.Messages Sys2Proof.Proofs.Quires

/-- A FETCH of slot 5, whose copies differ beyond what their sequences decide: die 1 has not answered it. -/
def openFetch : FetchWait := { slot := 5, from_ := [1], got := [], both := false }

/-- A SEMAPHORE with third copies, of which a good copy is one of the two that the home holds. -/
def copied (v : W64) : Obj := { kind := kSemaphore, value := v, shadow := true }

/-- A running die with a stream to die 1, whose dump has come to slot 5 and waits for its third copy. -/
def awaitingDie : State :=
  { dumpingDie with
    felt := { runningDie.felt with streams := [streamTo 1] }
    vat := { runningDie.vat with
      slots := [(5, { a := { obj := copied 3 }, b := { obj := copied 4 } })], holders := [(5, [1])], fetch := [openFetch] } }

/-- The dump issues its last two records. -/
theorem awaitingDie_dumps :
    shown (·.dump.recs) (exec (.shadowUpdCopy (headerFrom 1) 5 0 false false (packObj (copied 3) 0)) awaitingDie) = some 2 := by
  decide +kernel

/-- Refutes O48, whose ninth clause leaves everything outside the slot as it was but the event and its counter: a dump that waited for
the third copy of the slot goes on in the cycle whose COPY decides it (13 R307, 14 R353). -/
theorem not_shadowFramesComplete : ¬ Obligations.ShadowFramesComplete := by
  unfold Obligations.ShadowFramesComplete
  rintro ⟨-, -, -, -, -, -, -, -, h, -⟩
  have claim := h (headerFrom 1) 5 0 false false (packObj (copied 3) 0) awaitingDie
  iterate 4 specialize claim (by decide +kernel)
  exact absurd (refuted_by_shown claim (fun _ => rfl) awaitingDie_dumps) (by decide +kernel)

end Sys2Proof.Proofs.Resilience
end


section
/-! MEMP (19 R439-R441) and the calibration buffer (18 R424): the end of a request whose tag another shares, as no step leaves it. -/

namespace Sys2Proof.Proofs.Memp

open Sys2Proof Sys2Proof.Machine Sys2Proof.Proofs.Messages Sys2Proof.Proofs.Watches

/-- The write of the BRACE summary. -/
def summaryWrite : MReq := { use := .summary, wr := true, size := 2, addr := 0 }

/-- The die whose dump waits for one of its 32 writes to end, with the summary's write under the tag of one of them, as no step
leaves it. -/
def summaryTaggedDie : State :=
  { twiceTaggedDie with memp := { twiceTaggedDie.memp with outst := (2, summaryWrite) :: twiceTaggedDie.memp.outst } }

/-- The dump goes on in the cycle in which the summary's write times out, and comes to its end. -/
theorem summaryTaggedDie_endsDump : shown (·.dump.ended) (exec (.mempTimeout 2) summaryTaggedDie) = some true := by
  decide +kernel

/-- Refutes O19, whose second clause does not ask that the outstanding requests have tags of their own: where the tag of the summary's
write is also that of a dump's, its timeout takes both off the table, and the dump has room for its next write. -/
theorem not_mempCompletes : ¬ Obligations.MempCompletes := by
  unfold Obligations.MempCompletes
  rintro ⟨-, h, -, -⟩
  have claim := h summaryTaggedDie 2 summaryWrite
  iterate 4 specialize claim (by decide +kernel)
  exact absurd (refuted_by_shown claim (fun _ => rfl) summaryTaggedDie_endsDump) (by decide +kernel)

/-- The write of part 0 of the calibration buffer. -/
def partWrite : MReq := { use := .calStore 0, wr := true, size := 2, addr := 0 }

/-- The die whose dump waits for one of its 32 writes to end, and whose CAPTURE waits for its last part, written under the tag of one
of them, as no step leaves it. -/
def partTaggedDie : State :=
  { twiceTaggedDie with
    boot := { twiceTaggedDie.boot with calw := .capture [0] }
    memp := { twiceTaggedDie.memp with outst := (2, partWrite) :: twiceTaggedDie.memp.outst } }

/-- The dump goes on in the cycle of the part's response, and comes to its end. -/
theorem partTaggedDie_endsDump : shown (·.dump.ended) (exec (.calwBufferResponse 2 0 0) partTaggedDie) = some true := by
  decide +kernel

/-- Refutes O32, whose fourth clause does not ask that the outstanding requests have tags of their own: where the tag of the last
part's write is also that of a dump's, the response takes both off the table, and the dump has room for its next write. -/
theorem not_calibrationCompletes : ¬ Obligations.CalibrationCompletes := by
  unfold Obligations.CalibrationCompletes
  rintro ⟨-, -, -, h, -⟩
  have claim := h partTaggedDie 2 0 partWrite 0
  iterate 5 specialize claim (by decide +kernel)
  exact absurd (refuted_by_shown claim (fun _ => rfl) partTaggedDie_endsDump) (by decide +kernel)

end Sys2Proof.Proofs.Memp
end

section
/-! Interrupts (15 R364-R368): sources claimed, set and cleared over REGP. First an access followed by what the same cycle asserts,
then sources changed one by one and by a mask. -/

namespace Sys2Proof.Proofs.Interrupts

open Sys2Proof Sys2Proof.Machine Sys2Proof.Laws Sys2Proof.Proofs.Scope Sys2Proof.Proofs.Organisation

section

variable {s t : State} {acc : Acc} {n j : Nat}

/-! ## An access and what comes with it in its cycle -/

theorem whenPower_served (f : State → State) (h : served acc s = true) : whenPower f (tick s) = f (tick s) :=
  if_neg (by simp [show (tick s).pwr.off = false from (served_parts h).on])

theorem regOffer_served {x : RegAcc} (h : served x.acc s = true) : regOffer x (tick s) = regRun x (tick s) :=
  (whenPower_served _ h).symm.trans (access_runs h)

/-- A write of a register that is read at its address. -/
theorem regWrite_served {a v : Nat} (h : served acc s = true)
    (hv : (regVal (tick s) acc.rq (4 * (BitVec.ofNat 23 (a / 4)).toNat)).isSome = true) : regWrite acc a v (tick s) =
      wrote (regPut acc (4 * (BitVec.ofNat 23 (a / 4)).toNat) (BitVec.ofNat 32 v) (tick s)) := by
  obtain ⟨w, hw⟩ := Option.isSome_iff_exists.mp hv
  exact (regOffer_served (x := { acc, wr := true, addr := BitVec.ofNat 23 (a / 4), data := BitVec.ofNat 32 v }) h).trans
    (write_runs h rfl rfl hw)

/-! ## One source -/

/-- Change a source, unless its number is reserved (15 R359). -/
def changeSource (g : IrqSrc → IrqSrc) (n : Nat) (s : State) : State :=
  if irqReserved n then s else irqPut s n (g (irqGet s n))

/-- A source asserted (15 R361, R362). -/
def raised (r : IrqSrc) : IrqSrc := { r with pending := true, count := satInc 255 r.count }

/-- A source whose PENDING bit a 1 was written to (15 R366). -/
def cleared (r : IrqSrc) : IrqSrc := { r with pending := false }

theorem assertSource_eq : assertSource n s = changeSource raised n s := rfl

theorem irqW1C_eq : irqW1C n s = changeSource cleared n s := rfl

theorem changeSource_reserved {g : IrqSrc → IrqSrc} (h : irqReserved n = true) : changeSource g n s = s := if_pos h

theorem changeSource_put {g : IrqSrc → IrqSrc} (h : irqReserved n = false) :
    changeSource g n s = irqPut s n (g (irqGet s n)) := if_neg (by simp [h])

@[simp] theorem irqGet_irqPut_self (r : IrqSrc) : irqGet (irqPut s n r) n = r := tgetD_tput_self ..

theorem irqGet_irqPut_ne (r : IrqSrc) (h : j ≠ n) : irqGet (irqPut s n r) j = irqGet s j := tgetD_tput_ne _ _ _ h

/-- Written over a source that is not at its reset values. -/
theorem irqPut_irqPut {r : IrqSrc} (q : IrqSrc) (h : r ≠ {}) : irqPut (irqPut s n r) n q = irqPut s n q := by
  simp only [irqPut, tput_tput _ _ _ _ _ h]

theorem irqGet_changeSource_ne (g : IrqSrc → IrqSrc) (h : j ≠ n) : irqGet (changeSource g n s) j = irqGet s j := by
  unfold changeSource
  split_ifs
  · rfl
  · exact irqGet_irqPut_ne _ h

/-- Set and asserted in one cycle, a source counts both (15 R368). -/
theorem raised_raised (r : IrqSrc) : raised (raised r) = { r with pending := true, count := min 255 (r.count + 2) } := by
  have h : satInc 255 (satInc 255 r.count) = min 255 (r.count + 2) := by simp only [satInc]; omega
  rw [raised, raised, h]

theorem raised_ne (r : IrqSrc) : raised r ≠ {} := fun e => Bool.noConfusion (congrArg IrqSrc.pending e : true = false)

/-! ## A claim (15 R364, R367) -/

/-- The state after a read of GS_IRQ_CLAIMp. -/
def claimedBy (p : Nat) (s : State) : State :=
  { (irqClaim p s).2 with regp := { (irqClaim p s).2.regp with rdata := (irqClaim p s).1 } }

theorem regVal_claim {q : Requester} (hq : q ≠ .regacc) (p : Fin 16) :
    regVal s q (4 * (BitVec.ofNat 23 ((0x1E80 + 4 * p.val) / 4)).toNat) = some (irqClaim p.val s).1 := by
  fin_cases p <;> exact if_neg hq

theorem readEffect_claim {q : Requester} (hq : q ≠ .regacc) (p : Fin 16) :
    readEffect q (4 * (BitVec.ofNat 23 ((0x1E80 + 4 * p.val) / 4)).toNat) s = (irqClaim p.val s).2 := by
  fin_cases p <;> exact if_neg hq

theorem regRead_claim (h : served acc s = true) (p : Fin 16) :
    regRead acc (0x1E80 + 4 * p.val) (tick s) = claimedBy p.val (tick s) := by
  have hq := (served_parts h).bus
  have e := read_runs (x := { acc, wr := false, addr := BitVec.ofNat 23 ((0x1E80 + 4 * p.val) / 4), data := 0 }) h rfl rfl
    (regVal_claim hq p)
  rw [readEffect_claim hq p, regDone_port hq] at e
  exact (regOffer_served (x := { acc, wr := false, addr := BitVec.ofNat 23 ((0x1E80 + 4 * p.val) / 4), data := 0 }) h).trans e

/-- A claim of a processor for which nothing is eligible. -/
theorem claimRow_none (h : served acc s = true) {p : Fin 16} (same : Bool) (hs : irqSelect (tick s) p.val = none) :
    claimRow acc p.val same (tick s) = claimedBy p.val (tick s) := by
  unfold claimRow
  rw [regRead_claim h p, hs, ite_self]

/-- A claim of one for which a source is. -/
theorem claimRow_some (h : served acc s = true) {p : Fin 16} (same : Bool) {r : IrqSrc}
    (hs : irqSelect (tick s) p.val = some (n, r)) :
    claimRow acc p.val same (tick s) = if same then assertSource n (claimedBy p.val (tick s)) else claimedBy p.val (tick s) := by
  have k := served_parts h
  have hh : regpHeld (tick s) = false := k.ready
  have hb : (acc.rq == .regacc) = false := by simpa using k.bus
  unfold claimRow
  rw [regRead_claim h p, hh, served_admitted h, hb, hs]
  rfl

variable {p : Nat} {r : IrqSrc}

theorem claimedBy_none (h : irqSelect s p = none) : claimedBy p s = { s with regp := { s.regp with rdata := 0x3FF } } := by
  simp only [claimedBy, irqClaim, h]

/-- What a claim leaves of the source that it takes. -/
def taken (r : IrqSrc) : IrqSrc := { r with pending := false, count := 0 }

theorem claimedBy_some (h : irqSelect s p = some (n, r)) :
    claimedBy p s = irqPut { s with regp := { s.regp with rdata := BitVec.ofNat 32 (r.count * 65536 + n) } } n (taken r) := by
  simp only [claimedBy, irqClaim, h]
  rfl

/-- A source that a claim takes is, or was, enabled. -/
theorem taken_ne (h : irqSelect s p = some (n, r)) : taken r ≠ {} := by
  have he := List.find?_some h
  simp only [Bool.and_eq_true] at he
  intro e
  have hv : r.vEn = false := congrArg IrqSrc.vEn e
  have hc : r.chg = [] := congrArg IrqSrc.chg e
  simp [irqEff, hv, hc] at he

/-- The source asserted in the cycle that claims it. -/
theorem assertSource_claimedBy (h : irqSelect s p = some (n, r)) (hn : irqReserved n = false) :
    assertSource n (claimedBy p s) =
      irqPut { s with regp := { s.regp with rdata := BitVec.ofNat 32 (r.count * 65536 + n) } } n
        { r with pending := true, count := 1 } := by
  rw [claimedBy_some h, assertSource_eq, changeSource_put hn, irqGet_irqPut_self, irqPut_irqPut _ (taken_ne h)]
  rfl

/-! ## GS_IRQ_SET (15 R368) -/

theorem regPut_irqSet (c : Acc) (n : Byte) : regPut c 0x1E0C (BitVec.ofNat 32 n.toNat) s = changeSource raised n.toNat s := by
  have hn := n.isLt
  have e : part (BitVec.ofNat 32 n.toNat) 0 8 = n.toNat := by
    simp only [part, fld, BitVec.toNat_ofNat, Nat.shiftRight_zero]
    omega
  have h : regPut c 0x1E0C (BitVec.ofNat 32 n.toNat) s = assertSource (part (BitVec.ofNat 32 n.toNat) 0 8) s := rfl
  rw [h, e, assertSource_eq]

/-- An IRQ_SET, with an assertion of its source in the same cycle. -/
def setRow (acc : Acc) (n : Byte) (same : Bool) (s : State) : State :=
  if same then assertSource n.toNat (regWrite acc 0x1E0C n.toNat s) else regWrite acc 0x1E0C n.toNat s

theorem irqSet_runs (h : served acc s = true) (n : Byte) (same : Bool) :
    whenPower (setRow acc n same) (tick s) =
      if same then changeSource raised n.toNat (wrote (changeSource raised n.toNat (tick s)))
      else wrote (changeSource raised n.toNat (tick s)) := by
  have e : regWrite acc 0x1E0C n.toNat (tick s) = wrote (changeSource raised n.toNat (tick s)) :=
    (regWrite_served h rfl).trans (congrArg wrote (regPut_irqSet acc n))
  rw [whenPower_served _ h, setRow, e, assertSource_eq]

theorem irqSet_served (h : served acc s = true) {n : Byte} {same : Bool} (hn : irqReserved n.toNat = false) :
    whenPower (setRow acc n same) (tick s) =
      irqPut (wrote (tick s)) n.toNat { irqGet s n.toNat with
        pending := true, count := min 255 ((irqGet s n.toNat).count + (if same then 2 else 1)) } := by
  have e : wrote (changeSource raised n.toNat (tick s)) = irqPut (wrote (tick s)) n.toNat (raised (irqGet s n.toNat)) :=
    congrArg wrote (changeSource_put hn)
  rw [irqSet_runs h, e]
  cases same
  · rfl
  · rw [if_pos rfl, changeSource_put hn, irqGet_irqPut_self, irqPut_irqPut _ (raised_ne _), raised_raised]
    rfl

theorem irqSet_reserved (h : served acc s = true) {n : Byte} {same : Bool} (hn : irqReserved n.toNat = true) :
    whenPower (setRow acc n same) (tick s) = wrote (tick s) := by
  rw [irqSet_runs h, changeSource_reserved hn, changeSource_reserved hn, ite_self]

/-! ## Sources changed by a mask (15 R366) -/

/-- The state with other sources. -/
def withSrc (l : Tbl IrqSrc) (s : State) : State := { s with irq := { s.irq with src := l } }

/-- Change the sources that a mask names among the `32 k + i` with `i` in a list. -/
def changeMasked (g : IrqSrc → IrqSrc) (k : Nat) (m : W32) (l : List Nat) (s : State) : State :=
  l.foldl (fun s i => if m.getLsbD i then changeSource g (32 * k + i) s else s) s

theorem assertMask_eq (k : Nat) (m : W32) : assertMask k m s = changeMasked raised k m (List.range 32) s := rfl

theorem irqPendWrite_eq (k : Nat) (m : W32) : irqPendWrite k m s = changeMasked cleared k m (List.range 32) s := rfl

variable {g : IrqSrc → IrqSrc} {k i : Nat} {m : W32} {l : List Nat}

/-- Nothing but the sources changes. -/
theorem changeMasked_eq : ∃ x, changeMasked g k m l s = withSrc x s := by
  induction l generalizing s with
  | nil => exact ⟨_, rfl⟩
  | cons i l ih =>
    have h1 : ∃ x, (if m.getLsbD i then changeSource g (32 * k + i) s else s) = withSrc x s := by
      unfold changeSource
      split_ifs <;> exact ⟨_, rfl⟩
    obtain ⟨x, hx⟩ := h1
    obtain ⟨y, hy⟩ := ih (s := withSrc x s)
    exact ⟨y, (congrArg (changeMasked g k m l) hx).trans hy⟩

theorem irqGet_changeMasked_out (h : ∀ i ∈ l, j ≠ 32 * k + i) : irqGet (changeMasked g k m l s) j = irqGet s j := by
  induction l generalizing s with
  | nil => rfl
  | cons i l ih =>
    refine (ih fun i hi => h i (by simp [hi])).trans ?_
    dsimp only
    split_ifs
    · exact irqGet_changeSource_ne g (h i (by simp))
    · rfl

theorem irqGet_changeMasked (hd : l.Nodup) (hi : i ∈ l) (hr : irqReserved (32 * k + i) = false) :
    irqGet (changeMasked g k m l s) (32 * k + i) =
      if m.getLsbD i then g (irqGet s (32 * k + i)) else irqGet s (32 * k + i) := by
  induction l generalizing s with
  | nil => exact absurd hi List.not_mem_nil
  | cons a l ih =>
    obtain ⟨ha, hd⟩ := List.nodup_cons.mp hd
    let t := if m.getLsbD a then changeSource g (32 * k + a) s else s
    have e : irqGet (changeMasked g k m (a :: l) s) (32 * k + i) = irqGet (changeMasked g k m l t) (32 * k + i) := rfl
    by_cases h : i = a
    · subst h
      have ho : irqGet (changeMasked g k m l t) (32 * k + i) = irqGet t (32 * k + i) := by
        refine irqGet_changeMasked_out fun b hb he => ha ?_
        rwa [show i = b by omega]
      rw [e, ho]
      simp only [t]
      split_ifs
      · rw [changeSource_put hr, irqGet_irqPut_self]
      · rfl
    · have ht : irqGet t (32 * k + i) = irqGet s (32 * k + i) := by
        simp only [t]
        split_ifs
        · exact irqGet_changeSource_ne g (by omega)
        · rfl
      rw [e, ih hd (by simpa [h] using hi), ht]

theorem regPut_irqPend (c : Acc) (k : Fin 8) (v : W32) :
    regPut c (4 * (BitVec.ofNat 23 ((0x1E40 + 4 * k.val) / 4)).toNat) v s = irqPendWrite k.val v s := by
  fin_cases k <;> rfl

theorem regVal_irqPend (q : Requester) (k : Fin 8) :
    (regVal s q (4 * (BitVec.ofNat 23 ((0x1E40 + 4 * k.val) / 4)).toNat)).isSome = true := by
  fin_cases k <;> rfl

/-! ### What `still` shows of the sources -/

theorem tget_filter {α : Type} (p : Nat → Bool) (t : Tbl α) (h : p n = true) : tget (t.filter fun e => p e.1) n = tget t n := by
  induction t with
  | nil => rfl
  | cons e t ih =>
    obtain ⟨i, a⟩ := e
    by_cases hi : i = n
    · simp [hi, h, tget]
    · by_cases hp : p i <;> simp [hi, hp, tget, ih]

/-- All sources but those of the block queues' Watermarks. -/
theorem irqGet_still (h : qwmSource n = false) : irqGet (still s) n = irqGet s n := by
  have e : tget (s.irq.src.filter fun e => !qwmSource e.1) n = tget s.irq.src n := tget_filter (fun k => !qwmSource k) _ (by simp [h])
  simp only [irqGet, still, tgetD, e]

theorem still_withSrc_nil (s : State) : still (withSrc [] s) = withSrc [] (still s) := rfl

/-- The state after a write of GS_IRQ_PENDk with assertions in its cycle. -/
def pendCleared (k : Nat) (mask same : W32) (s : State) : State := assertMask k same (wrote (irqPendWrite k mask s))

theorem pendCleared_masked (k : Nat) (mask same : W32) : pendCleared k mask same s =
    changeMasked raised k same (List.range 32) (wrote (changeMasked cleared k mask (List.range 32) s)) := by
  rw [pendCleared, assertMask_eq, irqPendWrite_eq]

theorem pendCleared_eq (k : Nat) (mask same : W32) : ∃ x, pendCleared k mask same s = withSrc x (wrote s) := by
  rw [pendCleared_masked]
  obtain ⟨x, hx⟩ := changeMasked_eq (g := cleared) (k := k) (m := mask) (l := List.range 32) (s := s)
  obtain ⟨y, hy⟩ := changeMasked_eq (g := raised) (k := k) (m := same) (l := List.range 32) (s := wrote (withSrc x s))
  rw [hx, hy]
  exact ⟨y, rfl⟩

theorem irqGet_wrote (s : State) (n : Nat) : irqGet (wrote s) n = irqGet s n := rfl

theorem irqGet_pendCleared_out {mask same : W32} (h : ¬(32 * k ≤ n ∧ n < 32 * k + 32)) :
    irqGet (pendCleared k mask same s) n = irqGet s n := by
  have hn : ∀ i ∈ List.range 32, n ≠ 32 * k + i := fun i hi => by
    have := List.mem_range.mp hi
    omega
  rw [pendCleared_masked, irqGet_changeMasked_out hn, irqGet_wrote, irqGet_changeMasked_out hn]

/-- A PENDING bit is cleared where a 1 is written and set where the source is asserted, and an assertion alone counts. -/
theorem irqGet_pendCleared {mask same : W32} (hi : i < 32) (hr : irqReserved (32 * k + i) = false) :
    irqGet (pendCleared k mask same s) (32 * k + i) = { irqGet s (32 * k + i) with
      pending := same.getLsbD i || ((irqGet s (32 * k + i)).pending && !mask.getLsbD i)
      count := if same.getLsbD i then satInc 255 (irqGet s (32 * k + i)).count else (irqGet s (32 * k + i)).count } := by
  have hm := List.mem_range.mpr hi
  rw [pendCleared_masked, irqGet_changeMasked List.nodup_range hm hr, irqGet_wrote, irqGet_changeMasked List.nodup_range hm hr]
  cases same.getLsbD i <;> cases mask.getLsbD i <;> simp [raised, cleared]

theorem irqPendingClear_served (h : served acc s = true) {k : Fin 8} {mask same : W32} :
    whenPower (fun s => assertMask k.val same (regWrite acc (0x1E40 + 4 * k.val) mask.toNat s)) (tick s) =
      pendCleared k.val mask same (tick s) := by
  rw [whenPower_served _ h, regWrite_served h (regVal_irqPend _ k), regPut_irqPend, BitVec.ofNat_toNat, BitVec.setWidth_eq]
  rfl

end

/-- Settles O29: the access runs in its cycle and the assertion of the same cycle follows it, so that none is lost. -/
theorem interruptCommandsComplete : Obligations.InterruptCommandsComplete := by
  unfold Obligations.InterruptCommandsComplete
  refine ⟨?_, ?_, ?_, ?_, ?_⟩
  · intro acc p same s n r h hs hn
    refine cycle_settles (f := whenPower (claimRow acc p.val same)) ?_ (served_parts h).rest ⟨rfl, rfl, rfl⟩
    rw [whenPower_served _ h, claimRow_some h same hs]
    cases same
    · exact claimedBy_some hs
    · exact assertSource_claimedBy hs hn
  · intro acc p same s h hs
    refine cycle_settles (f := whenPower (claimRow acc p.val same)) ?_ (served_parts h).rest ⟨rfl, rfl, rfl⟩
    rw [whenPower_served _ h, claimRow_none h same hs]
    exact claimedBy_none hs
  · intro acc n same s h hn
    exact cycle_settles (f := whenPower (setRow acc n same)) (irqSet_served h hn) (served_parts h).rest ⟨rfl, rfl, rfl⟩
  · intro acc n same s h hn
    exact cycle_settles (f := whenPower (setRow acc n same)) (irqSet_reserved h hn) (served_parts h).rest ⟨rfl, rfl, rfl⟩
  · intro acc k mask same s h
    obtain ⟨x, hx⟩ := pendCleared_eq (s := tick s) k.val mask same
    have hu : Undisturbed (tick s) (pendCleared k.val mask same (tick s)) := by
      rw [hx]
      exact ⟨rfl, rfl, rfl⟩
    obtain ⟨u, hn, hs⟩ := cycle_settles (irqPendingClear_served h) (served_parts h).rest hu
    have hi : ∀ n, qwmSource n = false → irqGet u n = irqGet (pendCleared k.val mask same (tick s)) n := fun n hq => by
      rw [← irqGet_still hq, hs, irqGet_still hq]
    refine ⟨u, hn, ?_, fun n ho hq => (hi n hq).trans (irqGet_pendCleared_out ho), fun i hl hq hr =>
      (hi _ hq).trans (irqGet_pendCleared hl hr)⟩
    have e := congrArg (withSrc []) hs
    rwa [hx] at e

end Sys2Proof.Proofs.Interrupts
end

section
/-! Start-up (18). First the resets (16 R373; 18 R410; 21 R466). -/

namespace Sys2Proof.Proofs.StartUp

open Sys2Proof Sys2Proof.Machine Sys2Proof.Laws Sys2Proof.Proofs.Organisation Sys2Proof.Proofs.Watches

/-! ## A reset in its cycle -/

section

variable {s t : State}

/-- A reset that leaves nothing waiting: `still` shows what it leaves. -/
theorem boot_settles {f : State → State} (ht : f (tick s) = t) (hr : rest t = true) (hp : t.pending = s.pending) :
    ∃ u, (.next (bootCycle f s) : Host.Outcome State Fault Refusal) = .next u ∧ still u = still t := by
  subst ht
  refine ⟨_, rfl, ?_⟩
  have e : still (bootCycle f s) = { still (f (tick s)) with pending := s.pending, kt := (f (tick s)).kt } :=
    still_putBack _ _ (still_settle false hr)
  rw [e, ← hp]
  rfl

/-- What outlives a reset of a die at whose ports no flit waits. -/
def outlived (s : State) : State :=
  { State.reset with
    pending := s.pending, clk := s.clk
    regp := { State.reset.regp with stalled := s.regp.stalled }
    pins := { State.reset.pins with coolantLossN := s.pins.coolantLossN, droop := s.pins.droop }
    pwr := { State.reset.pwr with droopSeen := s.pins.droop } }

theorem keepOutside_reset (h : s.hb.ports = []) : keepOutside s {} = outlived s := by
  unfold keepOutside
  rw [h]
  rfl

theorem porst_idle (x : Bool) (h : s.hb.ports = []) : porst x s = { outlived s with
    sec := { State.reset.sec with st := if x then .sealed_ else .virgin }
    boot := { State.reset.boot with phase := .selftest }
    pins := { (outlived s).pins with gclkReq := true } } := by
  unfold porst
  rw [keepOutside_reset h]
  rfl

theorem supplyFails_idle (h : s.hb.ports = []) :
    supplyFails s = { outlived s with pwr := { (outlived s).pwr with off := true } } := by
  unfold supplyFails
  rw [keepOutside_reset h]

/-- A pinned stream after WARM_RST_N. -/
def repinned (t : Stream) : Stream := { eth := t.eth, idx := t.idx, peer := t.peer, pinned := true }

/-- What WARM_RST_N keeps beside that, Felt's part aside. -/
def warmed (s : State) : State :=
  { outlived s with
    ag := { State.reset.ag with inc := incAll s.ag.inc }
    kt := { State.reset.kt with bad := s.kt.bad }
    couch := { State.reset.couch with takers := s.couch.takers, steppedDown := s.couch.steppedDown, taken := s.couch.taken }
    vat := { State.reset.vat with lostHolders := s.vat.lostHolders }
    res := { State.reset.res with
      lr := s.res.lr, failed := s.res.failed, stuck := s.res.stuck.filter (fun e => e.1 == 2) }
    cal := { s.cal with ppsAlign := false, ppsoEn := false, asymD2d := 0, asymEth := 0, cmdBusy := false, cmdErr := 0 }
    aon := s.aon
    pwr := { (outlived s).pwr with warnDeb := s.pwr.warnDeb }
    sec := { s.sec with token := none, spoiled := false, lastres := 0 }
    boot := { State.reset.boot with phase := .selftest, warm := true, resetTime := now s, writes := s.boot.writes }
    pins := { (outlived s).pins with gclkReq := true, logfailN := s.pins.logfailN } }

theorem warmReset_idle (h : s.hb.ports = []) (hs : s.sec.st ≠ .openAuth) : warmReset s =
    withFelt { State.reset.felt with session := s.felt.session, streams := (s.felt.streams.filter (·.pinned)).map repinned }
      (warmed s) := by
  have e : endUnlock 5 s = s := if_pos hs
  unfold warmReset
  simp only [e, keepOutside_reset h]
  rfl

/-- A stream that WARM_RST_N keeps owes its peer no CLOSE. -/
theorem rest_warmed (n : BitVec 16) (l : List Stream) :
    rest (withFelt { State.reset.felt with session := n, streams := l.map repinned } (warmed s)) = true := by
  have h : (l.map repinned).all (fun t => !(t.closeOwed && t.unacked.isEmpty)) = true := by simp [repinned]
  exact rest_withFelt rfl h

end

/-- Settles O41: a reset leaves nothing waiting, whatever it finds. -/
theorem resetsComplete : Obligations.ResetsComplete := by
  unfold Obligations.ResetsComplete
  refine ⟨?_, ?_, ?_⟩
  · intro x s h
    exact boot_settles (porst_idle (s := tick s) x h) rfl rfl
  · intro s h ha hs
    obtain ⟨u, hn, hst⟩ := boot_settles ((whenOn_alive _ ha).trans (warmReset_idle (s := tick s) h hs)) (rest_warmed _ _) rfl
    exact ⟨u, hn, hst⟩
  · intro s h
    exact boot_settles (supplyFails_idle (s := tick s) h) rfl rfl

/-! ## The phases of start-up (18 R411-R415, R421) -/

section

variable {s : State}

/-- Of the boot unit `rest` sees the flash's queue and the phase LINKS, and of the pins nothing. -/
theorem undisturbed_boot (b : Boot) (x : Pins) (h : rest s = true) (hf : flashIdle { s with boot := b } = true)
    (hl : b.phase ≠ .links) : Undisturbed s { s with boot := b, pins := x } := by
  refine ⟨Eq.trans ?_ h.symm, rfl, rfl⟩
  simp only [rest, Bool.and_eq_true] at h ⊢
  obtain ⟨⟨⟨⟨⟨⟨⟨⟨head, felt⟩, step⟩, passes⟩, brace⟩, dump⟩, clearing⟩, -⟩, -⟩ := h
  exact ⟨⟨⟨⟨⟨⟨⟨⟨head, felt⟩, step⟩, passes⟩, brace⟩, dump⟩, clearing⟩, hf⟩, bne_iff_ne.mpr hl⟩

/-- Start-up goes on to a phase that is not LINKS. -/
theorem undisturbed_phase (b : Boot) (x : Pins) (h : rest s = true) (hq : b.flashq = s.boot.flashq) (hl : b.phase ≠ .links) :
    Undisturbed s { s with boot := b, pins := x } := by
  refine undisturbed_boot b x h ?_ hl
  have hf := (resting h).flash
  simp only [flashIdle, hq]
  exact hf

theorem undisturbed_bootFail {e p : Nat} (h : rest s = true) : Undisturbed s (bootFail e p s) :=
  undisturbed_phase _ _ h rfl (show Phase.failed ≠ Phase.links by decide)

/-- The phase after a SELFTEST that passes (17 R400). -/
def testedPhase (s : State) : Phase := if s.sec.st = .virgin then .held else .discover

theorem testedPhase_ne (s : State) : testedPhase s ≠ .links := by
  unfold testedPhase
  split_ifs <;> decide

/-- The state in another phase of start-up. -/
def inPhase (p : Phase) (s : State) : State := { s with boot := { s.boot with phase := p } }

theorem selftest_passes (hp : s.boot.phase = .selftest) (hs : s.regp.stalled = []) :
    selftest true s = inPhase (testedPhase s) s :=
  (if_neg (not_not_intro hp)).trans (regDrain_none (s := inPhase (testedPhase s) s) hs)

theorem selftest_fails (hp : s.boot.phase = .selftest) (hs : s.regp.stalled = []) : selftest false s = bootFail 1 0 s :=
  (if_neg (not_not_intro hp)).trans (regDrain_none (s := bootFail 1 0 s) hs)

/-- What DISCOVER finds of a flash with its signature and parameter table. -/
def discovered (f : Sfdp) (s : State) : State :=
  { s with boot := { s.boot with
      phase := .verify, mode114 := f.fast114 && f.quadReq, addr4 := f.addr4only, flash := some f, eraseSize := smallestErase f.erase } }

theorem discover_finds {f : Sfdp} (hp : s.boot.phase = .discover) :
    discover f s = if f.signature = 0x50444653 ∧ f.bfpt = true then discovered f s else bootFail 2 0 s := by
  have h : (f.signature ≠ 0x50444653 ∨ (!f.bfpt) = true) ↔ ¬(f.signature = 0x50444653 ∧ f.bfpt = true) := by
    rw [not_and_or, Bool.not_eq_true', Bool.not_eq_true]
  unfold discover
  rw [if_neg (not_not_intro hp)]
  by_cases g : f.signature = 0x50444653 ∧ f.bfpt = true
  · rw [if_pos g, if_neg (fun e => h.mp e g)]
    rfl
  · rw [if_neg g, if_pos (h.mpr g)]

/-- The header is one that keeps its format, signed by the key that it names. -/
def headerSigned (h : BitVec 5120) : Bool :=
  Config.ecdsaP384 (h.extractLsb' 3584 768) (Config.sha384 544 (h.toNat % 2 ^ 4352)) (h.extractLsb' 4352 768)

theorem verifyHeader_format {h : BitVec 5120} (hp : s.boot.phase = .verify) (hd : readHeader s.boot.eraseSize h = none) :
    verifyHeader h s = bootFail 3 0 s := by
  unfold verifyHeader
  rw [if_neg (not_not_intro hp), hd]

theorem verifyHeader_keys {h : BitVec 5120} {d : Header} (hp : s.boot.phase = .verify)
    (hd : readHeader s.boot.eraseSize h = some d) : verifyHeader h s =
      if Config.sha384 96 (h.extractLsb' 3584 768).toNat ≠ Config.rootKeyHash then bootFail 4 0 s
      else if headerSigned h then { s with boot := { s.boot with phase := .load, header := some d } }
      else bootFail 5 0 s := by
  have e : verifyHeader h s = if Config.sha384 96 (h.extractLsb' 3584 768).toNat ≠ Config.rootKeyHash then bootFail 4 0 s
      else if !headerSigned h then bootFail 5 0 s
      else { s with boot := { s.boot with phase := .load, header := some d } } := by
    unfold verifyHeader
    rw [if_neg (not_not_intro hp), hd]
    rfl
  rw [e]
  cases headerSigned h <;> rfl

/-- The die in RUN after LINKWAIT, the start of the step unit owed or not. -/
def linkwaited (owed : Bool) (s : State) : State :=
  { s with
    boot := { s.boot with
      phase := .run, linkto := true, stepEnOwed := owed, bubEnOwed := false
      us := BitVec.ofNat 32 ((now s - s.boot.resetTime).toNat / 8000) }
    pwr := { s.pwr with bubEn := s.pwr.bubEn || s.boot.bubEnOwed }
    felt := { s.felt with streams := s.felt.streams.map (fun t => { t with syncs := 0 }) } }

theorem linkwaitEnd_links (hp : s.boot.phase = .links) (hs : s.boot.stepEnOwed = false) :
    linkwaitEnd s = linkwaited s.boot.stepEnOwed s :=
  have hn : ¬ s.boot.stepEnOwed = true := by simp [hs]
  (if_pos hp).trans ((if_neg hn).trans (congrArg (fun b => linkwaited b s) hs.symm))

theorem rest_linkwaited (h : rest (inPhase .run s) = true) : rest (linkwaited s.boot.stepEnOwed s) = true := by
  have q := resting h
  have hr : rest { inPhase .run s with boot := (linkwaited s.boot.stepEnOwed s).boot, pwr := (linkwaited s.boot.stepEnOwed s).pwr } = true :=
    h
  refine rest_withFelt (l := (linkwaited s.boot.stepEnOwed s).felt) hr ?_
  have hc : ∀ t ∈ (linkwaited s.boot.stepEnOwed s).felt.streams, (t.closeOwed && t.unacked.isEmpty) = false := by
    intro t ht
    obtain ⟨u, hu, rfl⟩ := List.mem_map.mp ht
    exact q.closes u hu
  simp only [feltEmpty, Bool.and_eq_true, List.all_eq_true, Bool.not_eq_true', List.isEmpty_iff, Option.isNone_iff_eq_none]
  exact ⟨⟨⟨⟨⟨q.rx, q.txq⟩, q.loop⟩, q.returned⟩, q.owed⟩, hc⟩

end

/-- Settles O42: each phase ends in the next or in FAILED, by the branch that its check takes, and leaves nothing waiting. -/
theorem startUpCompletes : Obligations.StartUpCompletes := by
  unfold Obligations.StartUpCompletes
  refine ⟨?_, ?_, ?_, ?_⟩
  · intro x s hr ha hp hs
    cases x
    · exact cycle_settles ((whenOn_alive _ ha).trans (selftest_fails (s := tick s) hp hs)) hr (undisturbed_bootFail (s := tick s) hr)
    · exact cycle_settles ((whenOn_alive _ ha).trans (selftest_passes (s := tick s) hp hs)) hr
        (undisturbed_phase (s := tick s) _ _ hr rfl (testedPhase_ne s))
  · intro f s hr ha hp
    refine cycle_settles ((whenOn_alive _ ha).trans (discover_finds (s := tick s) hp)) hr ?_
    split_ifs
    · exact undisturbed_phase (s := tick s) _ _ hr rfl (show Phase.verify ≠ Phase.links by decide)
    · exact undisturbed_bootFail (s := tick s) hr
  · intro h s key hr ha hp
    cases hd : readHeader s.boot.eraseSize h with
    | none =>
      exact cycle_settles ((whenOn_alive _ ha).trans (verifyHeader_format (s := tick s) hp hd)) hr
        (undisturbed_bootFail (s := tick s) hr)
    | some d =>
      refine cycle_settles ((whenOn_alive _ ha).trans (verifyHeader_keys (s := tick s) hp hd)) hr ?_
      split_ifs
      · exact undisturbed_bootFail (s := tick s) hr
      · exact undisturbed_phase (s := tick s) _ _ hr rfl (show Phase.load ≠ Phase.links by decide)
      · exact undisturbed_bootFail (s := tick s) hr
  · intro s hr ho hp hs
    have ha : alive s = true := by simp [alive, ho, hp]
    have e : whenOn linkwaitEnd (tick s) = linkwaited s.boot.stepEnOwed (tick s) :=
      (whenOn_alive _ ha).trans (linkwaitEnd_links (s := tick s) hp hs)
    have hl : rest (whenOn linkwaitEnd (tick s)) = true := e ▸ rest_linkwaited (s := tick s) hr
    refine ⟨_, rfl, ?_⟩
    rw [still_inCycle_same _ s hl (by rw [e]; rfl) (by rw [e]; rfl), e]
    rfl

end Sys2Proof.Proofs.StartUp
end

section
/-! BRACE (16 R379-R383): its begin, its summary and its end. -/

namespace Sys2Proof.Proofs.Brace

open Sys2Proof.Machine Sys2Proof.Laws Sys2Proof.Proofs.Organisation Sys2Proof.Proofs.Streams

section

variable {s : State}

/-- Nothing waits for a change of power or a request to MEMP while no quire is open, the die is awake and the write of no dump
joins the line. -/
theorem undisturbed_braced (p : Power) (m : Memp) (h : rest s = true) (hb : braceIdle { s with pwr := p } = true)
    (hp : s.pwr.st = .sleep → p.st = .sleep ∨ s.boot.flashq = [])
    (hm : dumpOut { s with memp := m } = dumpOut s) : Undisturbed s { s with pwr := p, memp := m } := by
  refine ⟨Eq.trans ?_ h.symm, rfl, rfl⟩
  have hd : dumpDue { s with pwr := p, memp := m } = dumpDue s := by
    have e : dumpOut { s with pwr := p, memp := m } = dumpOut s := hm
    unfold dumpDue
    rw [e]
    rfl
  simp only [rest, hd, Bool.and_eq_true] at h ⊢
  obtain ⟨⟨⟨⟨⟨⟨⟨⟨head, felt⟩, step⟩, passes⟩, -⟩, dump⟩, clearing⟩, flash⟩, links⟩ := h
  exact ⟨⟨⟨⟨⟨⟨⟨⟨head, felt⟩, step⟩, passes⟩, hb⟩, dump⟩, clearing⟩, flashIdle_power p flash hp⟩, links⟩

/-- The power unit in the first cycle of BRACE (R380 step 1). -/
def bracing (s : State) : Power :=
  { s.pwr with
    st := .brace, warnDeb := true, bracePrev := .active, braceTime := now s, bphase := .bracing, braceOwed := false
    braceAborts := 0, braceCommits := 0, braceAborts3 := 0 }

/-- The episode begins on an ACTIVE die without streams. -/
theorem braceBegin_active (ha : s.pwr.st = .active) (hw : s.pwr.warnDeb = true) (hf : s.felt.streams = []) :
    braceBegin s = { s with pwr := bracing s } := by
  let v (b : PwrState) : State := modPwr (fun p => { p with
    bracePrev := b, braceTime := now s, bphase := .bracing, braceOwed := false
    braceAborts := 0, braceCommits := 0, braceAborts3 := 0 }) s
  let w (b : PwrState) (i : Bool) : State := { s with pwr := { bracing s with bracePrev := b, warnDeb := i } }
  calc braceBegin s = setPower .brace (v s.pwr.st) := rfl
    _ = w s.pwr.st s.pwr.warnDeb := setPower_alone (s := v s.pwr.st) .brace hf
    _ = w .active true := congrArg₂ w ha hw

/-- An edge outside SLEEP and DOZE asserts the source of its latch. -/
theorem latchEdge_active {n : Nat} {always : Bool} (ha : s.pwr.st = .active) : latchEdge n always s = assertSource n s := by
  have hw : wakeDoze s = s := if_neg (by simp [ha])
  simp [latchEdge, ha, hw]

/-- A source is asserted beside the power unit. -/
theorem assertSource_pwr (n : Nat) (p : Power) :
    assertSource n { s with pwr := p } = { assertSource n s with pwr := p } := by
  unfold assertSource
  split_ifs <;> rfl

theorem pwrWarnAssert_begins (ha : s.pwr.st = .active) (hf : s.felt.streams = []) (hv : s.sec.st ≠ .virgin)
    (hw : s.pwr.warnDeb = false) (hb : s.pwr.bphase = .none) :
    pwrWarnAssert s = assertSource 0x22 { s with pwr := bracing s } := by
  let w := assertSource 0x22 s
  let p : Power := { s.pwr with warnDeb := true }
  have hl : latchEdge 0x22 true (modPwr (fun p => { p with warnDeb := true }) s) = { w with pwr := p } :=
    (latchEdge_active (s := { s with pwr := p }) ha).trans (assertSource_pwr 0x22 p)
  unfold pwrWarnAssert
  rw [hl, assertSource_pwr]
  have hv' : ¬ { w with pwr := p }.sec.st = .virgin := hv
  have hb' : ¬ { w with pwr := p }.pwr.bphase ≠ .none := not_not_intro hb
  have hs' : ¬ { w with pwr := p }.pwr.st = .sleep := by simp [p, ha]
  rw [if_neg (by simp [hw])]
  simp only [hv', hb', hs', if_false]
  exact braceBegin_active (s := { w with pwr := p }) ha rfl hf

/-- The request that writes the summary (R382). -/
def summaryAsk (s : State) : MReq :=
  { use := .summary, wr := true, size := 2, addr := s.pwr.braceBase ++ (0 : BitVec 6), data := braceSummary s }

/-- The die is BRACED and its summary asked for. -/
def summed (s : State) : State :=
  { s with pwr := { s.pwr with bphase := .braced }, memp := { s.memp with waiting := s.memp.waiting ++ [summaryAsk s] } }

/-- What is logged does not depend on the power unit. -/
theorem logWrite_pwr {c : Nat} {i : Bool} {x : W32} {d e : W64} (p : Power) :
    logWrite c i x d e { s with pwr := p } = { logWrite c i x d e s with pwr := p } := by
  unfold logWrite
  simp only
  split_ifs <;> rfl

theorem logWrite_parts {c : Nat} {i : Bool} {x : W32} {d e : W64} : (logWrite c i x d e s).pwr = s.pwr := by
  unfold logWrite
  simp only
  split_ifs <;> rfl

theorem assertSource_parts {n : Nat} : (assertSource n s).pwr = s.pwr := by
  unfold assertSource
  split_ifs <;> rfl

/-- The quires are drained while PWR_WARN stays asserted. -/
theorem braced_drained (hb : s.pwr.bphase = .bracing) (hd : braceDrained s = true) (hw : s.pwr.warnDeb = true) :
    braced s = assertSource 0x24 (logWrite 0x15 true 0
      (BitVec.ofNat 64 (s.pwr.braceAborts.toNat + 2 ^ 16 * s.pwr.braceCommits.toNat)) (BitVec.ofNat 64 (pendDescs s)) (summed s)) := by
  let v := mempAsk (summaryAsk s) s
  let log := logWrite 0x15 true 0 (BitVec.ofNat 64 (s.pwr.braceAborts.toNat + 2 ^ 16 * s.pwr.braceCommits.toNat))
    (BitVec.ofNat 64 (pendDescs s))
  have hv : modPwr (fun p => { p with bphase := .braced }) (log v) = log (summed s) := by
    have e : (log v).pwr = s.pwr := logWrite_parts
    exact (congrArg (fun q : Power => { log v with pwr := { q with bphase := .braced } }) e).trans (logWrite_pwr (s := v) _).symm
  have hd' : ¬ (s.pwr.bphase ≠ .bracing ∨ (!braceDrained s) = true) := by simp [hb, hd]
  have e : braced s = if (assertSource 0x24 (modPwr (fun p => { p with bphase := .braced }) (log v))).pwr.warnDeb
      then assertSource 0x24 (modPwr (fun p => { p with bphase := .braced }) (log v))
      else unbrace (assertSource 0x24 (modPwr (fun p => { p with bphase := .braced }) (log v))) := if_neg hd'
  have hx : (assertSource 0x24 (log (summed s))).pwr.warnDeb = true := by
    rw [assertSource_parts, logWrite_parts]
    exact hw
  rw [e, hv]
  exact if_pos hx

/-- The summary is no write of a dump. -/
theorem dumpOut_summed : dumpOut { s with memp := (summed s).memp } = dumpOut s := by
  have h : (summaryAsk s).use ≠ .dump s.dump.gen := nofun
  simp [dumpOut, summed, List.filter_append, h]

/-- The end of BRACE on a die without streams (R383). -/
theorem unbrace_alone (hf : s.felt.streams = []) : unbrace s =
    logEvent 0x16 (some 0x24) 0 (BitVec.ofNat 64 ((now s - s.pwr.braceTime).toNat / 8000)) (BitVec.ofNat 64 s.pwr.warns)
      { s with pwr := { s.pwr with st := .active, bphase := .none } } := by
  have e := setPower_alone (s := modPwr (fun p => { p with bphase := .none }) s) .active hf
  exact congrArg (fun u => logEvent 0x16 (some 0x24) 0 (BitVec.ofNat 64 ((now s - s.pwr.braceTime).toNat / 8000))
    (BitVec.ofNat 64 u.pwr.warns) u) e

theorem pwrWarnDeassert_braced (hf : s.felt.streams = []) (hs : s.pwr.st = .brace) (hb : s.pwr.bphase = .braced) :
    pwrWarnDeassert s =
      logEvent 0x16 (some 0x24) 0 (BitVec.ofNat 64 ((now s - s.pwr.braceTime).toNat / 8000)) (BitVec.ofNat 64 s.pwr.warns)
        { s with pwr := { s.pwr with st := .active, bphase := .none, warnDeb := false } } := by
  have hw : wakeDoze s = s := if_neg (by simp [hs])
  unfold pwrWarnDeassert
  rw [hw]
  exact (if_pos hb).trans (unbrace_alone (s := modPwr (fun p => { p with warnDeb := false }) s) hf)

/-- Effects without GCLK come while it runs. -/
theorem gclkOn_alive (h : gclkOn s = true) : alive s = true := by
  simp only [gclkOn, alive, Bool.and_eq_true] at h ⊢
  tauto

end

/-- Settles O35: each edge moves the power unit, logs and asserts its source; a die without an open quire has nothing to end. -/
theorem braceCompletes : Obligations.BraceCompletes := by
  unfold Obligations.BraceCompletes
  refine ⟨?_, ?_, ?_⟩
  · intro s hr hg hf hq hv hw hb
    have k := running_parts hg
    have hi : braceIdle { tick s with pwr := bracing (tick s) } = true := by simp [braceIdle, tick, hq]
    have hs : (tick s).pwr.st = .sleep → (bracing (tick s)).st = .sleep ∨ (tick s).boot.flashq = [] := fun e =>
      absurd (k.active.symm.trans e) (by decide)
    exact cycle_settles (f := whenOn pwrWarnAssert) ((whenOn_alive _ (alive_of_running hg)).trans
      (pwrWarnAssert_begins (s := tick s) k.active hf hv hw hb)) hr
      ((undisturbed_braced (s := tick s) _ s.memp hr hi hs rfl).trans (undisturbed_assertSource _ _))
  · intro s hr hg hb hd hw
    have hu : Undisturbed (tick s) (summed (tick s)) :=
      undisturbed_braced (s := tick s) _ _ hr rfl Or.inl dumpOut_summed
    exact cycle_settles (f := whenOn braced) ((whenOn_alive _ (gclkOn_alive hg)).trans
      (braced_drained (s := tick s) hb hd hw)) hr
      ((hu.trans (undisturbed_logWrite _ _ _ _ _ _)).trans (undisturbed_assertSource _ _))
  · intro s hr hg hf hs hb
    have hn : (tick s).pwr.st = .sleep → PwrState.active = .sleep ∨ (tick s).boot.flashq = [] := fun e =>
      absurd (hs.symm.trans e) (by decide)
    have hu : Undisturbed (tick s) { tick s with pwr := { s.pwr with st := .active, bphase := .none, warnDeb := false } } :=
      undisturbed_braced (s := tick s) _ s.memp hr rfl hn rfl
    exact cycle_settles (f := whenOn pwrWarnDeassert) ((whenOn_alive _ (gclkOn_alive hg)).trans
      (pwrWarnDeassert_braced (s := tick s) hf hs hb)) hr
      ((hu.trans (undisturbed_logWrite _ _ _ _ _ _)).trans (undisturbed_assertSource _ _))

end Sys2Proof.Proofs.Brace
end

section
/-! Temperature, droop, REFCLK and the per-agent counters (14 R334, R350; 16 R393-R398). -/

namespace Sys2Proof.Proofs.Sensors

open Sys2Proof.Machine Sys2Proof.Laws Sys2Proof.Proofs.Organisation Sys2Proof.Proofs.Streams Sys2Proof.Proofs.Brace

section

variable {s : State}

/-! ## Temperature (16 R396, R398) -/

/-- A sample is recorded. -/
def sampled (t : Byte) (s : State) : State :=
  modPwr (fun p => { p with temp := t, peak := if p.peak.toInt < t.toInt then t else p.peak }) s

theorem undisturbed_sampled {t : Byte} : Undisturbed s (sampled t s) := ⟨rfl, rfl, rfl⟩

theorem thermalSample_below {t : Byte} (hh : t.toInt < s.pwr.thalt.toInt)
    (ht : t.toInt < s.pwr.ttrip.toInt ∨ s.step.en = false) : thermalSample t s = sampled t s := by
  have hh' : ¬ (sampled t s).pwr.thalt.toInt ≤ t.toInt := not_le.mpr hh
  have ht' : ¬ ((sampled t s).pwr.ttrip.toInt ≤ t.toInt ∧ (sampled t s).step.en = true) := by
    rintro ⟨h, he⟩
    exact ht.elim (not_lt.mpr h) (fun e => Bool.noConfusion (e.symm.trans he))
  have e : (if (sampled t s).pwr.thalt.toInt ≤ t.toInt then haltOwn 3 false (sampled t s) else sampled t s) = sampled t s := if_neg hh'
  unfold thermalSample
  exact (congrArg (fun u => if u.pwr.ttrip.toInt ≤ t.toInt ∧ u.step.en = true
    then stepTry (modStep (fun u => { u with tripDue := true }) (wakeDoze u)) else u) e).trans (if_neg ht')

/-- The halt temperature halts the die as a cause of its own; no step unit trips. -/
theorem thermalSample_halts {t : Byte} (ha : s.pwr.st = .active) (hh : s.pwr.halted = false) (hf : s.felt.streams = [])
    (hq : s.qu.recs = []) (ht : s.pwr.thalt.toInt ≤ t.toInt) (he : s.step.en = false) : thermalSample t s =
      logEvent 0x14 none ((myDie s).setWidth 32) 3 0 (haltedBy (myDie s) 3 (now s) (sampled t s)) := by
  let v := logEvent 0x14 none ((myDie s).setWidth 32) 3 0 (haltedBy (myDie s) 3 (now s) (sampled t s))
  have hw : wakeDoze (sampled t s) = sampled t s := if_neg (by simp [sampled, ha])
  have hn : (sampled t s).pwr.st ≠ .sleep := by simp [sampled, ha]
  have e : (if (sampled t s).pwr.thalt.toInt ≤ t.toInt then haltOwn 3 false (sampled t s) else sampled t s) = v :=
    (if_pos ht).trans (haltOwn_alone hn hw hh hf hq)
  have hv : ¬ (v.pwr.ttrip.toInt ≤ t.toInt ∧ v.step.en = true) := by
    have hs : v.step.en = s.step.en := by
      simp only [v, logEvent_unsourced]
      rfl
    simp [hs, he]
  unfold thermalSample
  exact (congrArg (fun u => if u.pwr.ttrip.toInt ≤ t.toInt ∧ u.step.en = true
    then stepTry (modStep (fun u => { u with tripDue := true }) (wakeDoze u)) else u) e).trans (if_neg hv)

/-! ## Droop (16 R393, R394) -/

/-- The bubble offered to an agent of the die. -/
def bubble (s : State) (v : BitVec 3) (i : Nat) : EgFlit := { f := bubbleFlit s v i, prio := 0, built := s.clk.cycle }

/-- The bubbles of a round join the line in the order of their agents. -/
theorem foldl_push_bubbles (v : BitVec 3) (l : List Nat) : ∀ s : State,
    l.foldl (fun s i => push 0 (bubbleFlit s v i) none s) s =
      { s with eg := { s.eg with queue := s.eg.queue ++ l.map (bubble s v) } } := by
  induction l with
  | nil => simp
  | cons i l ih =>
    intro s
    have e : bubble (push 0 (bubbleFlit s v i) none s) v = bubble s v := rfl
    rw [List.foldl_cons, ih, e, push_eg, List.map_cons, ← List.append_cons]
    rfl

/-- A round of bubbles of level `v`. -/
def bubbled (v : BitVec 3) (s : State) : State :=
  { s with
    pins := { s.pins with droop := v }
    pwr := { s.pwr with droopSeen := v, bubLevel := v }
    eg := { s.eg with queue := s.eg.queue.filter (fun f => !isBubble f) ++ (bubbleAgents s).map (bubble s v) } }

theorem droopChange_bubbles {v : BitVec 3} (hg : gclkOn s = true) (hb : s.pwr.bubEn = true) (hv : v ≠ s.pwr.droopSeen) :
    droopChange v s = bubbled v s := by
  let w : State := modPins (fun p => { p with droop := v }) s
  let x : State := { w with
    pwr := { s.pwr with droopSeen := v, bubLevel := v }, eg := { s.eg with queue := s.eg.queue.filter (fun f => !isBubble f) } }
  have hn : ¬ s.pwr.bubEn = false := by simp [hb]
  have hr : droopRound w = (bubbleAgents x).foldl (fun s i => push 0 (bubbleFlit s v i) none s) x := by
    have hd : ¬ w.pwr.droopSeen = w.pins.droop := hv.symm
    have hb' : ¬ (!(modPwr (fun p => { p with droopSeen := v }) w).pwr.bubEn) = true := by simp [w, hb]
    exact (if_neg hd).trans (if_neg hb')
  calc droopChange v s = droopRound (wakeDoze w) := if_neg (sleepless hg)
    _ = droopRound w := congrArg droopRound (wakeDoze_on (s := w) hg)
    _ = bubbled v s := hr.trans (foldl_push_bubbles v _ x)

/-! ## REFCLK (14 R334) -/

/-- TIME after an edge that slews nothing. -/
def edgeTime (s : State) : Nat :=
  ((s.cal.time.toNat * 2 ^ 32 + s.cal.frac.toNat + 320 * 2 ^ 32 + s.cal.rate.toInt) % (2 ^ 96 : Int)).toNat

/-- The Calender after such an edge. -/
def edged (s : State) : State :=
  modCal (fun c => { c with
    time := BitVec.ofNat 64 (edgeTime s / 2 ^ 32), frac := BitVec.ofNat 32 (edgeTime s), p := 0, edges := c.edges + 1 }) s

theorem refclkEdge_unslewed (h : slewNow s = 0) : refclkEdge s = edged s := by
  unfold refclkEdge edged edgeTime
  simp only [h, zero_mul, add_zero, sub_zero]

/-! ## Counters of the agents (14 R350, R351) -/

/-- A fold that changes each of its indices once. -/
theorem tget_foldl_tset {α : Type} (d : α) (g : Nat → α → α) (l : List Nat) (hl : l.Nodup) (j : Nat) : ∀ t : Tbl α,
    tget (l.foldl (fun t i => tset t i (g i (tgetD t i d))) t) j =
      if j ∈ l then some (g j (tgetD t j d)) else tget t j := by
  induction l with
  | nil => simp
  | cons i l ih =>
    intro t
    obtain ⟨hi, hl⟩ := List.nodup_cons.mp hl
    rw [List.foldl_cons, ih hl]
    by_cases e : j = i
    · subst e
      simp [hi]
    · simp [e, tgetD, tget_tset_ne]

theorem dieAgents_nodup : (dieAgents s).Nodup := List.nodup_range.filter _

/-- A tick raises the counter of each agent of the die, and of no other. -/
theorem agentTick_awake (h : gclkOn s = true) : ∃ l, agentTick s = { s with ag := { s.ag with pa := l } } ∧
    ∀ j, tget l j = if j ∈ dieAgents s
      then some ((tgetD s.ag.pa j (List.replicate 8 0)).modify (tickClass s (agentWaits s) j) (· + 1)) else tget s.ag.pa j :=
  ⟨_, if_neg (sleepless h), fun j => tget_foldl_tset (List.replicate 8 0)
    (fun i c => c.modify (tickClass s (agentWaits s) i) (· + 1)) (dieAgents s) dieAgents_nodup j s.ag.pa⟩

end

/-- Settles O37: each command is one effect on the unit it names, and leaves nothing waiting. -/
theorem sensorsComplete : Obligations.SensorsComplete := by
  unfold Obligations.SensorsComplete
  refine ⟨?_, ?_, ?_, ?_, ?_⟩
  · intro t s hr ha hh ht
    exact cycle_settles (f := whenOn (thermalSample t)) ((whenOn_alive _ ha).trans (thermalSample_below (s := tick s) hh ht)) hr
      undisturbed_sampled
  · intro t s hr hg hf hq ht he
    have k := running_parts hg
    exact cycle_settles (f := whenOn (thermalSample t)) ((whenOn_alive _ (alive_of_running hg)).trans
      (thermalSample_halts (s := tick s) k.active k.unhalted hf hq ht he)) hr
      (undisturbed_sampled.trans undisturbed_haltedBy).logEvent
  · intro v s hr hg hb hv
    exact cycle_settles (f := whenOn (droopChange v)) ((whenOn_alive _ (gclkOn_alive hg)).trans
      (droopChange_bubbles (s := tick s) hg hb hv)) hr ⟨rfl, rfl, rfl⟩
  · intro s n hr ha hz
    exact cycle_settles (f := whenOn refclkEdge) (t := edged (tick s)) ((whenOn_alive _ ha).trans
      (refclkEdge_unslewed (s := tick s) hz)) hr ⟨rfl, rfl, rfl⟩
  · intro s hr hg
    obtain ⟨l, ht, hl⟩ := agentTick_awake (s := tick s) hg
    obtain ⟨u, hu, e⟩ := cycle_settles (f := whenOn agentTick) ((whenOn_alive _ (gclkOn_alive hg)).trans ht) hr ⟨rfl, rfl, rfl⟩
    have hp : u.ag.pa = l := congrArg (fun x : State => x.ag.pa) e
    refine ⟨u, hu, congrArg (fun x : State => { x with ag := { x.ag with pa := [] } }) e, ?_, ?_⟩
    · intro i hi
      exact hp ▸ (hl i).trans (if_pos hi)
    · intro i hi
      exact hp ▸ (hl i).trans (if_neg hi)

end Sys2Proof.Proofs.Sensors
end

section
/-! The Calender (14): a stream whose index its clause leaves out. -/

namespace Sys2Proof.Proofs.Calender

open Sys2Proof Sys2Proof.Machine Sys2Proof.Proofs.Messages

/-- Die 1 of a package of two, whose parent in the time tree is die 0; the stream to it is that of D2D link 1. -/
def childDie : State :=
  { runningDie with
    boot := { runningDie.boot with topo := { die := 1, dies := 2, pkgShadow := 1 } }
    felt := { runningDie.felt with streams := [Messages.streamTo 0] } }

/-- The REQ leaves on the link of that stream. -/
theorem childDie_asks : shown (·.felt.wire.map (·.idx)) (exec .tsyncInterval childDie) = some [1] := by
  decide +kernel

/-- Refutes O38, whose first clause puts the frame on the wire with stream index 0: the REQ goes out on the stream to the parent, and on
a stream of another index it carries that index (12 R285, 14 R338). -/
theorem not_calenderCompletes : ¬ Obligations.CalenderCompletes := by
  unfold Obligations.CalenderCompletes
  rintro ⟨h, -⟩
  have claim := h childDie 0 (Messages.streamTo 0)
  iterate 6 specialize claim (by decide +kernel)
  exact absurd (refuted_by_shown claim (fun _ => rfl) childDie_asks) (by decide +kernel)

end Sys2Proof.Proofs.Calender
end

section
/-! The sequencers (18 R426-R430): restart and reload, and the registers of their watchdogs, outboxes and inboxes. -/

namespace Sys2Proof.Proofs.Sequencers

open Sys2Proof Sys2Proof.Machine Sys2Proof.Laws Sys2Proof.Proofs.Scope Sys2Proof.Proofs.Organisation Sys2Proof.Proofs.Watches
open Sys2Proof.Proofs.Contexts Sys2Proof.Proofs.Streams Sys2Proof.Proofs.Interrupts Sys2Proof.Proofs.Brace

section

variable {s v : State} {acc : Acc} {n : Nat} {c : BitVec 4}

/-! ## What an event and a rest see -/

/-- The state with other sequencers and another line at the flash. -/
def withSeqs (q : Seqs) (l : List Nat) (s : State) : State := { s with sq := q, boot := { s.boot with flashq := l } }

section

variable {k : Nat} {o : Option Nat} {x : W32} {d e : W64}

/-- An event touches the log and the sources alone. -/
theorem logEvent_eq : logEvent k o x d e s = { s with res := (logEvent k o x d e s).res, irq := (logEvent k o x d e s).irq } := by
  unfold logEvent logWrite assertSource
  cases o <;> simp only <;> split_ifs <;> rfl

@[simp] theorem logEvent_boot : (logEvent k o x d e s).boot = s.boot := by rw [logEvent_eq]
@[simp] theorem logEvent_regp : (logEvent k o x d e s).regp = s.regp := by rw [logEvent_eq]
@[simp] theorem logEvent_pwr : (logEvent k o x d e s).pwr = s.pwr := by rw [logEvent_eq]

/-- It reads neither the sequencers nor REGP. -/
theorem logEvent_beside (q : Seqs) (l : List Nat) (r : Regp) :
    logEvent k o x d e { s with sq := q, regp := r, boot := { s.boot with flashq := l } } =
      { logEvent k o x d e s with sq := q, regp := r, boot := { s.boot with flashq := l } } := by
  have hw (i : Bool) : logWrite k i x d e { s with sq := q, regp := r, boot := { s.boot with flashq := l } } =
      { logWrite k i x d e s with sq := q, regp := r, boot := { s.boot with flashq := l } } := by
    unfold logWrite
    simp only
    split_ifs <;> rfl
  unfold logEvent
  cases o with
  | none => exact hw false
  | some n =>
    simp only [Option.isSome_some, hw]
    unfold assertSource
    split_ifs <;> rfl

theorem logEvent_withSeqs (q : Seqs) (l : List Nat) :
    logEvent k o x d e (withSeqs q l s) = withSeqs q l (logEvent k o x d e s) := by
  unfold withSeqs
  rw [logEvent_boot]
  exact (logEvent_beside q l s.regp).trans (congrArg (fun r : Regp =>
    { logEvent k o x d e s with sq := q, regp := r, boot := { s.boot with flashq := l } }) logEvent_regp.symm)

end

/-- Nothing waits for the sequencers but one whose turn at the flash has come. -/
theorem undisturbed_seqs (q : Seqs) (l : List Nat) (h : rest s = true) (hf : flashIdle (withSeqs q l s) = true) :
    Undisturbed s (withSeqs q l s) := by
  refine ⟨Eq.trans ?_ h.symm, rfl, rfl⟩
  simp only [rest, Bool.and_eq_true] at h ⊢
  obtain ⟨⟨⟨⟨⟨⟨⟨⟨head, felt⟩, step⟩, passes⟩, brace⟩, dump⟩, clearing⟩, -⟩, links⟩ := h
  exact ⟨⟨⟨⟨⟨⟨⟨⟨head, felt⟩, step⟩, passes⟩, brace⟩, dump⟩, clearing⟩, hf⟩, links⟩

/-- A change of a sequencer that keeps its state leaves the flash with whoever has it. -/
theorem undisturbed_modSq {f : Seqr → Seqr} (n : Nat) (h : rest s = true) (hf : ∀ q, (f q).st = q.st) :
    Undisturbed s (modSq n f s) := by
  have he : ∀ k, (sqAt (modSq n f s) k).st = (sqAt s k).st := fun k => by
    unfold modSq sqAt
    split_ifs <;> simp only [hf]
  have hb : (modSq n f s).boot = s.boot := rfl
  have hp : (modSq n f s).pwr = s.pwr := rfl
  have e : flashIdle (modSq n f s) = flashIdle s := by
    unfold flashIdle
    simp only [hb, hp, he]
  exact undisturbed_seqs _ s.boot.flashq h (e.trans (resting h).flash)

/-! ## Restart (18 R427, R428) -/

/-- The sequencers after the first step of a restart, in the state `p`. -/
def heldSeqs (n : Nat) (c : BitVec 4) (p : SqState) (s : State) : Seqs :=
  { (modSq n (fun q => { q with held := true, cause := c, count := satInc 255 q.count, st := p }) s).sq with
    holdHalt := s.pins.haltOut, holdGrant := s.pins.stepGrant, holdSq := n == 1, holdIrq := s.pins.irq }

/-- The entry of a restart. -/
def restartEntry (n : Nat) (c : BitVec 4) (q : Seqr) (s : State) : State :=
  logEvent 0x17 (some 0x0A) (BitVec.ofNat 32 n) (BitVec.ofNat 64 (c.toNat + 2 ^ 8 * bit q.role))
    (BitVec.ofNat 64 (satInc 255 q.count)) s

theorem restarted_eq : restarted n c s = withSeqs (heldSeqs n c .reload s) [n] (restartEntry n c (sqAt s n) s) :=
  calc restarted n c s = restartEntry n c (sqAt s n) (withSeqs (heldSeqs n c .reload s) [n] s) := rfl
    _ = _ := logEvent_withSeqs _ _

/-- The restart of a sequencer asks for the flash. -/
theorem restartSq_asks (hn : n < 2) (hf : s.boot.flashq = []) :
    restartSq n c s = flashNext (withSeqs (heldSeqs n c .wait s) [n] (restartEntry n c (sqAt s n) s)) := by
  have hl : s.boot.flashq.filter (· != n) ++ [n] = [n] := by rw [hf]; rfl
  have e : restartSq n c s = flashNext (restartEntry n c (sqAt s n)
      (withSeqs (heldSeqs n c .wait s) (s.boot.flashq.filter (· != n) ++ [n]) s)) := by
    obtain rfl | rfl : n = 0 ∨ n = 1 := by omega
    all_goals rfl
  rw [e, hl]
  exact congrArg flashNext (logEvent_withSeqs _ _)

/-- The first in line takes the flash. -/
theorem flashNext_held (hn : n < 2) (hs : v.pwr.st ≠ .sleep) :
    flashNext (withSeqs (heldSeqs n c .wait s) [n] v) = withSeqs (heldSeqs n c .reload s) [n] v := by
  obtain rfl | rfl : n = 0 ∨ n = 1 := by omega
  all_goals exact if_pos ⟨hn, rfl, hs⟩

theorem restartSq_free (hn : n < 2) (hs : s.pwr.st ≠ .sleep) (hf : s.boot.flashq = []) : restartSq n c s = restarted n c s := by
  have hp : (restartEntry n c (sqAt s n) s).pwr.st ≠ .sleep := fun h => hs ((congrArg Power.st logEvent_pwr).symm.trans h)
  rw [restartSq_asks hn hf, flashNext_held hn hp, restarted_eq]

theorem undisturbed_restarted (hn : n < 2) (h : rest s = true) : Undisturbed s (restarted n c s) := by
  have hf : flashIdle (withSeqs (heldSeqs n c .reload s) [n] s) = true := by
    obtain rfl | rfl : n = 0 ∨ n = 1 := by omega
    all_goals rfl
  exact (undisturbed_seqs (heldSeqs n c .reload s) [n] h hf).logEvent (c := 0x17) (n := some 0x0A)

/-- GS_SQ_CMD names the sequencer of a restart that it takes. -/
def named (n : Nat) (s : State) : State := { s with sq := { s.sq with cmdSq := n == 1, cmdErr := 0 } }

/-- A restart keeps what GS_SQ_CMD says. -/
theorem restarted_named : restarted n c (named n s) = named n (restarted n c s) := by
  have h := logEvent_withSeqs (s := s) (k := 0x17) (o := some 0x0A) (x := BitVec.ofNat 32 n)
    (d := BitVec.ofNat 64 (c.toNat + 2 ^ 8 * bit (sqAt s n).role)) (e := BitVec.ofNat 64 (satInc 255 (sqAt s n).count))
    (named n s).sq s.boot.flashq
  have hb : (restartEntry n c (sqAt s n) s).boot = s.boot := logEvent_boot
  have e : restartEntry n c (sqAt s n) (named n s) = withSeqs (named n s).sq s.boot.flashq (restartEntry n c (sqAt s n) s) := h
  have hq : heldSeqs n c .reload (named n s) = { heldSeqs n c .reload s with cmdSq := n == 1, cmdErr := 0 } := by
    unfold heldSeqs modSq
    split_ifs <;> rfl
  have hn : sqAt (named n s) n = sqAt s n := rfl
  rw [restarted_eq, restarted_eq, hn, e, hq]
  rfl

/-- RESTART of a sequencer that runs or is STOPPED, by firmware of its own or another's. -/
theorem sqCommand_restarts (hn : n < 2) (hs : s.pwr.st ≠ .sleep) (hf : s.boot.flashq = [])
    (hr : sqRuns (sqAt s n) = true ∨ (sqAt s n).st = .stopped) : sqCommand acc n s =
      named n (restarted n (if (acc.rq == .sq0 && n == 0) || (acc.rq == .sq1 && n == 1) then 4 else 3) s) :=
  calc sqCommand acc n s
      = restartSq n (if (acc.rq == .sq0 && n == 0) || (acc.rq == .sq1 && n == 1) then 4 else 3) (named n s) := if_pos hr
    _ = _ := (restartSq_free (s := named n s) hn hs hf).trans restarted_named

/-- An event logged beside the answer at REGP. -/
theorem restarted_wrote : wrote (restarted n c s) = restarted n c (wrote s) := by
  have h := logEvent_beside (s := s) (k := 0x17) (o := some 0x0A) (x := BitVec.ofNat 32 n)
    (d := BitVec.ofNat 64 (c.toNat + 2 ^ 8 * bit (sqAt s n).role)) (e := BitVec.ofNat 64 (satInc 255 (sqAt s n).count))
    (heldSeqs n c .reload s) [n] { s.regp with rdata := 0 }
  have hl : wrote (restarted n c s) = { restartEntry n c (sqAt s n) s with
      sq := heldSeqs n c .reload s, regp := { s.regp with rdata := 0 }, boot := { s.boot with flashq := [n] } } := by
    have hr : (restartEntry n c (sqAt s n) s).regp = s.regp := logEvent_regp
    have hb : (restartEntry n c (sqAt s n) s).boot = s.boot := logEvent_boot
    rw [restarted_eq, wrote, withSeqs, hr, hb]
  exact hl.trans h.symm

/-! ## The end of a reload (18 R428) -/

/-- The state of the flash after it. -/
def flashFreed (s : State) : State := { s with boot := { s.boot with flashq := [] } }

theorem sqReloadDone_frees {image : List Byte} {p : Part} (hs : (sqAt s n).st = .reload) (hf : s.boot.flashq = [n])
    (hp : fwPart s n = some p) : sqReloadDone n image s =
      if p.len = image.length ∧ p.digest = Config.sha384 image.length (leNat image) then
        modSq n (fun q => loadFirmware image
          { q with st := .run, held := !(s.boot.phase == .links || s.boot.phase == .run) }) (flashFreed s)
      else logRestart n none true (modSq n (fun q => { q with st := .stopped }) (flashFreed s)) := by
  have hl : s.boot.flashq.filter (· != n) = [] := by simp [hf]
  have hd : flashDone n s = flashFreed s := by
    unfold flashDone
    rw [hl]
    rfl
  unfold sqReloadDone
  rw [if_neg (not_not_intro hs), hp, hd]
  simp only [Option.any_some, Bool.and_eq_true, beq_iff_eq]
  rfl

/-- A sequencer that stays STOPPED is logged as it was restarted. -/
theorem logRestart_stopped (hn : n < 2) : logRestart n none true (modSq n (fun q => { q with st := .stopped }) s) =
    logEvent 0x17 none (BitVec.ofNat 32 n) (BitVec.ofNat 64 ((sqAt s n).cause.toNat + 2 ^ 8 * bit (sqAt s n).role))
      (BitVec.ofNat 64 ((sqAt s n).count + 2 ^ 8)) (modSq n (fun q => { q with st := .stopped }) s) := by
  obtain rfl | rfl : n = 0 ∨ n = 1 := by omega
  all_goals rfl

/-- Nothing waits for a flash that is free. -/
theorem undisturbed_freed {f : Seqr → Seqr} (h : rest s = true) : Undisturbed s (modSq n f (flashFreed s)) :=
  undisturbed_seqs (modSq n f s).sq [] h rfl

/-! ## The registers (18 R427, R430) -/

/-- The address of a register, as an access names it. -/
def wordAt (a : Nat) : Nat := 4 * (BitVec.ofNat 23 (a / 4)).toNat

/-- A write of a register that is read at its address. -/
theorem regWrite_settles {a v : Nat} {t : State} (h : served acc s = true) (hv : (regVal (tick s) acc.rq (wordAt a)).isSome = true)
    (ht : regPut acc (wordAt a) (BitVec.ofNat 32 v) (tick s) = t) (hu : Undisturbed (tick s) t) :
    ∃ u, (.next (inCycle (whenPower (regWrite acc a v)) s) : Host.Outcome State Fault Refusal) = .next u ∧ still u = still (wrote t) :=
  cycle_settles ((whenPower_served _ h).trans ((regWrite_served h hv).trans (congrArg wrote ht))) (served_parts h).rest
    (hu.trans ⟨rfl, rfl, rfl⟩)

theorem regPut_restart (k : Fin 2) : regPut acc (wordAt 0x2110) (BitVec.ofNat 32 (2 ^ 2 * k.val + 1)) s =
    sqCommand acc k.val { s with sq := { s.sq with cmdSq := k.val == 1 } } := by
  fin_cases k <;> rfl

/-- GS_SQn_WDOG with KICK. -/
def kickWord (limit : BitVec 16) : W32 := BitVec.ofNat 32 (2 ^ 16 * limit.toNat + 1)

theorem kickWord_fields (limit : BitVec 16) : (kickWord limit).getLsbD 0 = true ∧ (kickWord limit).extractLsb' 16 16 = limit := by
  have hl := limit.isLt
  have h : (kickWord limit).toNat = 65536 * limit.toNat + 1 := by
    simp only [kickWord, BitVec.toNat_ofNat]
    omega
  refine ⟨?_, BitVec.eq_of_toNat_eq ?_⟩
  · rw [← BitVec.testBit_toNat, h, Nat.testBit_zero]
    simp
    omega
  · simp only [BitVec.extractLsb'_toNat, h, Nat.shiftRight_eq_div_pow]
    omega

theorem regPut_kick (k : Fin 2) (limit : BitVec 16) :
    regPut acc (wordAt (0x2118 + 4 * k.val)) (kickWord limit) s = wdogKick k.val limit s := by
  obtain ⟨h0, hl⟩ := kickWord_fields limit
  have e : regPut acc (wordAt (0x2118 + 4 * k.val)) (kickWord limit) s = sqWdog k.val (kickWord limit) s := by
    fin_cases k <;> rfl
  rw [e, sqWdog, h0, hl]
  rfl

/-- GS_SQn_SEND. -/
def sendWord (words : BitVec 6) (dst : DieId) : W32 := BitVec.ofNat 32 (2 ^ 20 * words.toNat + dst.toNat)

theorem sendWord_fields (words : BitVec 6) (dst : DieId) :
    (sendWord words dst).extractLsb' 20 6 = words ∧ (sendWord words dst).setWidth 20 = dst := by
  have hw := words.isLt
  have hd := dst.isLt
  have h : (sendWord words dst).toNat = 1048576 * words.toNat + dst.toNat := by
    simp only [sendWord, BitVec.toNat_ofNat]
    omega
  refine ⟨BitVec.eq_of_toNat_eq ?_, BitVec.eq_of_toNat_eq ?_⟩
  · simp only [BitVec.extractLsb'_toNat, h, Nat.shiftRight_eq_div_pow]
    omega
  · simp only [BitVec.toNat_setWidth, h]
    omega

theorem regPut_send (k : Fin 2) (words : BitVec 6) (dst : DieId) :
    regPut acc (wordAt (0x2164 + 4 * k.val)) (sendWord words dst) s = sqSend k.val words dst s := by
  obtain ⟨hw, hd⟩ := sendWord_fields words dst
  have e : regPut acc (wordAt (0x2164 + 4 * k.val)) (sendWord words dst) s =
      sqSend k.val ((sendWord words dst).extractLsb' 20 6) ((sendWord words dst).setWidth 20) s := by
    fin_cases k <;> rfl
  rw [e, hw, hd]

theorem regPut_pop (k : Fin 2) : regPut acc (wordAt (0x216C + 4 * k.val)) 1 s = mboxPop k.val s := by
  fin_cases k <;> rfl

/-- The oldest message goes. -/
theorem mboxPop_frees (hn : n < 2) (h : (sqAt s n).msgs ≠ 0) :
    mboxPop n s = modSq n (fun q => { q with msgs := q.msgs - 1, head := (q.head + 1) % 32 }) s := by
  obtain rfl | rfl : n = 0 ∨ n = 1 := by omega
  · have h' : ¬ s.sq.sq0.msgs = 0 := h
    simp [mboxPop, modSq, h']
  · have h' : ¬ s.sq.sq1.msgs = 0 := h
    simp [mboxPop, modSq, h']

/-- The memory of a sequencer whose firmware has written OUTBOX. -/
def outboxMem (n : Nat) (outbox : List Byte) (s : State) : Tbl Byte := memWrite 0x1BE00 outbox (sqAt s n).mem

/-- The message of OUTBOX. -/
def outgoing (n : Nat) (words : BitVec 6) (outbox : List Byte) (s : State) : Body :=
  outboxBody words.toNat (outboxOf { sqAt s n with mem := outboxMem n outbox s })

/-- A sequencer that sends from the memory `mem`. -/
def sending (words : BitVec 6) (dst : DieId) (mem : Tbl Byte) (fid : Nat) (q : Seqr) : Seqr :=
  { q with words, dst, mem, sendFid := some fid }

/-- OUTBOX as its firmware has written it. -/
def outboxed (n : Nat) (outbox : List Byte) (s : State) : State :=
  modSq n (fun q => { q with mem := memWrite 0x1BE00 outbox q.mem }) s

theorem sqSend_leaves (hn : n < 2) {words : BitVec 6} {dst : DieId} {outbox : List Byte} (hq : s.felt.txq = [])
    (hw : words.toNat ≤ 59) (hl : leaves dst (outgoing n words outbox s) s = true) : sqSend n words dst (outboxed n outbox s) =
      sent dst (outgoing n words outbox s) (modSq n (sending words dst (outboxMem n outbox s) s.felt.fid) s) := by
  have hb : ¬ (sqSendBusy (outboxed n outbox s) n = true ∨ 59 < words.toNat) := by
    have ht : (outboxed n outbox s).felt.txq = [] := hq
    simp [sqSendBusy, ht, hw]
  have e : sqSend n words dst (outboxed n outbox s) =
      sendFrame dst (outgoing n words outbox s) (modSq n (sending words dst (outboxMem n outbox s) s.felt.fid) s) := by
    unfold sqSend
    rw [if_neg hb]
    obtain rfl | rfl : n = 0 ∨ n = 1 := by omega
    all_goals rfl
  exact e.trans (sendFrame_leaves hl)

/-- Writing OUTBOX keeps an access served. -/
theorem served_outboxed {outbox : List Byte} (h : served acc s = true) : served acc (outboxed n outbox s) = true := by
  have hr : rest (outboxed n outbox s) = rest s :=
    (undisturbed_modSq (f := fun q => { q with mem := memWrite 0x1BE00 outbox q.mem }) n (served_parts h).rest fun _ => rfl).rest
  exact (congrArg (fun b => b && gclkOn s && !regpHeld s && accCtx acc == 0 && acc.rq != .regacc) hr).trans h

/-- The firmware writes OUTBOX and then GS_SQn_SEND. -/
def sendRow (acc : Acc) (k : Fin 2) (words : BitVec 6) (dst : DieId) (outbox : List Byte) (s : State) : State :=
  regWrite acc (0x2164 + 4 * k.val) (2 ^ 20 * words.toNat + dst.toNat) (outboxed k.val outbox s)

theorem sendRow_served {k : Fin 2} {words : BitVec 6} {dst : DieId} {outbox : List Byte} (h : served acc s = true)
    (hw : words.toNat ≤ 59) (hl : leaves dst (outgoing k.val words outbox s) s = true) :
    sendRow acc k words dst outbox (tick s) =
      wrote (sent dst (outgoing k.val words outbox s)
        (modSq k.val (sending words dst (outboxMem k.val outbox s) s.felt.fid) (tick s))) := by
  have hv : (regVal (tick (outboxed k.val outbox s)) acc.rq (wordAt (0x2164 + 4 * k.val))).isSome = true := by
    fin_cases k <;> rfl
  have hq : (tick s).felt.txq = [] := (resting (served_parts h).rest).txq
  exact (regWrite_served (s := outboxed k.val outbox s) (served_outboxed h) hv).trans
    (congrArg wrote ((regPut_send k words dst).trans (sqSend_leaves (s := tick s) k.isLt hq hw hl)))

theorem undisturbed_sending {words : BitVec 6} {dst : DieId} {m : Tbl Byte} {f : Nat} {b : Body} (h : rest s = true) :
    Undisturbed s (wrote (sent dst b (modSq n (sending words dst m f) s))) := by
  have hu : Undisturbed s (modSq n (sending words dst m f) s) := undisturbed_modSq n h fun _ => rfl
  exact (hu.trans (undisturbed_sent (hu.rest.trans h))).trans (undisturbed_regp _ _)

end

/-- Settles O31: a restart finds the flash free and gets it; the registers' writes are served in their cycle. -/
theorem sequencersRestartAndSend : Obligations.SequencersRestartAndSend := by
  unfold Obligations.SequencersRestartAndSend
  refine ⟨?_, ?_, ?_, ?_, ?_, ?_, ?_⟩
  · intro acc k s own v hs hr hf
    have hg := served_gclkOn hs
    obtain ⟨u, hu, e⟩ := regWrite_settles (a := 0x2110) hs rfl
      ((regPut_restart k).trans (sqCommand_restarts (s := tick s) k.isLt (sleepless hg) hf hr))
      ((undisturbed_restarted (s := tick s) k.isLt (served_parts hs).rest).trans ⟨rfl, rfl, rfl⟩)
    exact ⟨u, hu, e.trans (congrArg (fun x => still (named k.val x)) restarted_wrote)⟩
  · intro k s hr hg hq hl hf
    have e : wdogExpiry k.val (tick s) = restarted k.val 2 (tick s) :=
      (if_pos ⟨hq, hl⟩).trans (restartSq_free k.isLt (sleepless hg) hf)
    exact cycle_settles (f := whenOn (wdogExpiry k.val)) ((whenOn_alive _ (gclkOn_alive hg)).trans e) hr
      (undisturbed_restarted k.isLt hr)
  · intro k s hr hg hq hf
    have e : sqFault k.val (tick s) = restarted k.val 5 (tick s) :=
      (if_pos hq).trans (restartSq_free k.isLt (sleepless hg) hf)
    exact cycle_settles (f := whenOn (sqFault k.val)) ((whenOn_alive _ (gclkOn_alive hg)).trans e) hr
      (undisturbed_restarted k.isLt hr)
  · intro k image s p v hr hg hs hf hp
    have e := sqReloadDone_frees (s := tick s) (image := image) hs hf hp
    rw [logRestart_stopped k.isLt] at e
    refine cycle_settles (f := whenOn (sqReloadDone k.val image)) ((whenOn_alive _ (gclkOn_alive hg)).trans e) hr ?_
    split_ifs
    · exact undisturbed_freed (s := tick s) hr
    · exact (undisturbed_freed (s := tick s) hr).logEvent
  · intro acc k limit s hs
    have hv : (regVal (tick s) acc.rq (wordAt (0x2118 + 4 * k.val))).isSome = true := by fin_cases k <;> rfl
    exact regWrite_settles hs hv (regPut_kick k limit) (undisturbed_modSq _ (served_parts hs).rest fun _ => rfl)
  · intro acc k words dst outbox s mem b hs hw hl
    have hr : rest (tick s) = true := (served_parts hs).rest
    exact cycle_settles (f := whenPower (sendRow acc k words dst outbox))
      ((whenPower_served _ hs).trans (sendRow_served hs hw hl)) hr (undisturbed_sending hr)
  · intro acc k s hs hm
    have hv : (regVal (tick s) acc.rq (wordAt (0x216C + 4 * k.val))).isSome = true := by fin_cases k <;> rfl
    exact regWrite_settles hs hv ((regPut_pop k).trans (mboxPop_frees (s := tick s) k.isLt hm))
      (undisturbed_modSq _ (served_parts hs).rest fun _ => rfl)

end Sys2Proof.Proofs.Sequencers
end

section
/-! Security (17): a REGACC read that its clause does not describe. -/

namespace Sys2Proof.Proofs.Security

open Sys2Proof Sys2Proof.Machine Sys2Proof.Laws Sys2Proof.Proofs.Scope Sys2Proof.Proofs.Organisation Sys2Proof.Proofs.Messages

/-- A REGACC read at byte offset 5, which lies within the word of GS_ID. -/
def unalignedRead : BitVec 72 := BitVec.ofNat 72 (2 ^ 32 * 5)

/-- It is an access that no register's address names: no data come back (21 R460). -/
theorem unalignedRead_shows : shown (·.sec.regacc) (exec (.regacc unalignedRead) runningDie) = some unalignedRead := by
  decide +kernel

/-- Refutes O33, whose last clause reads the word of an offset alone: of an offset within the word of GS_ID, or one that lies a
multiple of 2^25 above it, the word is the same, but the access names no register and reads 0 (17 R407; 21 R460). -/
theorem not_tapCompletes : ¬ Obligations.TapCompletes := by
  unfold Obligations.TapCompletes
  rintro ⟨-, -, -, -, -, -, -, -, -, -, -, -, -, h⟩
  have claim := h unalignedRead runningDie
  iterate 8 specialize claim (by decide +kernel)
  exact absurd (refuted_by_shown claim (fun _ => rfl) unalignedRead_shows) (by decide +kernel)

end Sys2Proof.Proofs.Security
end
